-- ==== Sys2Proof/Word.lean ====
section
/-! DEFINITION. The words of the feeder and the fixed-size table that its tables, ports and channels are held in. -/

namespace Sys2Proof

/-- One byte of a stream unit, a chain message or a fixture bus frame (section 12). -/
abbrev Byte := BitVec 8

/-- A frame number: 32 bits wide, wrapping (section 0.5, Frame numbers). -/
abbrev FrameNo := BitVec 32

/-- A counter: 16 bits wide (section 0.5, Counters); it is stepped by `Machine.bump` alone, which stops at 65535. -/
abbrev Counter := BitVec 16

/-- A level: a 16-bit value from 0 to 65535 (section 0.5, Levels). -/
abbrev Level := BitVec 16

/-- A table of exactly `n` elements, held as a list with the proof of its length. -/
structure Tab (n : Nat) (α : Type) where
  data : List α
  size : data.length = n
deriving DecidableEq, Repr

namespace Tab

variable {n : Nat} {α β : Type}

/-- The element at index `i`. -/
def get (t : Tab n α) (i : Fin n) : α :=
  t.data[i.val]'(by rw [t.size]; exact i.isLt)

/-- The table with the element at index `i` replaced. -/
def set (t : Tab n α) (i : Fin n) (a : α) : Tab n α :=
  ⟨t.data.set i.val a, by rw [List.length_set, t.size]⟩

/-- The table whose element at each index is given. -/
def ofFn (f : Fin n → α) : Tab n α :=
  ⟨List.ofFn f, List.length_ofFn⟩

/-- The table that holds one value everywhere. -/
def replicate (n : Nat) (a : α) : Tab n α :=
  ⟨List.replicate n a, List.length_replicate⟩

/-- Every element, in order, changed in the same way. -/
def map (g : α → β) (t : Tab n α) : Tab n β :=
  ⟨t.data.map g, by rw [List.length_map, t.size]⟩

/-- One element changed. -/
def modify (t : Tab n α) (i : Fin n) (g : α → α) : Tab n α :=
  t.set i (g (t.get i))

/-- Every element changed, with its index. -/
def mapFin (g : Fin n → α → β) (t : Tab n α) : Tab n β :=
  ofFn fun i => g i (t.get i)

/-- The run of consecutive elements from `start` on replaced by `values`; what would fall past the end is ignored. -/
def writeFrom (t : Tab n α) (start : Nat) (values : List α) : Tab n α :=
  ofFn fun i => if start ≤ i.val then values.getD (i.val - start) (t.get i) else t.get i

/-- The first `n` values of a list, filled out with `d`. -/
def ofList (n : Nat) (d : α) (values : List α) : Tab n α :=
  ofFn fun i => values.getD i.val d

end Tab

end Sys2Proof
end

