-- ==== Sys2Proof/Syntax.lean ====
section
/-! DEFINITION. The commands of the feeder: one constructor for each row of spec/opcode_table.json. -/

namespace Sys2Proof

/-- Where the commit of a boundary stands among the take requests of that boundary, which meet it in either order (R58, R59).
The follow is decided before the contact Gos, so `gosFirst` puts it first too. -/
structure CommitOrder where
  /-- The contact take requests come before the commit. -/
  contactsFirst : Bool
  /-- The request of a follow comes before the commit. -/
  followFirst : Bool
  /-- The requests of the contact Gos come before the commit. -/
  gosFirst : Bool
deriving DecidableEq, Repr

/-- A training-complete exchange: the tick it is complete at, at which a token is sent (R101), and the width it names (R98). -/
structure Exchange where
  tick : Nat
  width : Nat
deriving DecidableEq, Repr

/-- How the return line stood around a received character (R168): whether its stop bit is at the idle level, and whether the line before
it was idle for two character times or at the break level (`gap`, log entry 31). -/
structure Framing where
  stop : Bool
  gap : Bool
deriving DecidableEq, Repr

/-- A step of the CM-2408 (spec/opcode_table.json). An operand named `t` is the tick of the timebase at which the step
comes about. A management command carries the tag of its management unit and the values of its body as R184 lays them
out: a number as the body's bytes give it (before any range check or clamp), a flag as its bit 0.
A step that names a port, a source or an input of the feeder's own names one that exists. -/
inductive Instr where
  /-- Power applied; `gp` are the contact samples that seed b_0 (R18, R35, R39). -/
  | powerOnReset (gp : Tab 4 Bool)
  /-- The reset line (R18, R35, R39). -/
  | lineReset (gp : Tab 4 Bool)
  | linkUp
  | linkDown
  /-- One byte received in HUNT (R2). -/
  | huntByte (b : Byte)
  /-- The five header bytes (R3). -/
  | headerReceived (streamId address length : Nat)
  /-- The payload and the received CRC-32, complete at the arrival tick (R4). -/
  | unitReceived (t : Nat) (payload : List Byte) (crc : BitVec 32)
  | managementUnitStart (t : Nat)
  | reportTransmitted
  | setIdentity (tag : Byte) (address : Nat) (label : List Byte)
  | setFilter (tag : Byte) (index value mask cls source : Nat)
  | setFiltersInUse (tag : Byte) (count : Nat)
  | setReference (tag : Byte) (code : Nat)
  | setInternalRate (tag : Byte) (ticks : Nat)
  | setPhaseOffset (tag : Byte) (ticks : Nat)
  | setPwmGrid (tag : Byte) (k : Nat)
  | setContactFunction (tag : Byte) (input function : Nat)
  /-- A table write: start index, stated count, and the bytes of the elements as Table 12-3 lays them out (R42). -/
  | writeTileEntries (tag : Byte) (start count : Nat) (elements : List Byte)
  | writeChainLengths (tag : Byte) (start count : Nat) (elements : List Byte)
  /-- The byte whose bits 0 to 3 are pairs 0 to 3 (R184). -/
  | writeRingFlags (tag : Byte) (flags : Nat)
  | writeCanvasSize (tag : Byte) (width height : Nat)
  | writeWallCurve (tag : Byte) (start count : Nat) (elements : List Byte)
  | writeLightCurve (tag : Byte) (start count : Nat) (elements : List Byte)
  | writePatch (tag : Byte) (start count : Nat) (elements : List Byte)
  | writeSlotCounts (tag : Byte) (start count : Nat) (elements : List Byte)
  | readTable (tag : Byte) (bank table start count : Nat)
  | clone (tag : Byte)
  | cloneComplete
  /-- The request code (0 an explicit frame, 1 "next") and F (R46, R184). -/
  | take (tag : Byte) (request frame : Nat)
  | validationEnd
  | cancelTake (tag : Byte)
  | hold (tag : Byte) (scope : Nat)
  | release (tag : Byte) (scope : Nat)
  | chainRetrain (tag : Byte) (port : Nat)
  | chainDisable (tag : Byte) (port : Nat)
  | chainEnable (tag : Byte) (port : Nat)
  | setChainBudget (tag : Byte) (chain budget step : Nat)
  | setSourcePriority (tag : Byte) (source priority : Nat)
  | setSourceTimeout (tag : Byte) (source timeout : Nat)
  /-- A whole cue record (Table 9-1); each pair is a channel and a level. -/
  | writeCue (tag : Byte) (number up down delay : Nat) (follow : Option Nat) (link : Bool) (pairs : List (Nat × Nat))
  | deleteCue (tag : Byte) (number : Nat)
  | readCue (tag : Byte) (number : Nat)
  | go (tag : Byte)
  | goTo (tag : Byte) (number : Nat)
  | back (tag : Byte)
  | halt (tag : Byte)
  | resume (tag : Byte)
  | clearPlayback (tag : Byte)
  | setPwmOutput (tag : Byte) (output alignment polarity phase : Nat) (pair : Bool)
  | setFixturePort (t : Nat) (tag : Byte) (port : Nat) (enable : Bool) (rate divisor : Nat)
  | queryFixture (t : Nat) (tag : Byte) (port address kind : Nat)
  | setEventMask (tag : Byte) (mask : Nat)
  | queryStatus (t : Nat) (tag : Byte) (block : Nat)
  | clearStatus (tag : Byte) (block mask : Nat)
  | clearCounters (tag : Byte) (block : Nat)
  | flushInputs (tag : Byte)
  /-- The boundary. `gp` are the levels of GP0 to GP3 at it; `order` is the order in which its take requests and its commit
  meet, which R58 leaves open. -/
  | frameBoundary (gp : Tab 4 Bool) (order : CommitOrder)
  /-- Source `k` stands for S1, S2 or S3 as `k` is 0, 1 or 2. -/
  | sourceSilenceTimeout (k : Fin 3)
  | fadeStart
  | fadeComplete
  | followGo
  | autoHoldSet
  | trainingTimeout (p : Fin 8)
  | recoveryFailure (p : Fin 8)
  | holdoffEnd (p : Fin 8)
  | periodicCensus (p : Fin 8)
  | fixtureRefresh (p : Fin 2)
  | holdoverEnd
  | marksAcquisitionTimeout
  | marksReferenceLost
  | genlockPulse (t : Nat)
  | acquisitionTimeout
  | referenceLost
  | mappingUnitTake
  | mappingUnitEnd
  | partnerPresent (p : Fin 8)
  | partnerLost (p : Fin 8)
  /-- A training-complete exchange on lane 0 that names a width (R98); an accepted one sends the token at its tick (R101). -/
  | trainingComplete (p : Fin 8) (exchange : Exchange)
  | censusAnswer (p : Fin 8) (hop : Nat)
  | censusWindowEnd (p : Fin 8)
  /-- `errors` symbol errors received, or told of by a symbol error report (R103, R185). -/
  | symbolError (p : Fin 8) (errors : Nat)
  | shifterFrameEnd (p : Fin 2)
  /-- A character on the return line: its data, its parity bit, and how the line stood around it (R168). -/
  | fixtureCharacter (p : Fin 2) (data : Byte) (parity : Bool) (line : Framing)
  | fixtureFrameEnd (p : Fin 2)
  | replyWindowClose (p : Fin 2)
deriving DecidableEq, Repr

end Sys2Proof
end

