-- ==== Sys2Proof/Decode.lean ====
section
/-! DEFINITION. The words of the opcode table. The feeder is a block: its commands are steps, and spec/opcode_table.json
gives no row any bits ("fields" is empty in all 85 rows), so no word spells a command. A command on the wire is a
management unit, whose body R184 lays out; it is read by `Machine.runUnit` in Sys2Proof/Machine/Management.lean. -/

namespace Sys2Proof

/-- The command that a word of the table spells: none, since the table gives no row any bits. -/
def decodeTableWord (_nbits _w : Nat) : Option Instr := none

end Sys2Proof
end

