-- ==== Sys2Proof/Config.lean ====
section
/-! DEFINITION. What the manual fixes once for the part (section 0.5, Table 0-2), and the free value that stands for what it leaves open. -/

namespace Sys2Proof.Config

/-- FREE VALUE (log entry 3). Nothing constrains it: each use draws the value at the next index of the state's count of draws. -/
opaque freeNat : Nat → Nat

/-- The shortest and the longest frame period in ticks (section 0.5, Timebase). -/
def minPeriod : Nat := 1000000
def maxPeriod : Nat := 4500000

/-- The frame period after either reset (Table 2-10). -/
def resetPeriod : Nat := 2000000

/-- The management lane and the picture buffer each hold 8 units (R12, R13). -/
def laneSize : Nat := 8
def bufferSize : Nat := 8

/-- The Report Queue holds 32 reports; a unit starts while reports and reservations number 31 or fewer (R174). -/
def queueRoom : Nat := 31

/-- Event reports are taken while fewer than 12 reports are queued (R177). -/
def eventRoom : Nat := 12

/-- The census window, the reply window and the acquisition time-out, in ticks (R101, R167, R25). -/
def censusWindow : Nat := 100000
def replyWindow : Nat := 200000
def acquisitionTicks : Nat := 4500000

/-- The lead-in of a fixture bus frame, in ticks: at the break level, then idle (R166, R186). -/
def breakTicks : Nat := 9600
def idleTicks : Nat := 1600
def leadIn : Nat := breakTicks + idleTicks

/-- The cue list holds at most 64 records of at most 48 pairs (R145, Table 9-1). -/
def cueRoom : Nat := 64
def pairRoom : Nat := 48

end Sys2Proof.Config
end

