-- ==== Sys2Proof/Machine/State.lean ====
section
/-! DEFINITION. The whole state of the CM-2408 as plain data, block by block, and the state right after reset. Each
field's docstring or its structure's names the rule of spec/ that gives it; INVENTORY.md lists them all. -/

namespace Sys2Proof.Machine

/-- No command of this machine ends in a fault: the manual answers every failure with a result code, a counter or a
sticky flag, which is a next state. The type is closed and has no constructor. -/
inductive Fault where
deriving DecidableEq, Repr

/-- A command that is turned away without a meaning. -/
inductive Refusal where
  /-- Raised by an arm of `exec` whose row has no meaning yet; no arm raises it. Safe. -/
  | notModelled (mnemonic : String)
deriving DecidableEq, Repr

/-! ## Intake: Program Link Port, Unit Filter, lanes (section 1) -/

/-- The link state (R1). -/
inductive LinkState where
  | down
  | up
deriving DecidableEq, Repr

/-- The framer (section 1.3): in HUNT, whether a byte 0xC5 is held (R2); in BODY, the header it read (R3). -/
inductive Framer where
  | hunt (held : Bool)
  | header
  | body (streamId address length : Nat)
deriving DecidableEq, Repr

/-- The classes of the Unit Filter, in the order section 1.5 names them. -/
inductive UnitClass where
  | management
  | picture
  | level
  | timeMark
  | discard
deriving DecidableEq, Repr

/-- One filter entry (section 1.5); the source is 0 for every class but level (R9). -/
structure FilterEntry where
  value : BitVec 16
  mask : BitVec 16
  cls : UnitClass
  source : Fin 4
deriving DecidableEq, Repr

/-- A management unit: command code, tag and body (Table 12-2). -/
structure MgmtUnit where
  code : Byte
  tag : Byte
  body : List Byte
deriving DecidableEq, Repr

/-- A pixel's colour codes, 0 to 1023 (section 12.1). -/
structure Pixel where
  red : BitVec 10
  green : BitVec 10
  blue : BitVec 10
deriving DecidableEq, Repr

/-- The contents of a picture unit (Table 5-1). -/
structure PictureUnit where
  frame : BitVec 16
  line : Nat
  first : Nat
  pixels : List Pixel
deriving DecidableEq, Repr

/-- What the frame tracker marked a buffered unit for (R78, R80, R81, R83): discard, already counted; mapping of its
first `kept` pixels into the OPEN frame; or, once that frame has ended, discard to be counted as late or unassigned. -/
inductive UnitMark where
  | discard
  | mapping (kept : Nat)
  | late
  | unassigned
deriving DecidableEq, Repr

/-- An entry of the picture buffer (R13), with the tracker's mark (R78). -/
structure BufferedUnit where
  picture : PictureUnit
  mark : UnitMark
deriving DecidableEq, Repr

/-- A time mark with its arrival tick (R15). -/
structure TimeMark where
  frame : FrameNo
  delay : Nat
  arrival : Nat
deriving DecidableEq, Repr

/-- The counters of Table 1-5. -/
structure IntakeCounters where
  skippedBytes : Counter
  lengthErrors : Counter
  crcErrors : Counter
  abortedUnits : Counter
  linkLosses : Counter
  notAddressed : Counter
  unmatched : Counter
  filtered : Counter
  classLengthErrors : Counter
  managementUnits : Counter
  laneOverflows : Counter
  pictureUnits : Counter
  bufferOverflows : Counter
  levelUnits : Counter
  timeMarks : Counter
  marksReplaced : Counter
deriving DecidableEq, Repr

/-- The intake state (R1 to R16, Table 1-6). `entries` holds entries 1 to 15 at indexes 0 to 14; entry 0 is fixed. -/
structure Intake where
  link : LinkState
  framer : Framer
  unitAddress : Byte
  locked : Bool
  label : Tab 16 Byte
  inUse : Nat
  entries : Tab 15 FilterEntry
  lane : List MgmtUnit
  buffer : List BufferedUnit
  slot : Option TimeMark
  linkLost : Bool
  laneOverflow : Bool
  counters : IntakeCounters
deriving DecidableEq, Repr

/-! ## Frame timing, reference lock and contact inputs (section 2) -/

/-- The references (R21, Table 2-1). -/
inductive Reference where
  | internal
  | genlock
  | marks
deriving DecidableEq, Repr

/-- The lock states (Table 2-2). -/
inductive LockState where
  | free
  | acquiring
  | locked
  | holdover
deriving DecidableEq, Repr

/-- A genlock acquisition run: its first interval, how many it holds, and their sum (section 2.4, R24). -/
structure PulseRun where
  first : Nat
  count : Nat
  sum : Nat
deriving DecidableEq, Repr

/-- The PWM grid of an interval (R33). -/
structure Grid where
  k : Nat
  p : Nat
  n : Nat
  residual : Nat
deriving DecidableEq, Repr

/-- The contact functions (Table 2-7). -/
inductive ContactFunction where
  | none
  | take
  | go
  | hold
deriving DecidableEq, Repr

/-- The counters of Table 2-9. -/
structure TimingCounters where
  invalidReferences : Counter
  acquisitionTimeouts : Counter
  locks : Counter
  holdoverEntries : Counter
  marksTaken : Counter
  lateMarks : Counter
  renumberings : Counter
deriving DecidableEq, Repr

/-- The Frame Timing Unit and the Contact Inputs (R19 to R39, Table 2-10). `length` is T_n of the current interval,
`lastPulse` the last reference pulse (R24, R26), `firstMark`, `lastMark`, `runMarks` and `secondEstimate` the marks
acquisition run (R30), `markWait` the boundaries without a mark taken (R30, R31), `holdoverCount` those in HOLDOVER
(R29), `k` the PWM periods in force (R34) and `grid` the grid of the current interval. -/
structure Timing where
  frame : FrameNo
  period : Nat
  length : Nat
  nextBoundary : Nat
  reference : Reference
  internalRate : Nat
  phaseOffset : Nat
  lock : LockState
  settled : Bool
  phaseError : Int
  lastPulse : Option Nat
  run : PulseRun
  firstMark : Option TimeMark
  lastMark : Option TimeMark
  runMarks : Nat
  secondEstimate : Int
  markWait : Nat
  holdoverCount : Nat
  k : Nat
  grid : Grid
  functions : Tab 4 ContactFunction
  samples : Tab 4 Bool
  referenceLost : Bool
  counters : TimingCounters
deriving DecidableEq, Repr

/-! ## Table banks and takes (section 3) -/

/-- A tile map entry, each field as wide as its stored range (Table 3-4); rotation counts quarter turns. -/
structure TileEntry where
  valid : Bool
  chain : Fin 8
  position : Fin 32
  rotation : Fin 4
  x : BitVec 13
  y : BitVec 12
  w : BitVec 9
  h : BitVec 9
  gainR : BitVec 13
  gainG : BitVec 13
  gainB : BitVec 13
  rated : BitVec 10
deriving DecidableEq, Repr

/-- A patch entry with all its parts, each as wide as its stored range (Table 3-4, section 3.1). -/
structure PatchEntry where
  kind : Fin 8
  curve : Fin 4
  trim : BitVec 13
  pwm : Fin 16
  port : Fin 2
  slot : BitVec 9
  mask : BitVec 8
deriving DecidableEq, Repr

/-- The eight tables of a bank (Table 3-1). -/
structure Bank where
  tiles : Tab 256 TileEntry
  lengths : Tab 8 (BitVec 6)
  rings : Tab 4 Bool
  canvasW : BitVec 14
  canvasH : BitVec 13
  wallCurve : Tab 1024 Level
  lightCurve : Tab 1024 Level
  patch : Tab 512 PatchEntry
  slotCounts : Tab 2 (BitVec 9)
deriving DecidableEq, Repr

/-- Who asked for a take (section 3.5). -/
inductive TakeOrigin where
  | command (tag : Byte)
  | contact (input : Fin 4)
  | cue (number : Nat)
deriving DecidableEq, Repr

/-- The take record: the effective frame asked for and the origin (section 3.5). -/
structure TakeRecord where
  frame : FrameNo
  origin : TakeOrigin
deriving DecidableEq, Repr

/-- The states of a take (Table 3-6); outside IDLE the take record is held. -/
inductive TakeState where
  | idle
  | validating (record : TakeRecord)
  | pending (record : TakeRecord)
deriving DecidableEq, Repr

/-- The tests of validation, in the order R49 to R53 name them. -/
inductive Check where
  | canvasWidth
  | canvasHeight
  | chainLength
  | slotCount
  | tileSize
  | tileInside
  | tilePosition
  | tileGains
  | tileDuplicate
  | ringPair
  | wallCurve
  | lightCurve
  | patchKind
  | patchCurve
  | patchTrim
  | patchRange
  | patchConflict
deriving DecidableEq, Repr

/-- A failed validation: the test and the index named (R48); the table follows from the test (Table 3-7). -/
structure Failure where
  check : Check
  index : Nat
deriving DecidableEq, Repr

/-- The reasons of TAKE_FAILED (Table 3-12). -/
inductive FailReason where
  | validation (failure : Failure)
  | alreadyPending
  | bankBusy
deriving DecidableEq, Repr

/-- The last take outcome (R61). -/
inductive TakeOutcome where
  | none
  | committed (effective : FrameNo) (late : Bool)
  | failed (reason : FailReason)
  | cancelled
deriving DecidableEq, Repr

/-- The counters of Table 3-13. -/
structure BankCounters where
  takesAccepted : Counter
  takesCommitted : Counter
  lateTakes : Counter
  validationsFailed : Counter
  requestsNotAccepted : Counter
  takesCancelled : Counter
  clones : Counter
deriving DecidableEq, Repr

/-- The Bank Store and the Take Controller (R40, R44, R61). `clone` holds the tag of the Clone in flight: it is that
operation's reservation too (section 11.1). -/
structure Banks where
  bankA : Bank
  bankB : Bank
  aActive : Bool
  clone : Option Byte
  take : TakeState
  last : TakeOutcome
  lateTake : Bool
  takeFailed : Bool
  counters : BankCounters
deriving DecidableEq, Repr

/-! ## The Level Path (section 4) -/

/-- The gains of one chain in the wall gain set of the interval (R63). -/
structure WallGain where
  master : Nat
  limiter : Nat
deriving DecidableEq, Repr

/-- The wall gain set of the interval and the GM of the evaluation at its boundary (R63, R71, R76). -/
structure LevelPath where
  gains : Tab 8 WallGain
  grandMaster : Nat
deriving DecidableEq, Repr

/-! ## The Canvas Mapper (section 5) -/

/-- The states of the current canvas frame (Table 5-2). -/
inductive FrameState where
  | isOpen
  | closed
  | abandoned
  | unassigned
deriving DecidableEq, Repr

/-- The current canvas frame record (R77): `lastEnd` is the end of the last accepted unit, `lines` the set of lines
mapped in rising order. -/
structure FrameRecord where
  number : BitVec 16
  state : FrameState
  assigned : Option FrameNo
  lastLine : Option Nat
  lastEnd : Nat
  lines : List Nat
  damaged : Bool
deriving DecidableEq, Repr

/-- The unit the mapping engine has taken, and the tick at which it will be done with it (R83). Of a unit being mapped,
`handed` counts the pieces handed on so far, and `begun` the pixels of the next whose values the limiter has (R85, R66). -/
structure MappingJob where
  unit : BufferedUnit
  due : Nat
  handed : Nat
  begun : Nat
deriving DecidableEq, Repr

/-- The presentation notice of a boundary that carries "new frame" (R86). -/
structure Notice where
  number : BitVec 16
  interval : FrameNo
deriving DecidableEq, Repr

/-- The counters of Table 5-9. -/
structure CanvasCounters where
  framesAssigned : Counter
  framesPresented : Counter
  framesDamaged : Counter
  framesSuperseded : Counter
  framesAbandoned : Counter
  lateUnits : Counter
  outOfOrderUnits : Counter
  outsideCanvasUnits : Counter
  clippedUnits : Counter
  unassignedUnits : Counter
deriving DecidableEq, Repr

/-- The Canvas Mapper and the holds (R77, R83, R87 to R91, R94). `assignedNow` says that a frame was assigned in the
running interval (R88); `notice` is what the last boundary handed on, none for "no new frame" (R86). -/
structure Canvas where
  record : Option FrameRecord
  engine : Option MappingJob
  notice : Option Notice
  operator : Bool
  contact : Bool
  auto : Bool
  autoCount : Nat
  assignedNow : Bool
  lightOperator : Bool
  lightHold : Bool
  frameDamaged : Bool
  counters : CanvasCounters
deriving DecidableEq, Repr

/-! ## The Chain Ports (section 6) -/

/-- The states of a port (Table 6-1). -/
inductive PortState where
  | down
  | training
  | active
  | recovery
  | disabled
deriving DecidableEq, Repr

/-- A width: 1, 2 or 4 lanes (section 6.1). -/
inductive Lanes where
  | one
  | two
  | four
deriving DecidableEq, Repr

/-- The rates of R110. -/
inductive Rate where
  | full
  | half
  | overbooked
deriving DecidableEq, Repr

/-- A tile a port reaches: its entry, the chain the entry names, and the position the port addresses it at (R111). -/
structure ReachedTile where
  entry : Fin 256
  chain : Fin 8
  position : Nat
deriving DecidableEq, Repr

/-- The latch of an interval (R111): depth and rate where the port is eligible, whether it carries pixel data, P of
R110, and the tiles it reaches (the fed tiles are these where it carries pixel data); `inForce` is the census in force
at its boundary (R108, R116). -/
structure Latch where
  choice : Option (Nat × Rate)
  pixelData : Bool
  pixels : Nat
  reached : List ReachedTile
  inForce : Nat
deriving DecidableEq, Repr

/-- A segment (R85): `column` says whether it runs along a column, `samples` are three for each of `count` pixels. -/
structure Segment where
  position : Nat
  column : Bool
  index : Nat
  start : Nat
  count : Nat
  depth : Nat
  samples : List Nat
deriving DecidableEq, Repr

/-- A running census: the tick of its token and the hops answered so far (R101). -/
structure CensusRun where
  sent : Nat
  hops : List Nat
deriving DecidableEq, Repr

/-- The counters of Table 6-4. -/
structure PortCounters where
  trainingFailures : Counter
  badExchanges : Counter
  recoveries : Counter
  recoveryFailures : Counter
  censusRuns : Counter
  overbookedIntervals : Counter
  framesBroken : Counter
  droppedSegments : Counter
  normalMarkers : Counter
  repeatMarkers : Counter
  capsSent : Counter
deriving DecidableEq, Repr

/-- A port record (R96, R116). `partner` is the return signal on lane 0 (section 6.1); `entryWidth` the width held on
entering RECOVERY (R104); `surplus` the excess of the last census (R101); `disable` the tag of a pending Chain Disable,
its reservation too; `unsent` the segments handed in the interval and not known to be sent (R112); `marker` the repeat
flag of the present marker sent at the last boundary, none where none was sent (R113); `unfed` the unfed tiles of the
chain (R111). An accepted exchange in TRAINING or RECOVERY is one whose census runs (R98, R100). -/
structure Port where
  partner : Bool
  state : PortState
  width : Option Lanes
  offer : Option Lanes
  count : Nat
  entryWidth : Option Lanes
  holdoff : Option Nat
  census : Nat
  surplus : Nat
  window : Option CensusRun
  censusCount : Nat
  errors : Nat
  disable : Option Byte
  retrain : Bool
  cap : Option Nat
  latch : Latch
  unfed : Nat
  broken : Bool
  unsent : List Segment
  marker : Option Bool
  presenceChanged : Bool
  widthNarrowed : Bool
  retrainDone : Bool
  counters : PortCounters
deriving DecidableEq, Repr

/-! ## The Power Limiter (section 7) -/

/-- The counters of Table 7-3. -/
structure LimiterCounters where
  updates : Counter
  attacks : Counter
  floored : Counter
deriving DecidableEq, Repr

/-- The limiter record of a chain (R118); `tiles` are the tile demands P_t of the last presentation. -/
structure ChainLimiter where
  budget : Nat
  step : Nat
  gain : Nat
  target : Nat
  demand : Option (Nat × FrameNo)
  tiles : Option (List Nat)
  unattainable : Bool
  counters : LimiterCounters
deriving DecidableEq, Repr

/-- The accumulation of one tile entry (R121): S_t, n_t and the rated power recorded when the frame began. -/
structure TileSum where
  sum : Nat
  count : Nat
  rated : Nat
deriving DecidableEq, Repr

/-- The Power Limiter (R118, R121): the accumulation stands while a canvas frame is OPEN. -/
structure Limiter where
  chains : Tab 8 ChainLimiter
  accumulation : Option (Tab 256 TileSum)
deriving DecidableEq, Repr

/-! ## The Lighting Merge (section 8) -/

/-- The source record of S1, S2 or S3 (R130) with its flag and counters (R143). -/
structure Source where
  image : Tab 512 Level
  cover : Tab 512 Bool
  live : Bool
  timeout : Nat
  silence : Nat
  unitSeen : Bool
  priority : Nat
  request : Option Nat
  sourceLost : Bool
  levelUnits : Counter
  silences : Counter
deriving DecidableEq, Repr

/-- One channel of the look: its merged level and its deciding source, none for "held" (R136). -/
structure LookEntry where
  level : Level
  decider : Option (Fin 4)
deriving DecidableEq, Repr

/-- The Lighting Merge (R130, R136): the priority of S0, the three external sources, and the look. -/
structure Merge where
  priority0 : Nat
  request0 : Option Nat
  sources : Tab 3 Source
  look : Tab 512 LookEntry
deriving DecidableEq, Repr

/-! ## The Cue Engine (section 9) -/

/-- A cue record (Table 9-1). -/
structure CueRecord where
  number : Nat
  pairs : List (Fin 512 × Level)
  up : Nat
  down : Nat
  delay : Nat
  follow : Option Nat
  link : Bool
deriving DecidableEq, Repr

/-- The playback states (Table 9-2); HALTED holds the state it was entered from (R148). -/
inductive PlayState where
  | idle
  | delay
  | fading
  | haltedDelay
  | haltedFading
  | resting
deriving DecidableEq, Repr

/-- The origin of the last accepted Go (R148, R157). -/
inductive GoOrigin where
  | none
  | command (tag : Byte)
  | contact (input : Fin 4)
  | follow
  | back
deriving DecidableEq, Repr

/-- One channel of the fade table: start level a, end level b, time F (R151); `kept` says that the target cue holds it, and
`entered` that the channel newly entered the coverage at the fade start (R138). -/
structure FadeChannel where
  start : Level
  stop : Level
  time : Nat
  kept : Bool
  entered : Bool
deriving DecidableEq, Repr

/-- The counters of Table 9-4. -/
structure CueCounters where
  gosAccepted : Counter
  contactGosRefused : Counter
  followsRefused : Counter
  fadesCompleted : Counter
  fadesInterrupted : Counter
deriving DecidableEq, Repr

/-- The cue list (R145) and the playback record (R148). `cover` is the S0 coverage set with S0's level on each channel. -/
structure Cue where
  list : List CueRecord
  state : PlayState
  current : Option Nat
  target : Option Nat
  delayLeft : Nat
  start : FrameNo
  elapsed : Nat
  fade : Tab 512 (Option FadeChannel)
  cover : Tab 512 (Option Level)
  origin : GoOrigin
  tookTake : Bool
  follow : Option FrameNo
  counters : CueCounters
deriving DecidableEq, Repr

/-! ## The Direct Drive (section 10) -/

/-- The settings of a PWM output (Table 10-1). -/
structure PwmSettings where
  centre : Bool
  activeLow : Bool
  phase : Nat
  pair : Bool
deriving DecidableEq, Repr

/-- A staged entry (section 10.2): no value, a light value, or the intensity and mix of a pair. -/
inductive Staged where
  | none
  | value (v : Nat)
  | pair (intensity mix : Nat)
deriving DecidableEq, Repr

/-- What an output shows (R160): idle, a duty of its own, or its part of a pair with d_i and d_w. -/
inductive Shown where
  | idle
  | duty (d : Nat)
  | warm (total warm : Nat)
  | cool (total warm : Nat)
deriving DecidableEq, Repr

/-- A PWM output (R159, R160). -/
structure PwmOutput where
  inForce : PwmSettings
  requested : Option PwmSettings
  staged : Staged
  shown : Shown
deriving DecidableEq, Repr

/-! ## The Fixture Bus Ports (section 10) -/

/-- The bit rates (R164). -/
inductive BitRate where
  | slow
  | fast
deriving DecidableEq, Repr

/-- The kinds of query, in the order R167 names them. -/
inductive QueryKind where
  | status
  | temperature
  | runHours
deriving DecidableEq, Repr

/-- The phase of an outstanding query (R167, R169, R172): waiting for the shifter, being sent, in its window until the
tick given, or past the window while a frame that began in it is still received. -/
inductive QueryPhase where
  | waiting
  | sending
  | window (closes : Nat)
  | closing
deriving DecidableEq, Repr

/-- An outstanding query, with the tag of its unit: its reservation too (section 11.1). -/
structure Query where
  tag : Byte
  address : Nat
  kind : QueryKind
  phase : QueryPhase
deriving DecidableEq, Repr

/-- What the shifter does (R166): idle, a level frame or a query frame begun at a tick at a rate, or the end of a
frame that a disable cut off after the character it was shifting, with the characters that remain of it (R164). -/
inductive Shifter where
  | idle
  | level (began : Nat) (rate : BitRate) (slots : List Byte)
  | query (began : Nat) (rate : BitRate)
  | cutOff (began : Nat) (rate : BitRate) (characters : List Byte)
deriving DecidableEq, Repr

/-- A received character with its error marks (R168). -/
structure RxChar where
  data : Byte
  parityError : Bool
  framingError : Bool
deriving DecidableEq, Repr

/-- A frame being received, and whether its first character arrived in a reply window (R168). -/
structure RxFrame where
  chars : List RxChar
  inWindow : Bool
deriving DecidableEq, Repr

/-- An entry of the reply FIFO (R170). -/
structure FifoEntry where
  chars : List Byte
  parity : Bool
  framing : Bool
deriving DecidableEq, Repr

/-- The counters of Table 10-5. -/
structure FixtureCounters where
  framesSent : Counter
  lateFrames : Counter
  queriesSent : Counter
  repliesGood : Counter
  repliesBad : Counter
  noReplies : Counter
  receivedCharacters : Counter
  unsolicitedFrames : Counter
  framesDiscarded : Counter
  overrunFrames : Counter
deriving DecidableEq, Repr

/-- A fixture port record (R164, R172). `slots` are the slot values computed at the last boundary (R74), `buffer` the
transmit buffer, `lastSnapshot` the last snapshot latched (R165), `rxRate` the receive rate (R164). -/
structure FixturePort where
  refreshing : Bool
  rate : BitRate
  divisor : Nat
  refreshCount : Nat
  slots : List Byte
  buffer : Option (List Byte)
  lastSnapshot : Option (List Byte)
  shifter : Shifter
  query : Option Query
  rxRate : BitRate
  rx : Option RxFrame
  fifo : List FifoEntry
  parity : Bool
  framing : Bool
  overrun : Bool
  counters : FixtureCounters
deriving DecidableEq, Repr

/-! ## The Management Engine and the Report Queue (section 11) -/

/-- The result codes in the order of Table 11-1. -/
inductive Result where
  | ok
  | malformed
  | outOfRange
  | busy
  | stageLocked
  | bankBusy
  | tooLate
  | nothingPending
  | notFound
  | endOfList
  | cueLive
  | listFull
  | idLocked
  | wrongState
  | noReply
  | replyBad
deriving DecidableEq, Repr

/-- The event kinds in the order of Table 11-2. -/
inductive EventKind where
  | takeDone
  | takeFailed
  | referenceState
  | renumbered
  | chainState
  | censusChanged
  | holdEntered
  | holdLeft
  | cueStarted
  | cueComplete
  | fixtureReply
  | limiterActive
  | limiterClear
deriving DecidableEq, Repr

/-- A report (Table 12-2): an answer with the tag and the command code of its unit, or an event. -/
inductive Report where
  | answer (tag : Byte) (command : Byte) (result : Result) (body : List Byte)
  | event (kind : EventKind) (body : List Byte)
deriving DecidableEq, Repr

/-- The counters of Table 11-3. -/
structure MgmtCounters where
  stalls : Counter
  malformedUnits : Counter
  answersQueued : Counter
  eventsAdmitted : Counter
  eventsLost : Counter
  eventsMasked : Counter
  reportsTransmitted : Counter
  reportsResent : Counter
deriving DecidableEq, Repr

/-- The Management Engine and the Report Queue (section 11.1, R177 to R180). `cut` says that a link loss cut the head
report off (R179); bit k of the mask selects event kind k (R184). The reservations stand with the operations they are
for: `Banks.clone`, `Port.disable`, `FixturePort.query`. -/
structure Mgmt where
  stalled : Bool
  queue : List Report
  cut : Bool
  mask : BitVec 13
  eventsLost : Bool
  counters : MgmtCounters
deriving DecidableEq, Repr

/-! ## What goes out -/

/-- The messages of a chain port (Table 12-4). -/
inductive ChainMessage where
  | segment (segment : Segment)
  | present (frame : FrameNo) (again half : Bool)
  | token
  | cap (watts : Nat)
  | pattern (offer : Lanes)
deriving DecidableEq, Repr

/-- The messages of a return line of a chain (Table 12-4). -/
inductive ReturnMessage where
  | censusAnswer (hop : Nat)
  | trainingComplete (width : Nat)
  | symbolErrors (errors : Nat)
deriving DecidableEq, Repr

/-- Something the feeder put on an outgoing line: a report unit (R183), a chain message at a width (R185), or the
characters of a fixture bus frame at a rate (R186). -/
inductive Emission where
  | report (bytes : List Byte)
  | chain (port : Fin 8) (width : Lanes) (message : ChainMessage)
  | fixture (port : Fin 2) (rate : BitRate) (characters : List Byte)
deriving DecidableEq, Repr

/-! ## The state -/

/-- The state of the feeder. `now` is the tick of the timebase (section 2.1). The model's own: `sent` is what went out on
the lines since reset, oldest first (log entry 4); `draws` counts the free values used (log entry 3); `pending` is the
queue of waiting commands, first in first out (log entry 1). -/
structure State where
  now : Nat
  intake : Intake
  timing : Timing
  banks : Banks
  level : LevelPath
  canvas : Canvas
  ports : Tab 8 Port
  limiter : Limiter
  merge : Merge
  cue : Cue
  drive : Tab 16 PwmOutput
  fixture : Tab 2 FixturePort
  mgmt : Mgmt
  sent : List Emission
  draws : Nat
  pending : List Instr
deriving DecidableEq, Repr

/-! ## The state right after reset -/

def Intake.reset : Intake where
  link := .down
  framer := .hunt false
  unitAddress := 0
  locked := false
  label := Tab.replicate 16 0x20
  inUse := 1
  entries := Tab.replicate 15 ⟨0, 0, .discard, 0⟩
  lane := []
  buffer := []
  slot := none
  linkLost := false
  laneOverflow := false
  counters := ⟨0, 0, 0, 0, 0, 0, 0, 0, 0, 0, 0, 0, 0, 0, 0, 0⟩

/-- Table 2-10 and R39: T_0 = 2,000,000, K = 4, P = 8, N = 62,500, residual 0. The samples seeded at b_0 are low here
(log entry 5). -/
def Timing.reset : Timing where
  frame := 0
  period := Config.resetPeriod
  length := Config.resetPeriod
  nextBoundary := Config.resetPeriod
  reference := .internal
  internalRate := Config.resetPeriod
  phaseOffset := 0
  lock := .free
  settled := false
  phaseError := 0
  lastPulse := none
  run := ⟨0, 0, 0⟩
  firstMark := none
  lastMark := none
  runMarks := 0
  secondEstimate := 0
  markWait := 0
  holdoverCount := 0
  k := 4
  grid := ⟨4, 8, 62500, 0⟩
  functions := Tab.replicate 4 .none
  samples := Tab.replicate 4 false
  referenceLost := false
  counters := ⟨0, 0, 0, 0, 0, 0, 0⟩

def TileEntry.reset : TileEntry := ⟨false, 0, 0, 0, 0, 0, 0, 0, 0, 0, 0, 0⟩

def PatchEntry.reset : PatchEntry := ⟨0, 0, 4096, 0, 0, 0, 0⟩

/-- Table 3-2. -/
def Bank.reset : Bank where
  tiles := Tab.replicate 256 TileEntry.reset
  lengths := Tab.replicate 8 0
  rings := Tab.replicate 4 false
  canvasW := 1920
  canvasH := 1080
  wallCurve := Tab.ofFn fun i => BitVec.ofNat 16 (i.val * 65535 / 1023)
  lightCurve := Tab.ofFn fun i => BitVec.ofNat 16 (64 * i.val)
  patch := Tab.replicate 512 PatchEntry.reset
  slotCounts := Tab.replicate 2 0

def Banks.reset : Banks where
  bankA := Bank.reset
  bankB := Bank.reset
  aActive := true
  clone := none
  take := .idle
  last := .none
  lateTake := false
  takeFailed := false
  counters := ⟨0, 0, 0, 0, 0, 0, 0⟩

def LevelPath.reset : LevelPath where
  gains := Tab.replicate 8 ⟨4096, 4096⟩
  grandMaster := 4096

/-- Table 5-10. -/
def Canvas.reset : Canvas where
  record := none
  engine := none
  notice := none
  operator := false
  contact := false
  auto := false
  autoCount := 0
  assignedNow := false
  lightOperator := false
  lightHold := false
  frameDamaged := false
  counters := ⟨0, 0, 0, 0, 0, 0, 0, 0, 0, 0⟩

def Latch.empty : Latch := ⟨none, false, 0, [], 0⟩

/-- R117; no partner is present (log entry 5). -/
def Port.reset : Port where
  partner := false
  state := .down
  width := none
  offer := none
  count := 0
  entryWidth := none
  holdoff := none
  census := 0
  surplus := 0
  window := none
  censusCount := 0
  errors := 0
  disable := none
  retrain := false
  cap := none
  latch := Latch.empty
  unfed := 0
  broken := false
  unsent := []
  marker := none
  presenceChanged := false
  widthNarrowed := false
  retrainDone := false
  counters := ⟨0, 0, 0, 0, 0, 0, 0, 0, 0, 0, 0⟩

/-- Table 7-4. -/
def ChainLimiter.reset : ChainLimiter := ⟨0, 64, 4096, 4096, none, none, false, ⟨0, 0, 0⟩⟩

def Limiter.reset : Limiter := ⟨Tab.replicate 8 ChainLimiter.reset, none⟩

/-- Table 8-6. -/
def Source.reset : Source where
  image := Tab.replicate 512 0
  cover := Tab.replicate 512 false
  live := false
  timeout := 100
  silence := 0
  unitSeen := false
  priority := 4
  request := none
  sourceLost := false
  levelUnits := 0
  silences := 0

def Merge.reset : Merge :=
  ⟨4, none, Tab.replicate 3 Source.reset, Tab.replicate 512 ⟨0, none⟩⟩

/-- R145, R148. -/
def Cue.reset : Cue where
  list := []
  state := .idle
  current := none
  target := none
  delayLeft := 0
  start := 0
  elapsed := 0
  fade := Tab.replicate 512 none
  cover := Tab.replicate 512 none
  origin := .none
  tookTake := false
  follow := none
  counters := ⟨0, 0, 0, 0, 0⟩

/-- Table 10-1 and R160. -/
def PwmOutput.reset : PwmOutput := ⟨⟨false, false, 0, false⟩, none, .none, .idle⟩

/-- Table 10-6; the refresh count and the receive rate of a port that is OFF are the model's (log entry 5). -/
def FixturePort.reset : FixturePort where
  refreshing := false
  rate := .slow
  divisor := 1
  refreshCount := 1
  slots := []
  buffer := none
  lastSnapshot := none
  shifter := .idle
  query := none
  rxRate := .slow
  rx := none
  fifo := []
  parity := false
  framing := false
  overrun := false
  counters := ⟨0, 0, 0, 0, 0, 0, 0, 0, 0, 0⟩

/-- Table 11-6: the mask selects all thirteen kinds. -/
def Mgmt.reset : Mgmt := ⟨false, [], false, 0x1FFF, false, ⟨0, 0, 0, 0, 0, 0, 0, 0⟩⟩

/-- The machine right after reset, which ends at boundary b_0 (R39). -/
def State.reset : State where
  now := 0
  intake := Intake.reset
  timing := Timing.reset
  banks := Banks.reset
  level := LevelPath.reset
  canvas := Canvas.reset
  ports := Tab.replicate 8 Port.reset
  limiter := Limiter.reset
  merge := Merge.reset
  cue := Cue.reset
  drive := Tab.replicate 16 PwmOutput.reset
  fixture := Tab.replicate 2 FixturePort.reset
  mgmt := Mgmt.reset
  sent := []
  draws := 0
  pending := []

/-! ## Updates of one block -/

def State.setNow (s : State) (x : Nat) : State := { s with now := x }
def State.setIntake (s : State) (x : Intake) : State := { s with intake := x }
def State.setTiming (s : State) (x : Timing) : State := { s with timing := x }
def State.setBanks (s : State) (x : Banks) : State := { s with banks := x }
def State.setLevel (s : State) (x : LevelPath) : State := { s with level := x }
def State.setCanvas (s : State) (x : Canvas) : State := { s with canvas := x }
def State.setPorts (s : State) (x : Tab 8 Port) : State := { s with ports := x }
def State.setLimiter (s : State) (x : Limiter) : State := { s with limiter := x }
def State.setMerge (s : State) (x : Merge) : State := { s with merge := x }
def State.setCue (s : State) (x : Cue) : State := { s with cue := x }
def State.setDrive (s : State) (x : Tab 16 PwmOutput) : State := { s with drive := x }
def State.setFixture (s : State) (x : Tab 2 FixturePort) : State := { s with fixture := x }
def State.setMgmt (s : State) (x : Mgmt) : State := { s with mgmt := x }
def State.setSent (s : State) (x : List Emission) : State := { s with sent := x }
def State.setDraws (s : State) (x : Nat) : State := { s with draws := x }
def State.setPending (s : State) (x : List Instr) : State := { s with pending := x }

end Sys2Proof.Machine
end

