-- ==== Sys2Proof/Machine/Flags.lean ====
section
/-! DEFINITION. Counters and sticky flags (section 0.5). -/

namespace Sys2Proof.Machine

/-- A counter stepped once: it stops at 65535 (section 0.5, Counters). -/
def bump (c : Counter) : Counter := if c = 65535 then c else c + 1

/-- A counter stepped `k` times. -/
def bumpBy : Nat → Counter → Counter
  | 0, c => c
  | k + 1, c => bumpBy k (bump c)

/-- A counter stepped where a condition holds. -/
def bumpIf (b : Bool) (c : Counter) : Counter := if b then bump c else c

/-- A sticky flag after Clear Status: bit `k` of the mask names it (R184). -/
def clearFlag (mask k : Nat) (flag : Bool) : Bool := flag && !mask.testBit k

def IntakeCounters.zero : IntakeCounters := ⟨0, 0, 0, 0, 0, 0, 0, 0, 0, 0, 0, 0, 0, 0, 0, 0⟩
def TimingCounters.zero : TimingCounters := ⟨0, 0, 0, 0, 0, 0, 0⟩
def BankCounters.zero : BankCounters := ⟨0, 0, 0, 0, 0, 0, 0⟩
def CanvasCounters.zero : CanvasCounters := ⟨0, 0, 0, 0, 0, 0, 0, 0, 0, 0⟩
def PortCounters.zero : PortCounters := ⟨0, 0, 0, 0, 0, 0, 0, 0, 0, 0, 0⟩
def LimiterCounters.zero : LimiterCounters := ⟨0, 0, 0⟩
def CueCounters.zero : CueCounters := ⟨0, 0, 0, 0, 0⟩
def FixtureCounters.zero : FixtureCounters := ⟨0, 0, 0, 0, 0, 0, 0, 0, 0, 0⟩
def MgmtCounters.zero : MgmtCounters := ⟨0, 0, 0, 0, 0, 0, 0, 0⟩

end Sys2Proof.Machine
end

