-- ==== Sys2Proof/Machine/Operands.lean ====
section
/-! DEFINITION. The operand forms: codes for choices among named values, both ways (R184: the values are numbered from 0
in the order their rule names them), frame number differences, gains, and the range of a clamp. -/

namespace Sys2Proof.Machine

/-- The difference of two frame numbers modulo 2^32, read as a signed number (section 0.5, Frame numbers). -/
def frameDiff (a b : FrameNo) : Int := (a - b).toInt

/-- A value brought into a range. -/
def clampNat (low high v : Nat) : Nat := max low (min high v)

/-- A frame period brought into the range the FTU holds (section 2.1). -/
def clampPeriod (v : Nat) : Nat := clampNat Config.minPeriod Config.maxPeriod v

/-- A value scaled by a gain, rounded half up: floor((v × gain + 2048) / 4096) (sections 0.5, 4). -/
def scaleGain (v gain : Nat) : Nat := (v * gain + 2048) / 4096

/-- A gain from a merged level: floor((m + 8) / 16) (R64, R71). -/
def gainOfLevel (m : Nat) : Nat := (m + 8) / 16

def UnitClass.code : UnitClass → Nat
  | .management => 0
  | .picture => 1
  | .level => 2
  | .timeMark => 3
  | .discard => 4

/-- The class a code names, none where it names none of the five (R9). -/
def classOfCode : Nat → Option UnitClass
  | 0 => some .management
  | 1 => some .picture
  | 2 => some .level
  | 3 => some .timeMark
  | 4 => some .discard
  | _ => none

def Reference.code : Reference → Nat
  | .internal => 0
  | .genlock => 1
  | .marks => 2

/-- The reference a code names (R21). -/
def referenceOfCode : Nat → Option Reference
  | 0 => some .internal
  | 1 => some .genlock
  | 2 => some .marks
  | _ => none

/-- The lock states on the wire, in the order of Table 2-2 (log entries 17 and 18). -/
def LockState.code : LockState → Nat
  | .free => 0
  | .acquiring => 1
  | .locked => 2
  | .holdover => 3

def ContactFunction.code : ContactFunction → Nat
  | .none => 0
  | .take => 1
  | .go => 2
  | .hold => 3

/-- The contact function a code names (R36). -/
def functionOfCode : Nat → Option ContactFunction
  | 0 => some .none
  | 1 => some .take
  | 2 => some .go
  | 3 => some .hold
  | _ => none

/-- The scopes of Hold and Release: whether the wall and whether the light are named (R89, R90). -/
def scopeOfCode : Nat → Option (Bool × Bool)
  | 0 => some (true, false)
  | 1 => some (false, true)
  | 2 => some (true, true)
  | _ => none

/-- The bit rate a code names (R184). -/
def rateOfCode : Nat → Option BitRate
  | 0 => some .slow
  | 1 => some .fast
  | _ => none

def BitRate.code : BitRate → Nat
  | .slow => 0
  | .fast => 1

/-- The query kind a code names (R167, R184). -/
def queryOfCode : Nat → Option QueryKind
  | 0 => some .status
  | 1 => some .temperature
  | 2 => some .runHours
  | _ => none

def QueryKind.code : QueryKind → Nat
  | .status => 0
  | .temperature => 1
  | .runHours => 2

/-- The character that names a kind on the fixture bus (Table 12-5). -/
def QueryKind.character : QueryKind → Byte
  | .status => 0x01
  | .temperature => 0x02
  | .runHours => 0x03

def LinkState.code : LinkState → Nat
  | .down => 0
  | .up => 1

def Framer.code : Framer → Nat
  | .hunt _ => 0
  | .header => 1
  | .body _ _ _ => 2

def FrameState.code : FrameState → Nat
  | .isOpen => 0
  | .closed => 1
  | .abandoned => 2
  | .unassigned => 3

def PortState.code : PortState → Nat
  | .down => 0
  | .training => 1
  | .active => 2
  | .recovery => 3
  | .disabled => 4

def Rate.code : Rate → Nat
  | .full => 0
  | .half => 1
  | .overbooked => 2

def PlayState.code : PlayState → Nat
  | .idle => 0
  | .delay => 1
  | .fading => 2
  | .haltedDelay => 3
  | .haltedFading => 3
  | .resting => 4

def Check.code : Check → Nat
  | .canvasWidth => 0
  | .canvasHeight => 1
  | .chainLength => 2
  | .slotCount => 3
  | .tileSize => 4
  | .tileInside => 5
  | .tilePosition => 6
  | .tileGains => 7
  | .tileDuplicate => 8
  | .ringPair => 9
  | .wallCurve => 10
  | .lightCurve => 11
  | .patchKind => 12
  | .patchCurve => 13
  | .patchTrim => 14
  | .patchRange => 15
  | .patchConflict => 16

/-- The table a failed check names, by its row of Table 3-1 (Table 3-7, R184). -/
def Check.table : Check → Nat
  | .canvasWidth | .canvasHeight => 3
  | .chainLength => 1
  | .slotCount => 7
  | .tileSize | .tileInside | .tilePosition | .tileGains | .tileDuplicate => 0
  | .ringPair => 2
  | .wallCurve => 4
  | .lightCurve => 5
  | .patchKind | .patchCurve | .patchTrim | .patchRange | .patchConflict => 6

/-- The rows of Table 11-1 from 0 (R184). -/
def Result.code : Result → Nat
  | .ok => 0
  | .malformed => 1
  | .outOfRange => 2
  | .busy => 3
  | .stageLocked => 4
  | .bankBusy => 5
  | .tooLate => 6
  | .nothingPending => 7
  | .notFound => 8
  | .endOfList => 9
  | .cueLive => 10
  | .listFull => 11
  | .idLocked => 12
  | .wrongState => 13
  | .noReply => 14
  | .replyBad => 15

/-- The rows of Table 11-2 from 0 (R184). -/
def EventKind.code : EventKind → Nat
  | .takeDone => 0
  | .takeFailed => 1
  | .referenceState => 2
  | .renumbered => 3
  | .chainState => 4
  | .censusChanged => 5
  | .holdEntered => 6
  | .holdLeft => 7
  | .cueStarted => 8
  | .cueComplete => 9
  | .fixtureReply => 10
  | .limiterActive => 11
  | .limiterClear => 12

def Lanes.toNat : Lanes → Nat
  | .one => 1
  | .two => 2
  | .four => 4

/-- The width a training-complete exchange names, none where it names other than 1, 2 or 4 (R98, R185). -/
def lanesOfNat : Nat → Option Lanes
  | 1 => some .one
  | 2 => some .two
  | 4 => some .four
  | _ => none

/-- The offer stepped narrower: 4 to 2, 2 to 1, and 1 stays (R98). -/
def Lanes.narrower : Lanes → Lanes
  | .four => .two
  | .two => .one
  | .one => .one

/-- The ticks a character of 11 bits lasts (R166). -/
def BitRate.characterTicks : BitRate → Nat
  | .slow => 4400
  | .fast => 2200

/-- The port, chain, input or output that a number names, none where it is out of range. -/
def finOf (n v : Nat) : Option (Fin n) := if h : v < n then some ⟨v, h⟩ else none

end Sys2Proof.Machine
end

