-- ==== Sys2Proof/Machine/Wire.lean ====
section
/-! DEFINITION. Wire formats (section 12): byte order, bodies, the CRC-32, chain messages, fixture bus frames. -/

namespace Sys2Proof.Machine

/-! ## Values of a body, most significant byte first (section 12, R184) -/

def u8 (v : Nat) : List Byte := [BitVec.ofNat 8 v]
def u16 (v : Nat) : List Byte := [BitVec.ofNat 8 (v / 256), BitVec.ofNat 8 v]
def u32 (v : Nat) : List Byte :=
  [BitVec.ofNat 8 (v / 16777216), BitVec.ofNat 8 (v / 65536), BitVec.ofNat 8 (v / 256), BitVec.ofNat 8 v]

/-- A flag takes one byte, read from bit 0 (R184). -/
def flag (b : Bool) : List Byte := u8 b.toNat

/-- A signed tick count in 4 bytes, two's complement (log entry 16). -/
def i32 (v : Int) : List Byte := u32 (BitVec.ofInt 32 v).toNat

/-- A value that may be absent: a presence byte, then the value where it is present (R184). -/
def opt {α : Type} (f : α → List Byte) : Option α → List Byte
  | none => u8 0
  | some a => u8 1 ++ f a

/-- A list whose count cannot exceed 255, and one whose count can: the count, then the values (R184). -/
def list8 {α : Type} (f : α → List Byte) (l : List α) : List Byte := u8 l.length ++ l.flatMap f
def list16 {α : Type} (f : α → List Byte) (l : List α) : List Byte := u16 l.length ++ l.flatMap f

/-- The values of a fixed table, in order, with no count. -/
def every {α : Type} {n : Nat} (f : α → List Byte) (t : Tab n α) : List Byte := t.data.flatMap f

/-- The number a counter or another bit vector holds, in 2 bytes. -/
def c16 (c : Counter) : List Byte := u16 c.toNat

/-- A frame number takes 4 bytes (R184). -/
def frameBytes (f : FrameNo) : List Byte := u32 f.toNat

/-- The 1-, 2- and 4-byte values that begin at an offset of a body; a byte past the end reads 0. -/
def byteAt (l : List Byte) (i : Nat) : Nat := (l.getD i 0).toNat
def wordAt (l : List Byte) (i : Nat) : Nat := byteAt l i * 256 + byteAt l (i + 1)
def longAt (l : List Byte) (i : Nat) : Nat := wordAt l i * 65536 + wordAt l (i + 2)

/-- The `count` consecutive elements of `size` bytes each, read in the same way. -/
def elementsOf {α : Type} (size : Nat) (read : List Byte → α) (count : Nat) (l : List Byte) : List α :=
  (List.range count).map fun k => read ((l.drop (k * size)).take size)

/-! ## Stream units (R183) -/

/-- One bit of the division by the generator 0xEDB88320, least significant bit first. -/
def crcBit (r : BitVec 32) : BitVec 32 :=
  if r.getLsbD 0 then (r >>> 1) ^^^ 0xEDB88320#32 else r >>> 1

/-- One byte taken into the register. -/
def crcByte (r : BitVec 32) (b : Byte) : BitVec 32 :=
  crcBit (crcBit (crcBit (crcBit (crcBit (crcBit (crcBit (crcBit (r ^^^ b.setWidth 32))))))))

/-- The CRC-32: preset to all ones, inverted at the end. -/
def crc32 (bytes : List Byte) : BitVec 32 :=
  ~~~(bytes.foldl crcByte 0xFFFFFFFF#32)

/-- The CRC-32 as it is sent, least significant byte first. -/
def crcBytes (c : BitVec 32) : List Byte :=
  [c.setWidth 8, (c >>> 8).setWidth 8, (c >>> 16).setWidth 8, (c >>> 24).setWidth 8]

/-- The bytes a unit's CRC-32 covers: stream ID, address, payload length, payload. -/
def covered (streamId address length : Nat) (payload : List Byte) : List Byte :=
  u16 streamId ++ u8 address ++ u16 length ++ payload

/-- A stream unit (Table 12-1). -/
def unitBytes (streamId address : Nat) (payload : List Byte) : List Byte :=
  [0xC5, 0x3A] ++ covered streamId address payload.length payload ++
    crcBytes (crc32 (covered streamId address payload.length payload))

/-- The payload of a report (Table 12-2, R184). -/
def Report.payload : Report → List Byte
  | .answer tag command result body => u8 0x01 ++ [tag, command] ++ u8 result.code ++ body
  | .event kind body => u8 0x02 ++ u8 0 ++ u8 kind.code ++ u8 0 ++ body

/-- A pixel: red in bits 29 to 20, green in 19 to 10, blue in 9 to 0 (section 12.1). -/
def pixelOfBytes (l : List Byte) : Pixel :=
  ⟨BitVec.ofNat 10 (longAt l 0 / 1048576), BitVec.ofNat 10 (longAt l 0 / 1024), BitVec.ofNat 10 (longAt l 0)⟩

/-- A picture unit's payload (Table 12-2). -/
def pictureOfPayload (l : List Byte) : PictureUnit :=
  ⟨BitVec.ofNat 16 (wordAt l 0), wordAt l 2, wordAt l 4, elementsOf 4 pixelOfBytes (wordAt l 6) (l.drop 8)⟩

/-! ## Table elements (Table 12-3); a value keeps the bits its field holds (R42) -/

def tileOfBytes (l : List Byte) : TileEntry where
  valid := (byteAt l 0).testBit 0
  chain := Fin.ofNat 8 (byteAt l 1)
  position := Fin.ofNat 32 (byteAt l 2)
  rotation := Fin.ofNat 4 (byteAt l 3)
  x := BitVec.ofNat 13 (wordAt l 4)
  y := BitVec.ofNat 12 (wordAt l 6)
  w := BitVec.ofNat 9 (wordAt l 8)
  h := BitVec.ofNat 9 (wordAt l 10)
  gainR := BitVec.ofNat 13 (wordAt l 12)
  gainG := BitVec.ofNat 13 (wordAt l 14)
  gainB := BitVec.ofNat 13 (wordAt l 16)
  rated := BitVec.ofNat 10 (wordAt l 18)

def TileEntry.bytes (e : TileEntry) : List Byte :=
  flag e.valid ++ u8 e.chain.val ++ u8 e.position.val ++ u8 e.rotation.val ++ u16 e.x.toNat ++ u16 e.y.toNat ++
    u16 e.w.toNat ++ u16 e.h.toNat ++ u16 e.gainR.toNat ++ u16 e.gainG.toNat ++ u16 e.gainB.toNat ++ u16 e.rated.toNat

def patchOfBytes (l : List Byte) : PatchEntry where
  kind := Fin.ofNat 8 (byteAt l 0)
  curve := Fin.ofNat 4 (byteAt l 1)
  trim := BitVec.ofNat 13 (wordAt l 2)
  pwm := Fin.ofNat 16 (byteAt l 4)
  port := Fin.ofNat 2 (byteAt l 5)
  slot := BitVec.ofNat 9 (wordAt l 6)
  mask := BitVec.ofNat 8 (byteAt l 8)

def PatchEntry.bytes (e : PatchEntry) : List Byte :=
  u8 e.kind.val ++ u8 e.curve.val ++ u16 e.trim.toNat ++ u8 e.pwm.val ++ u8 e.port.val ++ u16 e.slot.toNat ++
    u8 e.mask.toNat

def levelOfBytes (l : List Byte) : Level := BitVec.ofNat 16 (wordAt l 0)
def lengthOfBytes (l : List Byte) : BitVec 6 := BitVec.ofNat 6 (byteAt l 0)
def slotCountOfBytes (l : List Byte) : BitVec 9 := BitVec.ofNat 9 (wordAt l 0)

/-- The ring flags in one byte, bit k for pair k (R184). -/
def ringByte (rings : Tab 4 Bool) : List Byte :=
  u8 ((rings.get 0).toNat + 2 * (rings.get 1).toNat + 4 * (rings.get 2).toNat + 8 * (rings.get 3).toNat)

/-! ## Chain link messages (R185) -/

/-- The bits of a sample, most significant first. -/
def sampleBits (depth v : Nat) : List Bool := (List.range depth).map fun i => v.testBit (depth - 1 - i)

/-- Bits packed eight to a byte, most significant first, the last byte filled out with zero bits. -/
def packBits (bits : List Bool) : List Byte :=
  (List.range ((bits.length + 7) / 8)).map fun k =>
    BitVec.ofNat 8 ((List.range 8).foldl (fun a i => 2 * a + (bits.getD (8 * k + i) false).toNat) 0)

/-- The samples of a segment, packed with no gaps. -/
def packSamples (depth : Nat) (samples : List Nat) : List Byte :=
  packBits (samples.flatMap (sampleBits depth))

/-- A message as Table 12-4 lays it out. -/
def ChainMessage.bytes : ChainMessage → List Byte
  | .segment g =>
    u8 0x01 ++ u8 g.position ++ flag g.column ++ u8 g.index ++ u8 g.start ++ u16 g.count ++ u8 g.depth ++
      packSamples g.depth g.samples
  | .present frame again half => u8 0x02 ++ frameBytes frame ++ u8 (again.toNat + 2 * half.toNat)
  | .token => u8 0x03 ++ u8 0
  | .cap watts => u8 0x04 ++ u16 watts
  | .pattern offer => u8 0x05 ++ u8 offer.toNat

/-- A message of the return line as Table 12-4 lays it out. -/
def ReturnMessage.bytes : ReturnMessage → List Byte
  | .censusAnswer hop => u8 0x81 ++ u8 hop
  | .trainingComplete width => u8 0x82 ++ u8 width
  | .symbolErrors errors => u8 0x83 ++ u8 errors

/-- The message that the bytes of a return line spell, by its type byte; none for a type or a length that Table 12-4 does not
give (R185). -/
def readReturn (bytes : List Byte) : Option ReturnMessage :=
  match bytes with
  | [kind, value] =>
    if kind = 0x81 then some (.censusAnswer value.toNat)
    else if kind = 0x82 then some (.trainingComplete value.toNat)
    else if kind = 0x83 then some (.symbolErrors value.toNat)
    else none
  | _ => none

/-- The bytes each lane carries: a message is dealt across the lanes in turn, beginning on lane 0 (section 12.2); the
training pattern goes out whole on every lane of the offer (R98, Table 12-4). -/
def laneBytes (width : Lanes) (m : ChainMessage) : List (List Byte) :=
  match m with
  | .pattern _ => List.replicate width.toNat m.bytes
  | _ => (List.range width.toNat).map fun lane =>
      (List.range m.bytes.length).filterMap fun i => if i % width.toNat = lane then m.bytes[i]? else none

/-! ## Fixture bus (section 12.3, R186) -/

/-- The number of ones among the data bits. -/
def onesOf (b : Byte) : Nat := ((List.range 8).map fun i => (b.getLsbD i).toNat).sum

/-- The parity bit that makes the number of ones among data and parity even. -/
def evenParity (b : Byte) : Bool := onesOf b % 2 = 1

/-- The 11 line levels of a character, with `true` for the idle level: start, data least significant first, parity, stop. That
a data or parity bit of 1 is at the idle level, and one of 0 at the break level, is taken from outside the spec (log entry
33). -/
def characterBits (b : Byte) : List Bool :=
  [false] ++ (List.range 8).map (fun i => b.getLsbD i) ++ [evenParity b, true]

/-- The characters of a level frame and of a query frame (Table 12-5). -/
def levelFrame (slots : List Byte) : List Byte := u8 0x10 ++ slots
def queryFrame (address : Nat) (kind : QueryKind) : List Byte := u8 0x20 ++ u8 address ++ [kind.character]

/-- The ticks a frame of so many characters lasts (Table 10-3). -/
def frameTicks (rate : BitRate) (characters : Nat) : Nat := Config.leadIn + characters * rate.characterTicks

/-- The level of the line at a tick from the beginning of a frame, with `true` for the idle level: the lead-in at the break
level and then idle, the bits of the characters back to back, and idle after them (R166, R186). -/
def frameLevel (rate : BitRate) (characters : List Byte) (tick : Nat) : Bool :=
  if tick < Config.breakTicks then false
  else if tick < Config.leadIn then true
  else
    match characters[(tick - Config.leadIn) / rate.characterTicks]? with
    | none => true
    | some c => (characterBits c).getD ((tick - Config.leadIn) % rate.characterTicks / (rate.characterTicks / 11)) true

/-- The checksum of a reply: the 8-bit sum of every character before it, inverted. -/
def replyChecksum (characters : List Byte) : Byte := ~~~(characters.foldl (· + ·) 0)

end Sys2Proof.Machine
end

