-- ==== Sys2Proof/Machine/Ops.lean ====
section
/-! DEFINITION. The shared operations: the timebase, free values, the outgoing lines, the Report Queue, the room rule of
the Management Engine, and access to banks, ports, chains, sources and outputs. -/

namespace Sys2Proof.Machine

/-- What one command answers. -/
abbrev Out := Host.Outcome State Fault Refusal

/-! ## Time, free values, outgoing lines -/

/-- The timebase moves on to a tick; it never runs back. -/
def advanceTo (t : Nat) (s : State) : State := s.setNow (max s.now t)

/-- The free value at the current draw (log entry 3). -/
def freeDraw (s : State) : Nat := Config.freeNat s.draws

/-- One draw used. -/
def useDraw (s : State) : State := s.setDraws (s.draws + 1)

/-- Something put on an outgoing line. -/
def emit (e : Emission) (s : State) : State := s.setSent (s.sent ++ [e])

/-! ## Command codes (R184, Table 0-4) -/

namespace Code

def setIdentity : Byte := 1
def setFilter : Byte := 2
def setFiltersInUse : Byte := 3
def setReference : Byte := 4
def setInternalRate : Byte := 5
def setPhaseOffset : Byte := 6
def setPwmGrid : Byte := 7
def setContactFunction : Byte := 8
def writeTileEntries : Byte := 9
def writeChainLengths : Byte := 10
def writeRingFlags : Byte := 11
def writeCanvasSize : Byte := 12
def writeWallCurve : Byte := 13
def writeLightCurve : Byte := 14
def writePatch : Byte := 15
def writeSlotCounts : Byte := 16
def readTable : Byte := 17
def clone : Byte := 18
def take : Byte := 19
def cancelTake : Byte := 20
def hold : Byte := 21
def release : Byte := 22
def chainRetrain : Byte := 23
def chainDisable : Byte := 24
def chainEnable : Byte := 25
def setChainBudget : Byte := 26
def setSourcePriority : Byte := 27
def setSourceTimeout : Byte := 28
def writeCue : Byte := 29
def deleteCue : Byte := 30
def readCue : Byte := 31
def go : Byte := 32
def goTo : Byte := 33
def back : Byte := 34
def halt : Byte := 35
def resume : Byte := 36
def clearPlayback : Byte := 37
def setPwmOutput : Byte := 38
def setFixturePort : Byte := 39
def queryFixture : Byte := 40
def setEventMask : Byte := 41
def queryStatus : Byte := 42
def clearStatus : Byte := 43
def clearCounters : Byte := 44
def flushInputs : Byte := 45

end Code

/-! ## Reports -/

/-- A report joins the tail of the Report Queue. -/
def Mgmt.push (r : Report) (m : Mgmt) : Mgmt := { m with queue := m.queue ++ [r] }

/-- An answer joins the queue (R175). -/
def Mgmt.answer (tag code : Byte) (result : Result) (body : List Byte) (m : Mgmt) : Mgmt :=
  { m.push (.answer tag code result body) with
    counters := { m.counters with answersQueued := bump m.counters.answersQueued } }

/-- Whether the event mask selects a kind (R184). -/
def Mgmt.selects (m : Mgmt) (kind : EventKind) : Bool := m.mask.getLsbD kind.code

/-- An event is offered: masked, taken into the queue, or lost (R177). -/
def Mgmt.offer (kind : EventKind) (body : List Byte) (m : Mgmt) : Mgmt :=
  if !m.selects kind then
    { m with counters := { m.counters with eventsMasked := bump m.counters.eventsMasked } }
  else if m.queue.length < Config.eventRoom then
    { m.push (.event kind body) with
      counters := { m.counters with eventsAdmitted := bump m.counters.eventsAdmitted } }
  else
    { m with eventsLost := true, counters := { m.counters with eventsLost := bump m.counters.eventsLost } }

/-- A command answered (R175). -/
def answer (tag code : Byte) (result : Result) (body : List Byte) (s : State) : State :=
  s.setMgmt (s.mgmt.answer tag code result body)

/-- A refusal carries an empty body (R175). -/
def refuse (tag code : Byte) (result : Result) (s : State) : State := answer tag code result [] s

/-- A unit answered MALFORMED: counted, with an empty body (R175). -/
def malformed (tag code : Byte) (s : State) : State :=
  answer tag code .malformed []
    (s.setMgmt { s.mgmt with counters := { s.mgmt.counters with malformedUnits := bump s.mgmt.counters.malformedUnits } })

/-- An event offered to the Report Queue (R177). -/
def offer (kind : EventKind) (body : List Byte) (s : State) : State :=
  s.setMgmt (s.mgmt.offer kind body)

/-- The reservations that stand: one for each deferred operation in flight, with its command and tag (section 11.1). They are
listed by kind and number and not in the order in which they were made, which no rule asks for (R180, log entry 17). -/
def reservations (s : State) : List (Byte × Byte) :=
  (s.banks.clone.toList.map fun tag => (Code.clone, tag)) ++
    (s.ports.data.flatMap fun p => p.disable.toList.map fun tag => (Code.chainDisable, tag)) ++
      (s.fixture.data.flatMap fun p => p.query.toList.map fun q => (Code.queryFixture, q.tag))

/-- The room test: reports queued plus reservations number 31 or fewer (R174). -/
def hasRoom (s : State) : Bool := decide (s.mgmt.queue.length + (reservations s).length ≤ Config.queueRoom)

/-- Whether the engine is stalled is settled anew: the lane holds a unit and the room test fails (R174). Going from idle
to stalled is counted, also where a report has just ended a stall, a unit has started and the next fails the test at that
tick: Table 11-4 leaves this count open (log entry 25). -/
def settleEngine (s : State) : State :=
  if !s.intake.lane.isEmpty && !hasRoom s then
    if s.mgmt.stalled then s
    else s.setMgmt { s.mgmt with
      stalled := true, counters := { s.mgmt.counters with stalls := bump s.mgmt.counters.stalls } }
  else s.setMgmt { s.mgmt with stalled := false }

/-- A management command carried out by the engine, which starts it only when room stands for its answer (R174); without
room it waits outside, and nothing changes (log entry 2). -/
def engineRuns (f : State → State) (s : State) : Out :=
  .next (if hasRoom s then settleEngine (f s) else s)

/-! ## Banks, ports, chains, outputs, sources -/

/-- The active bank (R40). -/
def State.activeBank (s : State) : Bank := if s.banks.aActive then s.banks.bankA else s.banks.bankB

/-- The staged bank (R40). -/
def State.stagedBank (s : State) : Bank := if s.banks.aActive then s.banks.bankB else s.banks.bankA

/-- The Bank Store with the staged bank replaced; the active bank is never written (R40). -/
def Banks.setStaged (b : Banks) (x : Bank) : Banks :=
  if b.aActive then { b with bankB := x } else { b with bankA := x }

/-- The letter of a bank: A is 0, B is 1 (R184). -/
def activeLetter (s : State) : Nat := if s.banks.aActive then 0 else 1
def stagedLetter (s : State) : Nat := if s.banks.aActive then 1 else 0

def State.port (s : State) (p : Fin 8) : Port := s.ports.get p
def State.setPort (s : State) (p : Fin 8) (x : Port) : State := s.setPorts (s.ports.set p x)
def State.fixturePort (s : State) (p : Fin 2) : FixturePort := s.fixture.get p
def State.setFixturePort (s : State) (p : Fin 2) (x : FixturePort) : State := s.setFixture (s.fixture.set p x)
def State.chain (s : State) (c : Fin 8) : ChainLimiter := s.limiter.chains.get c
def State.setChain (s : State) (c : Fin 8) (x : ChainLimiter) : State :=
  s.setLimiter { s.limiter with chains := s.limiter.chains.set c x }
def State.source (s : State) (k : Fin 3) : Source := s.merge.sources.get k
def State.setSource (s : State) (k : Fin 3) (x : Source) : State :=
  s.setMerge { s.merge with sources := s.merge.sources.set k x }

/-- One change after another, in ascending number (R35, R37, R92: the blocks act port by port, input by input). -/
def forEach {n : Nat} (f : Fin n → State → State) (s : State) : State :=
  (List.finRange n).foldl (fun s i => f i s) s

/-- The ring pair a port belongs to, and whether its ring flag is yes in a bank (section 6.7). -/
def pairOf (p : Fin 8) : Fin 4 := ⟨p.val / 2, by omega⟩
def isRing (b : Bank) (p : Fin 8) : Bool := b.rings.get (pairOf p)

/-- The primary port 2k of a port's pair, and its return port 2k + 1. -/
def primaryOf (p : Fin 8) : Fin 8 := ⟨2 * (p.val / 2), by omega⟩
def returnOf (p : Fin 8) : Fin 8 := ⟨2 * (p.val / 2) + 1, by omega⟩
def isPrimary (p : Fin 8) : Bool := p.val % 2 = 0

/-- The number n of the running interval (R20). -/
def State.frameNo (s : State) : FrameNo := s.timing.frame

end Sys2Proof.Machine
end

