-- ==== Sys2Proof/Machine/Level.lean ====
section
/-! DEFINITION. The Level Path (section 4): the wall gains of an interval, code to sample, level to light value, and the
evaluation of the look at a boundary. -/

namespace Sys2Proof.Machine

/-! ## Wall side -/

/-- The wall-master channel of a chain: the one whose mask names it (R64). -/
def wallMasterChannel (b : Bank) (c : Fin 8) : Option (Fin 512) :=
  (List.finRange 512).find? fun i =>
    decide ((b.patch.get i).kind = 4) && (b.patch.get i).mask.getLsbD c.val

/-- The grand-master channel (R71). -/
def grandMasterChannel (b : Bank) : Option (Fin 512) :=
  (List.finRange 512).find? fun i => decide ((b.patch.get i).kind = 5)

/-- The merged level of a channel of the look. -/
def lookLevel (s : State) (ch : Fin 512) : Nat := (s.merge.look.get ch).level.toNat

/-- The gain a master channel gives, and unity where there is none (R64, R71). -/
def masterGain (s : State) : Option (Fin 512) → Nat
  | none => 4096
  | some ch => gainOfLevel (lookLevel s ch)

/-- The chain master M_c from the look and the active bank (R64). -/
def chainMaster (s : State) (c : Fin 8) : Nat := masterGain s (wallMasterChannel s.activeBank c)

/-- GM from the look and the active bank (R71). -/
def grandMaster (s : State) : Nat := masterGain s (grandMasterChannel s.activeBank)

/-- The wall gain set of the interval, fixed at its boundary (R63). -/
def fixWallGains (s : State) : State :=
  s.setLevel { s.level with gains := Tab.ofFn fun c => ⟨chainMaster s c, (s.chain c).gain⟩ }

/-- y, z, v and w of R65 for a code, a tile gain and the wall gains of a chain. -/
def wallCurveValue (b : Bank) (code : BitVec 10) : Nat := (b.wallCurve.get ⟨code.toNat, code.isLt⟩).toNat
def wallTileValue (b : Bank) (gain : Nat) (code : BitVec 10) : Nat := scaleGain (wallCurveValue b code) gain
def wallMasterValue (b : Bank) (gain : Nat) (g : WallGain) (code : BitVec 10) : Nat :=
  scaleGain (wallTileValue b gain code) g.master
def wallLimitedValue (b : Bank) (gain : Nat) (g : WallGain) (code : BitVec 10) : Nat :=
  scaleGain (wallMasterValue b gain g code) g.limiter

/-- The sample sent at a depth, with its clamp (R67). -/
def reduceDepth (depth w : Nat) : Nat :=
  if depth = 16 then w else min ((w + 2 ^ (15 - depth)) / 2 ^ (16 - depth)) (2 ^ depth - 1)

/-! ## Light side -/

/-- The square curve (R69). -/
def squareCurve (m : Nat) : Nat := (m * m + 32767) / 65535

/-- A point of the light curve, with the virtual entry 1024 that holds 65535 (R69). -/
def curvePoint (b : Bank) (i : Nat) : Nat :=
  if h : i < 1024 then (b.lightCurve.get ⟨i, h⟩).toNat else 65535

/-- The table curve (R69). -/
def tableCurve (b : Bank) (m : Nat) : Nat :=
  curvePoint b (m / 64) + ((curvePoint b (m / 64 + 1) - curvePoint b (m / 64)) * (m % 64) + 32) / 64

/-- The curve stage by the curve code of the entry (R69). An active bank holds codes 0 to 2 alone (R53). -/
def curveValue (b : Bank) (e : PatchEntry) (m : Nat) : Nat :=
  if e.curve = 0 then m else if e.curve = 1 then squareCurve m else tableCurve b m

/-- The light value v of an entry: curve, trim, grand master (R69, R71). -/
def lightValue (b : Bank) (gm : Nat) (e : PatchEntry) (m : Nat) : Nat :=
  scaleGain (scaleGain (curveValue b e m) e.trim.toNat) gm

/-- The duty of a light value against N (R73). -/
def dutyOf (v n : Nat) : Nat := (v * n + 32767) / 65535

/-- The warm duty of a pair of duty `d` and mix `x` (R75); the cool duty is what is left. -/
def warmDuty (d x : Nat) : Nat := (d * (65535 - x) + 32767) / 65535

/-- The channel patched to a PWM output (R68). -/
def pwmChannel (b : Bank) (o : Fin 16) : Option (Fin 512) :=
  (List.finRange 512).find? fun i => decide ((b.patch.get i).kind = 1) && decide ((b.patch.get i).pwm = o)

/-- The light value of a channel in the evaluation of a boundary (R68). -/
def channelValue (s : State) (gm : Nat) (ch : Fin 512) : Nat :=
  lightValue s.activeBank gm (s.activeBank.patch.get ch) (lookLevel s ch)

/-- The even output of the pair an output belongs to, and the odd one. -/
def evenOutput (o : Fin 16) : Fin 16 := ⟨2 * (o.val / 2), by omega⟩
def oddOutput (o : Fin 16) : Fin 16 := ⟨2 * (o.val / 2) + 1, by omega⟩

/-- Whether pair mode is in force on an output's pair (R159). -/
def pairMode (s : State) (o : Fin 16) : Bool := (s.drive.get (evenOutput o)).inForce.pair

/-- What the Level Path hands the Direct Drive for an output (R68, R75). -/
def stagedFor (s : State) (gm : Nat) (o : Fin 16) : Staged :=
  if pairMode s o then
    if o.val % 2 = 0 then
      .pair ((pwmChannel s.activeBank o).elim 0 (channelValue s gm))
        ((pwmChannel s.activeBank (oddOutput o)).elim 0 (lookLevel s))
    else .none
  else (pwmChannel s.activeBank o).elim .none fun ch => .value (channelValue s gm ch)

/-- The slot8 value of a light value (R74). -/
def slot8Value (v : Nat) : Nat := (v * 255 + 32767) / 65535

/-- The value a patch entry puts into a slot of a port, none where it does not occupy it (R74). -/
def slotFrom (s : State) (gm : Nat) (port : Fin 2) (slot : Nat) (ch : Fin 512) : Option Byte :=
  let e := s.activeBank.patch.get ch
  if e.port ≠ port then none
  else if e.kind = 2 ∧ e.slot.toNat = slot then some (BitVec.ofNat 8 (slot8Value (channelValue s gm ch)))
  else if e.kind = 3 ∧ e.slot.toNat = slot then some (BitVec.ofNat 8 (channelValue s gm ch / 256))
  else if e.kind = 3 ∧ e.slot.toNat + 1 = slot then some (BitVec.ofNat 8 (channelValue s gm ch))
  else none

/-- The slot values of a port, one for each slot below its slot count; a slot no entry occupies carries 0 (R68, R74). -/
def slotsFor (s : State) (gm : Nat) (port : Fin 2) : List Byte :=
  (List.range (s.activeBank.slotCounts.get port).toNat).map fun slot =>
    ((List.finRange 512).findSome? (slotFrom s gm port slot)).getD 0

/-- The evaluation of the look at a boundary: GM, the staged entries of the outputs, the slot values of the ports (R68). -/
def evaluateLight (s : State) : State :=
  let gm := grandMaster s
  let drive := s.drive.mapFin fun o x => { x with staged := stagedFor s gm o }
  let fixture := s.fixture.mapFin fun p x => { x with slots := slotsFor s gm p }
  ((s.setLevel { s.level with grandMaster := gm }).setDrive drive).setFixture fixture

end Sys2Proof.Machine
end

