-- ==== Sys2Proof/Machine/Chain.lean ====
section
/-! DEFINITION. The Chain Ports (section 6). -/

namespace Sys2Proof.Machine

/-! ## Events and changes of state -/

/-- The causes of CHAIN_STATE, in the order R115 names them. -/
inductive ChainCause where
  | partnerPresent
  | partnerLost
  | trainingComplete
  | trainingTimeout
  | holdoffEnd
  | errorBurst
  | retrain
  | recoveryComplete
  | recoveryFailure
  | disable
  | enable
deriving DecidableEq, Repr

def ChainCause.code : ChainCause → Nat
  | .partnerPresent => 0
  | .partnerLost => 1
  | .trainingComplete => 2
  | .trainingTimeout => 3
  | .holdoffEnd => 4
  | .errorBurst => 5
  | .retrain => 6
  | .recoveryComplete => 7
  | .recoveryFailure => 8
  | .disable => 9
  | .enable => 10

/-- A width that may be none (R184). -/
def lanesBytes (w : Option Lanes) : List Byte := opt (fun l => u8 l.toNat) w

/-- CHAIN_STATE is offered at a change of state (R115): port, old and new state, width after the change, cause. -/
def offerChainState (p : Fin 8) (before : PortState) (cause : ChainCause) (s : State) : State :=
  offer .chainState
    (u8 p.val ++ u8 before.code ++ u8 (s.port p).state.code ++ lanesBytes (s.port p).width ++ u8 cause.code) s

/-- A message sent by a port on the lanes of its width. -/
def sendChain (p : Fin 8) (m : ChainMessage) (s : State) : State :=
  match (s.port p).width with
  | none => s
  | some w => emit (.chain p w m) s

/-- The training pattern on every lane of the offer (R98). -/
def sendPattern (p : Fin 8) (s : State) : State :=
  match (s.port p).offer with
  | none => s
  | some w => emit (.chain p w (.pattern w)) s

/-- The port offers a width with its count of boundaries at 0 (R98, R104). -/
def startOffer (p : Fin 8) (w : Lanes) (s : State) : State :=
  sendPattern p (s.setPort p { s.port p with offer := some w, count := 0, window := none })

/-- The port enters TRAINING, offering 4 lanes (R97, R98). -/
def enterTraining (p : Fin 8) (cause : ChainCause) (s : State) : State :=
  offerChainState p (s.port p).state cause
    (startOffer p .four (s.setPort p { s.port p with state := .training, holdoff := none }))

/-- A port in DOWN whose partner is present enters TRAINING if no retry holdoff runs (R97). -/
def tryTraining (p : Fin 8) (cause : ChainCause) (s : State) : State :=
  if (s.port p).state = .down ∧ (s.port p).partner = true ∧ (s.port p).holdoff = none then enterTraining p cause s
  else s

/-- The port enters DOWN: lanes idle, any census abandoned; width and census are kept (R97, R101). -/
def enterDown (p : Fin 8) (cause : ChainCause) (s : State) : State :=
  offerChainState p (s.port p).state cause
    (s.setPort p { s.port p with state := .down, offer := none, count := 0, window := none })

/-- The segments the port still held are sent up to `k` of them; the rest are dropped and counted (R112). -/
def dropUnsent (p : Fin 8) (k : Nat) (s : State) : State :=
  let kept := (s.port p).unsent.take k
  let dropped := (s.port p).unsent.length - kept.length
  let s := kept.foldl (fun s g => sendChain p (.segment g) s) s
  s.setPort p { s.port p with
    unsent := []
    counters := { (s.port p).counters with droppedSegments := bumpBy dropped (s.port p).counters.droppedSegments } }

/-- The port breaks the frame of the interval, counted once for it; how many of the segments handed to it were already
sent is a free value (R112, log entry 6). -/
def breakFrame (p : Fin 8) (s : State) : State :=
  let s' := useDraw (dropUnsent p (freeDraw s % ((s.port p).unsent.length + 1)) s)
  if (s'.port p).broken then s'
  else s'.setPort p { s'.port p with
    broken := true
    counters := { (s'.port p).counters with framesBroken := bump (s'.port p).counters.framesBroken } }

/-- An ACTIVE port enters RECOVERY, offering its current width; the frame of the interval is broken (R103 to R105, R112). -/
def enterRecovery (p : Fin 8) (cause : ChainCause) (s : State) : State :=
  let s := breakFrame p s
  let s := s.setPort p { s.port p with
    state := .recovery
    entryWidth := (s.port p).width
    counters := { (s.port p).counters with recoveries := bump (s.port p).counters.recoveries } }
  offerChainState p .active cause (startOffer p ((s.port p).width.getD .one) s)

/-- The port sends its pending cap, if one is pending (R114). -/
def sendCap (p : Fin 8) (s : State) : State :=
  match (s.port p).cap with
  | none => s
  | some watts =>
    let s := sendChain p (.cap watts) s
    s.setPort p { s.port p with
      cap := none
      counters := { (s.port p).counters with capsSent := bump (s.port p).counters.capsSent } }

/-- The port sends the census token and its window opens (R101). -/
def sendToken (p : Fin 8) (s : State) : State :=
  let s := sendChain p .token s
  s.setPort p { s.port p with window := some ⟨s.now, []⟩ }

/-- The port enters ACTIVE at the end of training or recovery (R100, R104). -/
def enterActive (p : Fin 8) (s : State) : State :=
  let x := s.port p
  let narrowed : Bool := x.state = .recovery ∧
    (x.width.map Lanes.toNat).getD 0 < (x.entryWidth.map Lanes.toNat).getD 0
  let cause : ChainCause := if x.state = .recovery then .recoveryComplete else .trainingComplete
  let s := s.setPort p { x with
    state := .active, offer := none, count := 0, errors := 0, censusCount := 0
    widthNarrowed := x.widthNarrowed || narrowed
    retrainDone := x.retrainDone || x.retrain
    retrain := false }
  sendCap p (offerChainState p x.state cause s)

/-! ## Bringing a chain up -/

/-- The return signal appears on lane 0 (R97). -/
def execPartnerPresent (p : Fin 8) (s : State) : Out :=
  .next (tryTraining p .partnerPresent (s.setPort p { s.port p with partner := true }))

/-- The return signal goes: TRAINING, ACTIVE and RECOVERY enter DOWN; an ACTIVE port breaks its frame (R97, R112). -/
def losePartner (p : Fin 8) (s : State) : State :=
  let s := s.setPort p { s.port p with partner := false }
  match (s.port p).state with
  | .training => enterDown p .partnerLost s
  | .active => enterDown p .partnerLost (breakFrame p s)
  | .recovery => enterDown p .partnerLost s
  | .down => s
  | .disabled => s

def execPartnerLost (p : Fin 8) (s : State) : Out := .next (losePartner p s)

/-- An exchange is passed over and counted (R98). -/
def passExchange (p : Fin 8) (s : State) : State :=
  s.setPort p { s.port p with
    counters := { (s.port p).counters with badExchanges := bump (s.port p).counters.badExchanges } }

/-- The width of an exchange is 1, 2 or 4 lanes and no wider than the offer (R98). -/
def acceptableWidth (offer : Option Lanes) (width : Nat) : Option Lanes :=
  match lanesOfNat width with
  | none => none
  | some w => if w.toNat ≤ (offer.map Lanes.toNat).getD 0 then some w else none

/-- A training-complete exchange arrives (R98): accepted, passed over, or not looked at in DISABLED. -/
def trainingExchange (p : Fin 8) (width : Nat) (s : State) : State :=
  let x := s.port p
  if x.state = .disabled then s
  else if (x.state = .training ∨ x.state = .recovery) ∧ x.window = none then
    match acceptableWidth x.offer width with
    | some w => sendToken p (s.setPort p { x with width := some w })
    | none => passExchange p s
  else passExchange p s

/-- Training has failed: DOWN with a retry holdoff of 25 boundaries (R98). -/
def failTraining (p : Fin 8) (s : State) : State :=
  let s := enterDown p .trainingTimeout s
  s.setPort p { s.port p with
    holdoff := some 25
    counters := { (s.port p).counters with trainingFailures := bump (s.port p).counters.trainingFailures } }

/-- Recovery has failed: DOWN without a holdoff, and TRAINING at once where the partner is present (R104, R97). -/
def failRecovery (p : Fin 8) (s : State) : State :=
  let s := enterDown p .recoveryFailure s
  let s := s.setPort p { s.port p with
    counters := { (s.port p).counters with recoveryFailures := bump (s.port p).counters.recoveryFailures } }
  tryTraining p .partnerPresent s

/-- No exchange has been accepted yet in a state that offers a width (R98, R104). -/
def awaitsExchange (x : Port) (state : PortState) : Bool := decide (x.state = state) && x.window.isNone

/-- The boundary that brings the count to 10 in TRAINING with no exchange accepted (R98). -/
def trainingIsOver (x : Port) : Bool := awaitsExchange x .training && decide (10 ≤ x.count + 1)

/-- The boundary that brings the count to 10 in RECOVERY with no exchange accepted (R104). -/
def recoveryIsOver (x : Port) : Bool := awaitsExchange x .recovery && decide (10 ≤ x.count + 1)

/-- The count increments and the offer steps narrower (R98, R104). -/
def stepOffer (p : Fin 8) (s : State) : State :=
  sendPattern p (s.setPort p { s.port p with
    count := (s.port p).count + 1, offer := (s.port p).offer.map Lanes.narrower })

/-- The boundary at which the holdoff reaches 0 (R99). -/
def holdoffIsOver (x : Port) : Bool :=
  match x.holdoff with
  | none => false
  | some k => decide (x.state = .down) && decide (k ≤ 1)

/-- The holdoff ends: TRAINING if the partner is present (R99). -/
def endHoldoff (p : Fin 8) (s : State) : State :=
  tryTraining p .holdoffEnd (s.setPort p { s.port p with holdoff := none })

/-- The boundary work of a port that is bringing its chain up: time-out or failure at the tenth boundary, the offer step
before it, and the retry holdoff (R98, R99, R104). -/
def trainingBoundary (p : Fin 8) (s : State) : State :=
  let x := s.port p
  if trainingIsOver x then failTraining p s
  else if recoveryIsOver x then failRecovery p s
  else if awaitsExchange x .training || awaitsExchange x .recovery then stepOffer p s
  else if holdoffIsOver x then endHoldoff p s
  else s.setPort p { x with holdoff := x.holdoff.map (· - 1) }

def execTrainingTimeout (p : Fin 8) (s : State) : Out :=
  .next (if trainingIsOver (s.port p) then failTraining p s else s)

def execRecoveryFailure (p : Fin 8) (s : State) : Out :=
  .next (if recoveryIsOver (s.port p) then failRecovery p s else s)

def execHoldoffEnd (p : Fin 8) (s : State) : Out :=
  .next (if holdoffIsOver (s.port p) then endHoldoff p s else s)

/-! ## Census -/

/-- The length of the unbroken run of hops from 0, limited to 32 (R101): `k` hops are still to be looked at. -/
def hopRun (hops : List Nat) : Nat → Nat → Nat
  | 0, r => r
  | k + 1, r => if r ∈ hops then hopRun hops k (r + 1) else r

/-- The result of a census (R101). -/
def censusResult (hops : List Nat) : Nat := hopRun hops 32 0

/-- A census answer is recorded in an open window and passed over otherwise (R101). -/
def recordHop (p : Fin 8) (hop : Nat) (s : State) : State :=
  match (s.port p).window with
  | none => s
  | some run => s.setPort p { s.port p with window := some { run with hops := run.hops ++ [hop] } }

/-- The chain length a census is compared with: the port's own, or the primary's for the return port of a ring (R101). -/
def expectedTiles (b : Bank) (p : Fin 8) : Nat :=
  (b.lengths.get (if isRing b p then primaryOf p else p)).toNat

/-- The result replaces the census (R101): a difference sets the flag and offers CENSUS_CHANGED (R115). -/
def completeCensus (p : Fin 8) (result : Nat) (s : State) : State :=
  let x := s.port p
  let e := expectedTiles s.activeBank p
  let s := s.setPort p { x with
    window := none, census := result, surplus := result - e, censusCount := 0
    presenceChanged := x.presenceChanged || decide (result ≠ x.census)
    counters := { x.counters with censusRuns := bump x.counters.censusRuns } }
  if result = x.census then s
  else offer .censusChanged (u8 p.val ++ u8 x.census ++ u8 result ++ u8 e ++ u8 (result - e)) s

/-- The census window ends 100,000 ticks after the token (R101): the census completes, and ends a training or recovery
(R100). -/
def endWindow (p : Fin 8) (s : State) : State :=
  match (s.port p).window with
  | none => s
  | some run =>
    let s := completeCensus p (censusResult run.hops) (advanceTo (run.sent + Config.censusWindow) s)
    if (s.port p).state = .training ∨ (s.port p).state = .recovery then enterActive p s else s

def execCensusWindowEnd (p : Fin 8) (s : State) : Out := .next (endWindow p s)

/-- The 50th boundary in ACTIVE since entry or since the last census completed (R102). -/
def censusIsDue (x : Port) : Bool :=
  decide (x.state = .active) && decide (50 ≤ x.censusCount + 1) && x.window.isNone

/-- The boundary count of an ACTIVE port, with the periodic census at the 50th (R102). -/
def censusBoundary (p : Fin 8) (s : State) : State :=
  let x := s.port p
  if x.state = .active then
    let s' := s.setPort p { x with censusCount := x.censusCount + 1 }
    if censusIsDue x then sendToken p s' else s'
  else s

def execPeriodicCensus (p : Fin 8) (s : State) : Out :=
  .next (if censusIsDue (s.port p) then censusBoundary p s else s)

/-! ## Errors -/

/-- Symbol errors in ACTIVE add to the count of the interval; 8 of them are an error burst (R103). The count starts anew as a
port enters ACTIVE, so a port that is ACTIVE again within the interval can have a second burst in it (log entry 24). -/
def addErrors (p : Fin 8) (errors : Nat) (s : State) : State :=
  if (s.port p).state = .active then
    let s := s.setPort p { s.port p with errors := (s.port p).errors + errors }
    if 8 ≤ (s.port p).errors then enterRecovery p .errorBurst s else s
  else s

/-! ## The return line -/

/-- What a port does with a message of its return line (R98, R101, R103, R185). -/
def receiveReturn (p : Fin 8) (m : ReturnMessage) (s : State) : State :=
  match m with
  | .censusAnswer hop => recordHop p hop s
  | .trainingComplete width => trainingExchange p width s
  | .symbolErrors errors => addErrors p errors s

def execTrainingComplete (p : Fin 8) (exchange : Exchange) (s : State) : Out :=
  .next (receiveReturn p (.trainingComplete exchange.width) (advanceTo exchange.tick s))

def execCensusAnswer (p : Fin 8) (hop : Nat) (s : State) : Out := .next (receiveReturn p (.censusAnswer hop) s)

/-- Symbol errors that the port received itself, or that a symbol error report adds (R103, R185). -/
def execSymbolError (p : Fin 8) (errors : Nat) (s : State) : Out := .next (receiveReturn p (.symbolErrors errors) s)

/-! ## Commands -/

/-- Chain Retrain on a port (R105); its event comes before its answer (log entry 30). -/
def retrainPort (tag : Byte) (p : Fin 8) (s : State) : State :=
  match (s.port p).state with
  | .active =>
    let s := enterRecovery p .retrain s
    answer tag Code.chainRetrain .ok [] (s.setPort p { s.port p with retrain := true })
  | .training => answer tag Code.chainRetrain .ok [] (s.setPort p { s.port p with retrain := true })
  | .recovery => answer tag Code.chainRetrain .ok [] (s.setPort p { s.port p with retrain := true })
  | .down => refuse tag Code.chainRetrain .wrongState s
  | .disabled => refuse tag Code.chainRetrain .wrongState s

def doChainRetrain (tag : Byte) (port : Nat) (s : State) : State :=
  match finOf 8 port with
  | none => refuse tag Code.chainRetrain .outOfRange s
  | some p => retrainPort tag p s

def execChainRetrain (tag : Byte) (port : Nat) (s : State) : Out := engineRuns (doChainRetrain tag port) s

/-- The port enters DISABLED: it stops sending, abandons training and census, and discards its holdoff (R106). -/
def enterDisabled (p : Fin 8) (s : State) : State :=
  offerChainState p (s.port p).state .disable
    (s.setPort p { s.port p with state := .disabled, offer := none, count := 0, window := none, holdoff := none })

/-- A pending Chain Disable takes effect, and its deferred answer is queued after its event (R106, R176, log entry 30). -/
def finishDisable (p : Fin 8) (s : State) : State :=
  match (s.port p).disable with
  | none => s
  | some tag => answer tag Code.chainDisable .ok [] (enterDisabled p (s.setPort p { s.port p with disable := none }))

/-- Chain Disable on a port (R106): the tag held in `disable` is the reservation of the deferred answer; its event comes
before its answer (log entry 30). -/
def disablePort (tag : Byte) (p : Fin 8) (s : State) : State :=
  let x := s.port p
  if x.disable.isSome then refuse tag Code.chainDisable .busy s
  else
    match x.state with
    | .active => s.setPort p { x with disable := some tag }
    | .down => answer tag Code.chainDisable .ok [] (enterDisabled p s)
    | .training => answer tag Code.chainDisable .ok [] (enterDisabled p s)
    | .recovery => answer tag Code.chainDisable .ok [] (enterDisabled p s)
    | .disabled => answer tag Code.chainDisable .ok [] s

def doChainDisable (tag : Byte) (port : Nat) (s : State) : State :=
  match finOf 8 port with
  | none => refuse tag Code.chainDisable .outOfRange s
  | some p => disablePort tag p s

def execChainDisable (tag : Byte) (port : Nat) (s : State) : Out := engineRuns (doChainDisable tag port) s

/-- Chain Enable on a port (R107); its events come before its answer (log entry 30). -/
def enablePort (tag : Byte) (p : Fin 8) (s : State) : State :=
  answer tag Code.chainEnable .ok []
    (if (s.port p).state = .disabled then tryTraining p .partnerPresent (enterDown p .enable s) else s)

def doChainEnable (tag : Byte) (port : Nat) (s : State) : State :=
  match finOf 8 port with
  | none => refuse tag Code.chainEnable .outOfRange s
  | some p => enablePort tag p s

def execChainEnable (tag : Byte) (port : Nat) (s : State) : Out := engineRuns (doChainEnable tag port) s

/-! ## Which tiles a port feeds -/

/-- The census in force of a port at a boundary (R108). -/
def censusInForce (x : Port) : Nat := if x.state = .active ∧ x.disable = none then x.census else 0

/-- Which port reaches the tile of an entry, and at what position it addresses it (R108, R109). -/
def reachOf (b : Bank) (ports : Tab 8 Port) (e : TileEntry) : Option (Fin 8 × Nat) :=
  if !e.valid then none
  else if isRing b e.chain then
    let primary := primaryOf e.chain
    let length : Nat := (b.lengths.get primary).toNat
    let cr := censusInForce (ports.get (returnOf e.chain))
    if !isPrimary e.chain then none
    else if e.position.val < censusInForce (ports.get primary) then some (primary, e.position.val)
    else if length ≤ e.position.val + cr then some (returnOf e.chain, length - 1 - e.position.val)
    else none
  else if e.position.val < censusInForce (ports.get e.chain) then some (e.chain, e.position.val)
  else none

/-- The tiles a port reaches, in ascending entry index (R111). -/
def reachedBy (b : Bank) (ports : Tab 8 Port) (p : Fin 8) : List ReachedTile :=
  (List.finRange 256).filterMap fun i =>
    match reachOf b ports (b.tiles.get i) with
    | some (q, position) => if q = p then some ⟨i, (b.tiles.get i).chain, position⟩ else none
    | none => none

/-- P of R110: the sum of w × h over the reached tiles. -/
def pixelsOf (b : Bank) (tiles : List ReachedTile) : Nat :=
  (tiles.map fun t => (b.tiles.get t.entry).w.toNat * (b.tiles.get t.entry).h.toNat).sum

/-- The capacity C of R110 for a width and an interval length. -/
def capacity (width length : Nat) : Nat := 20 * width * length * 15 / 16

/-- Depth and rate of R110 for P and C. -/
def chooseDepth (pixels c : Nat) : Nat × Rate :=
  if 3 * 16 * pixels ≤ c then (16, .full)
  else if 3 * 12 * pixels ≤ c then (12, .full)
  else if 3 * 10 * pixels ≤ c then (10, .full)
  else if 3 * 8 * pixels ≤ c then (8, .full)
  else if 24 * pixels ≤ 2 * c then (8, .half)
  else (8, .overbooked)

/-- The latch of a port for interval n (R111). -/
def latchFor (s : State) (p : Fin 8) : Latch :=
  let x := s.port p
  if x.state = .active ∧ x.disable = none then
    let tiles := reachedBy s.activeBank s.ports p
    let pixels := pixelsOf s.activeBank tiles
    let choice := chooseDepth pixels (capacity ((x.width.map Lanes.toNat).getD 0) s.timing.length)
    let carries : Bool :=
      match choice.2 with
      | .full => true
      | .half => decide (s.frameNo.toNat % 2 = 0)
      | .overbooked => false
    ⟨some choice, carries, pixels, tiles, x.census⟩
  else Latch.empty

/-- The unfed tiles of a chain: its valid entries that no port reaches (R111). -/
def unfedOf (s : State) (c : Fin 8) : Nat :=
  (s.activeBank.tiles.data.filter fun e =>
    e.valid && decide (e.chain = c) && (reachOf s.activeBank s.ports e).isNone).length

/-- The status flag *overbooked* stands while the latch finds the port overbooked (R110). -/
def isOverbooked (l : Latch) : Bool := (l.choice.map Prod.snd) = some .overbooked

/-- Every port latches for the interval, from the states and censuses as they stand at the boundary (R111). The broken
mark and the symbol errors start anew (R103, R112), and an overbooked interval is counted (R110). -/
def latchPorts (s : State) : State :=
  s.setPorts (s.ports.mapFin fun p x =>
    let latch := latchFor s p
    { x with
      latch := latch, unfed := unfedOf s p, broken := false, errors := 0
      counters := { x.counters with
        overbookedIntervals := bumpIf (isOverbooked latch) x.counters.overbookedIntervals } })

/-! ## Sending -/

/-- The fed tiles of a port: those it reaches, where it carries pixel data (R111). -/
def fedTiles (l : Latch) : List ReachedTile := if l.pixelData then l.reached else []

/-- A segment is handed to a port (R112): held for sending, or dropped where the port is not ACTIVE or has broken the
frame. -/
def handSegment (p : Fin 8) (g : Segment) (s : State) : State :=
  let x := s.port p
  if x.state = .active ∧ x.broken = false then s.setPort p { x with unsent := x.unsent ++ [g] }
  else s.setPort p { x with
    counters := { x.counters with droppedSegments := bump x.counters.droppedSegments } }

/-- A port of the interval that ends is whole: eligible with pixel data, and it did not break the frame (R113). -/
def isWhole (x : Port) : Bool := x.latch.choice.isSome && x.latch.pixelData && !x.broken

/-- Whether the marker of a port at this boundary is normal (R113), from the notice, the latches and broken marks of the
interval that ends, and the ring flags of the active bank. -/
def markerIsNormal (s : State) (p : Fin 8) : Bool :=
  s.canvas.notice.isSome &&
    if isRing s.activeBank p then
      (isWhole (s.port (primaryOf p)) || isWhole (s.port (returnOf p))) &&
        !(s.port (primaryOf p)).broken && !(s.port (returnOf p)).broken
    else isWhole (s.port p)

/-- The half-rate flag of the latch of the interval that ends (R113). -/
def isHalfRate (l : Latch) : Bool := (l.choice.map Prod.snd) = some .half

/-- A port that is ACTIVE at the boundary sends what it still held and then its present marker (R112, R113). `normal` is
the decision for the port, taken for all ports before any of them acts. -/
def markPort (normal : Bool) (p : Fin 8) (s : State) : State :=
  let x := s.port p
  if x.state = .active then
    let s := x.unsent.foldl (fun s g => sendChain p (.segment g) s) s
    let s := sendChain p (.present s.frameNo (!normal) (isHalfRate x.latch)) s
    s.setPort p { x with
      unsent := [], marker := some (!normal)
      counters := { x.counters with
        normalMarkers := bumpIf normal x.counters.normalMarkers
        repeatMarkers := bumpIf (!normal) x.counters.repeatMarkers } }
  else s.setPort p { x with unsent := [], marker := none }

/-- The present markers of a boundary (R113). -/
def sendMarkers (s : State) : State := forEach (fun p => markPort (markerIsNormal s p) p) s

/-- What a port does after its marker (R106, R114, R102, R98, R99): a pending Disable takes effect; otherwise the pending
cap, the periodic census and the boundary work of training. -/
def portBoundary (p : Fin 8) (s : State) : State :=
  if (s.port p).disable.isSome then finishDisable p s
  else if (s.port p).state = .active then censusBoundary p (sendCap p s)
  else trainingBoundary p s

/-- The boundary work of every port, port by port. -/
def portsBoundary (s : State) : State := forEach portBoundary s

end Sys2Proof.Machine
end

