-- ==== Sys2Proof/Machine/Limiter.lean ====
section
/-! DEFINITION. The Power Limiter (section 7). -/

namespace Sys2Proof.Machine

/-! ## Measuring demand -/

/-- The accumulation begins empty, with the rated powers of the active bank (R121). -/
def beginAccumulation (s : State) : State :=
  s.setLimiter { s.limiter with
    accumulation := some (s.activeBank.tiles.map fun e => ⟨0, 0, e.rated.toNat⟩) }

/-- The accumulation is discarded (R121). -/
def discardAccumulation (s : State) : State := s.setLimiter { s.limiter with accumulation := none }

/-- The sum a pixel's three values add (R121). -/
def pixelSum (v : Nat × Nat × Nat) : Nat := v.1 / 256 + v.2.1 / 256 + v.2.2 / 256

/-- The values of a pixel of an entry are handed to the limiter (R66, R121). -/
def accumulate (entry : Fin 256) (v : Nat × Nat × Nat) (s : State) : State :=
  match s.limiter.accumulation with
  | none => s
  | some t => s.setLimiter { s.limiter with
      accumulation := some (t.modify entry fun x => { x with sum := x.sum + pixelSum v, count := x.count + 1 }) }

/-- The tile demand P_t of an accumulated entry (R123). -/
def tileDemand (x : TileSum) : Nat := x.sum / x.count * x.rated / 765

/-- The entries of a chain that were fed in the interval that ends, in ascending index, an order no rule gives (R123, log entry
17). -/
def fedEntries (s : State) (c : Fin 8) : List (Fin 256) :=
  (List.finRange 256).filter fun i =>
    s.ports.data.any fun x => (fedTiles x.latch).any fun t => decide (t.entry = i) && decide (t.chain = c)

/-- The tile demands of a chain's fed tiles in the accumulation of the frame presented (R123). -/
def tileDemands (s : State) (c : Fin 8) : List Nat :=
  match s.limiter.accumulation with
  | none => (fedEntries s c).map fun _ => 0
  | some t => (fedEntries s c).map fun i => tileDemand (t.get i)

/-! ## Target and gain -/

/-- The target of a budget and a demand, and whether it was raised to the floor of 256 (R124). -/
def targetOf (budget demand : Nat) : Nat × Bool :=
  if budget = 0 ∨ demand ≤ budget then (4096, false)
  else if 4096 * budget / demand < 256 then (256, true)
  else (4096 * budget / demand, false)

/-- The limiter gain after an update (R125). -/
def nextGain (gain step target : Nat) : Nat := if target < gain then target else min target (gain + step)

/-- The limiter record of a chain after the presentation of a frame with these tile demands (R123 to R125). -/
def updateRecord (tiles : List Nat) (interval : FrameNo) (x : ChainLimiter) : ChainLimiter :=
  let demand := tiles.sum
  let target := (targetOf x.budget demand).1
  let floored := (targetOf x.budget demand).2
  { x with
    gain := nextGain x.gain x.step target
    target := target
    demand := some (demand, interval)
    tiles := some tiles
    unattainable := floored
    counters :=
      { updates := bump x.counters.updates
        attacks := bumpIf (decide (target < x.gain)) x.counters.attacks
        floored := bumpIf floored x.counters.floored } }

/-- The body of LIMITER_ACTIVE and LIMITER_CLEAR (R127); the boundary number is there for a change at a presentation, and one
presence byte stands before the chain demand and its frame number together (log entry 18). -/
def limiterBody (c : Fin 8) (x : ChainLimiter) (boundary : Option FrameNo) : List Byte :=
  u8 c.val ++ u16 x.gain ++ u16 x.target ++ opt (fun d : Nat × FrameNo => u16 d.1 ++ frameBytes d.2) x.demand ++
    u16 x.budget ++ opt frameBytes boundary

/-- The limiter's event for a change of L_c, if it crosses 4096 (R127). -/
def offerLimiter (c : Fin 8) (before : Nat) (boundary : Option FrameNo) (s : State) : State :=
  if before = 4096 ∧ (s.chain c).gain < 4096 then offer .limiterActive (limiterBody c (s.chain c) boundary) s
  else if before < 4096 ∧ (s.chain c).gain = 4096 then offer .limiterClear (limiterBody c (s.chain c) boundary) s
  else s

/-- Whether a frame of the chain is presented at this boundary (R122). -/
def isPresented (s : State) (c : Fin 8) : Bool :=
  s.canvas.notice.isSome &&
    if isRing s.activeBank c then
      isPrimary c && (decide ((s.port (primaryOf c)).marker = some false) ||
        decide ((s.port (returnOf c)).marker = some false))
    else decide ((s.port c).marker = some false)

/-- The update of a chain at the presentation of a frame (R122 to R127); a chain not presented stands (R126). -/
def updateChain (c : Fin 8) (s : State) : State :=
  match s.canvas.notice with
  | none => s
  | some notice =>
    if isPresented s c then
      offerLimiter c (s.chain c).gain (some s.frameNo)
        (s.setChain c (updateRecord (tileDemands s c) notice.interval (s.chain c)))
    else s

/-- The limiter's work at a boundary: the chains one after another, and then the accumulation of a presented frame is
discarded (R121, R122). -/
def limiterBoundary (s : State) : State :=
  let s := forEach updateChain s
  if s.canvas.notice.isSome then discardAccumulation s else s

/-! ## Setting a budget -/

/-- A port holds a cap as its pending cap, replacing one still pending (R114, R120). -/
def handCap (p : Fin 8) (watts : Nat) (s : State) : State := s.setPort p { s.port p with cap := some watts }

/-- The cap of a stored budget goes to the ports of its chain (R120). -/
def handCaps (c : Fin 8) (watts : Nat) (s : State) : State :=
  if isRing s.activeBank c then
    if isPrimary c then handCap (returnOf c) watts (handCap (primaryOf c) watts s) else s
  else handCap c watts s

/-- The limiter record after Set Chain Budget: a budget of 0 turns the limiter off at once (R119). -/
def budgetRecord (budget step : Nat) (x : ChainLimiter) : ChainLimiter :=
  let x := { x with budget := budget, step := clampNat 1 4096 step }
  if budget = 0 then { x with gain := 4096, target := 4096, unattainable := false } else x

/-- Set Chain Budget (R119, R120, R127); its event comes before its answer (log entry 30). -/
def doSetChainBudget (tag : Byte) (chain budget step : Nat) (s : State) : State :=
  match finOf 8 chain with
  | none => refuse tag Code.setChainBudget .outOfRange s
  | some c =>
    let before := (s.chain c).gain
    let s := offerLimiter c before none (s.setChain c (budgetRecord budget step (s.chain c)))
    answer tag Code.setChainBudget .ok (u8 c.val ++ u16 budget ++ u16 (clampNat 1 4096 step)) (handCaps c budget s)

def execSetChainBudget (tag : Byte) (chain budget step : Nat) (s : State) : Out :=
  engineRuns (doSetChainBudget tag chain budget step) s

end Sys2Proof.Machine
end

