-- ==== Sys2Proof/Machine/Validation.lean ====
section
/-! DEFINITION. The validation checks of a staged bank (section 3.6, Table 3-7). -/

namespace Sys2Proof.Machine

/-- The footprint of an entry: fw columns by fh lines (R50, section 5.4). -/
def footprintW (e : TileEntry) : Nat := if e.rotation.val % 2 = 0 then e.w.toNat else e.h.toNat
def footprintH (e : TileEntry) : Nat := if e.rotation.val % 2 = 0 then e.h.toNat else e.w.toNat

/-- The failure of a test at an index where it does not hold. -/
def failUnless (ok : Bool) (check : Check) (index : Nat) : Option Failure := if ok then none else some ⟨check, index⟩

/-- Check 1, the canvas size (R49). Where W and H are both out of range the failure names the canvas width: R49 gives no order
between its two sub-checks, and that W is tested first is DEDUCED from the order in which it names them (log entry 34). -/
def checkCanvas (b : Bank) : Option Failure :=
  (failUnless (decide (1 ≤ b.canvasW.toNat) && decide (b.canvasW.toNat ≤ 8192)) .canvasWidth 0).or
    (failUnless (decide (1 ≤ b.canvasH.toNat) && decide (b.canvasH.toNat ≤ 4096)) .canvasHeight 0)

/-- Check 2, the chain lengths (R49). -/
def checkLengths (b : Bank) : Option Failure :=
  (List.finRange 8).findSome? fun c => failUnless (decide ((b.lengths.get c).toNat ≤ 32)) .chainLength c.val

/-- Check 3, the fixture slot counts (R49). -/
def checkSlots (b : Bank) : Option Failure :=
  (List.finRange 2).findSome? fun p => failUnless (decide ((b.slotCounts.get p).toNat ≤ 384)) .slotCount p.val

def sizeOk (e : TileEntry) : Bool :=
  decide (1 ≤ e.w.toNat) && decide (e.w.toNat ≤ 256) && decide (1 ≤ e.h.toNat) && decide (e.h.toNat ≤ 256)

def insideOk (b : Bank) (e : TileEntry) : Bool :=
  decide (e.x.toNat + footprintW e ≤ b.canvasW.toNat) && decide (e.y.toNat + footprintH e ≤ b.canvasH.toNat)

def positionOk (b : Bank) (e : TileEntry) : Bool := decide (e.position.val < (b.lengths.get e.chain).toNat)

def gainsOk (e : TileEntry) : Bool :=
  decide (e.gainR.toNat ≤ 4096) && decide (e.gainG.toNat ≤ 4096) && decide (e.gainB.toNat ≤ 4096)

/-- Whether two entries are valid and share chain and position (R50). -/
def sameTile (e f : TileEntry) : Bool :=
  f.valid && decide (f.chain = e.chain) && decide (f.position = e.position)

/-- No valid entry with a lower index shares the entry's chain and position (R50). -/
def uniqueTile (b : Bank) (i : Fin 256) : Bool :=
  (List.finRange 256).all fun j => !(decide (j < i) && sameTile (b.tiles.get i) (b.tiles.get j))

/-- The tests of a valid entry in the order of R50; an entry that is not valid is not examined. -/
def checkTile (b : Bank) (i : Fin 256) : Option Failure :=
  let e := b.tiles.get i
  if e.valid then
    (failUnless (sizeOk e) .tileSize i.val).or
      ((failUnless (insideOk b e) .tileInside i.val).or
        ((failUnless (positionOk b e) .tilePosition i.val).or
          ((failUnless (gainsOk e) .tileGains i.val).or (failUnless (uniqueTile b i) .tileDuplicate i.val))))
  else none

/-- Check 4, the tile map (R50). -/
def checkTiles (b : Bank) : Option Failure := (List.finRange 256).findSome? (checkTile b)

/-- A ring pair passes when its return end has length 0 and no valid entry names it (R51). -/
def ringOk (b : Bank) (k : Fin 4) : Bool :=
  let c : Fin 8 := ⟨2 * k.val + 1, by omega⟩
  !(b.rings.get k) ||
    (decide ((b.lengths.get c).toNat = 0) && (List.finRange 256).all fun i =>
      !((b.tiles.get i).valid && decide ((b.tiles.get i).chain = c)))

/-- Check 5, the ring pairs (R51). -/
def checkRings (b : Bank) : Option Failure :=
  (List.finRange 4).findSome? fun k => failUnless (ringOk b k) .ringPair k.val

/-- An entry of a curve holds no less than the one before it (R52). -/
def curveOk (t : Tab 1024 Level) (i : Fin 1024) : Bool :=
  decide (i.val = 0) || decide ((t.get ⟨i.val - 1, by omega⟩).toNat ≤ (t.get i).toNat)

/-- Checks 6 and 7, the curves (R52). -/
def checkCurve (check : Check) (t : Tab 1024 Level) : Option Failure :=
  (List.finRange 1024).findSome? fun i => failUnless (curveOk t i) check i.val

/-- The target range of a patch entry (R53). -/
def rangeOk (b : Bank) (e : PatchEntry) : Bool :=
  if e.kind = 2 then decide (e.slot.toNat < (b.slotCounts.get e.port).toNat)
  else if e.kind = 3 then decide (e.slot.toNat + 1 < (b.slotCounts.get e.port).toNat)
  else if e.kind = 4 then decide (e.mask ≠ 0)
  else true

/-- The slots a fixture target occupies: how many from its slot on (R53). -/
def slotsOf (e : PatchEntry) : Nat := if e.kind = 2 then 1 else if e.kind = 3 then 2 else 0

/-- Two fixture targets on the same port whose slots overlap (R53). -/
def slotsOverlap (e f : PatchEntry) : Bool :=
  decide (e.port = f.port) && decide (e.slot.toNat < f.slot.toNat + slotsOf f) &&
    decide (f.slot.toNat < e.slot.toNat + slotsOf e)

/-- Whether two targets conflict (R53). -/
def conflicts (e f : PatchEntry) : Bool :=
  if e.kind = 1 then decide (f.kind = 1) && decide (e.pwm = f.pwm)
  else if e.kind = 2 ∨ e.kind = 3 then (decide (f.kind = 2) || decide (f.kind = 3)) && slotsOverlap e f
  else if e.kind = 4 then decide (f.kind = 4) && decide (e.mask &&& f.mask ≠ 0)
  else if e.kind = 5 then decide (f.kind = 5)
  else false

/-- No lower channel holds a conflicting target (R53). -/
def conflictFree (b : Bank) (i : Fin 512) : Bool :=
  decide ((b.patch.get i).kind = 0) ||
    (List.finRange 512).all fun j => !(decide (j < i) && conflicts (b.patch.get i) (b.patch.get j))

/-- The tests of a channel in the order of R53. -/
def checkChannel (b : Bank) (i : Fin 512) : Option Failure :=
  let e := b.patch.get i
  (failUnless (decide (e.kind.val ≤ 5)) .patchKind i.val).or
    ((failUnless (decide (e.curve.val ≤ 2)) .patchCurve i.val).or
      ((failUnless (decide (e.trim.toNat ≤ 4096)) .patchTrim i.val).or
        ((failUnless (rangeOk b e) .patchRange i.val).or (failUnless (conflictFree b i) .patchConflict i.val))))

/-- Check 8, the patch (R53). -/
def checkPatch (b : Bank) : Option Failure := (List.finRange 512).findSome? (checkChannel b)

/-- Validation: the checks of Table 3-7 in order, each stopping at its first failing element (R48). -/
def validate (b : Bank) : Option Failure :=
  (checkCanvas b).or ((checkLengths b).or ((checkSlots b).or ((checkTiles b).or ((checkRings b).or
    ((checkCurve .wallCurve b.wallCurve).or ((checkCurve .lightCurve b.lightCurve).or (checkPatch b)))))))

end Sys2Proof.Machine
end

