-- ==== Sys2Proof/Machine/Canvas.lean ====
section
/-! DEFINITION. The Canvas Mapper and the holds (section 5). -/

namespace Sys2Proof.Machine

/-! ## From a unit to segments -/

/-- The port that feeds an entry's tile in the interval, the position it addresses it at, and its depth (R84, R111). -/
def feederOf (s : State) (i : Fin 256) : Option (Fin 8 × Nat × Nat) :=
  (List.finRange 8).findSome? fun p =>
    match (fedTiles (s.port p).latch).find? fun t => decide (t.entry = i) with
    | some t => some (p, t.position, ((s.port p).latch.choice.map Prod.fst).getD 16)
    | none => none

/-- What a unit produces for one entry: the port, the entry, the segment, and the values v of its pixels (R84 to R66). -/
structure Piece where
  port : Fin 8
  entry : Fin 256
  segment : Segment
  values : List (Nat × Nat × Nat)
deriving DecidableEq, Repr

/-- The row or column of the tile that a line `v` below the footprint's top becomes (Table 5-4). -/
def segmentIndex (e : TileEntry) (v : Nat) : Nat :=
  match e.rotation with
  | 0 => v
  | 1 => v
  | 2 => e.h.toNat - 1 - v
  | 3 => e.w.toNat - 1 - v

/-- The smallest tile column or row among the pixels of the run from `u0` to `u1 - 1` (Table 5-4, R84). -/
def segmentStart (e : TileEntry) (u0 u1 : Nat) : Nat :=
  match e.rotation with
  | 0 => u0
  | 1 => e.h.toNat - u1
  | 2 => e.w.toNat - u1
  | 3 => u0

/-- The local columns of a run in ascending order of tile column or row: falling for 180° and 90° (R84). -/
def runOrder (e : TileEntry) (u0 u1 : Nat) : List Nat :=
  let run := (List.range (u1 - u0)).map (u0 + ·)
  if e.rotation = 1 ∨ e.rotation = 2 then run.reverse else run

/-- The value v of each component of a pixel (R65, R66). -/
def pixelValues (b : Bank) (g : WallGain) (e : TileEntry) (x : Pixel) : Nat × Nat × Nat :=
  (wallMasterValue b e.gainR.toNat g x.red, wallMasterValue b e.gainG.toNat g x.green,
    wallMasterValue b e.gainB.toNat g x.blue)

/-- The three samples of a pixel at a depth (R65, R67). -/
def pixelSamples (b : Bank) (g : WallGain) (e : TileEntry) (depth : Nat) (x : Pixel) : List Nat :=
  [reduceDepth depth (wallLimitedValue b e.gainR.toNat g x.red),
    reduceDepth depth (wallLimitedValue b e.gainG.toNat g x.green),
    reduceDepth depth (wallLimitedValue b e.gainB.toNat g x.blue)]

/-- The segment an entry produces for a unit's kept pixels, none where one of R84's conditions fails. -/
def pieceFor (s : State) (u : PictureUnit) (kept : Nat) (i : Fin 256) : Option Piece :=
  let b := s.activeBank
  let e := b.tiles.get i
  let x := e.x.toNat
  let y := e.y.toNat
  let lo := max u.first x
  let hi := min (u.first + kept) (x + footprintW e)
  if e.valid = true ∧ y ≤ u.line ∧ u.line < y + footprintH e ∧ lo < hi then
    (feederOf s i).map fun (p, position, depth) =>
      let g := s.level.gains.get e.chain
      let pixels := (runOrder e (lo - x) (hi - x)).map fun k => u.pixels.getD (x + k - u.first) ⟨0, 0, 0⟩
      { port := p, entry := i
        segment :=
          { position := position, column := decide (e.rotation.val % 2 = 1)
            index := segmentIndex e (u.line - y), start := segmentStart e (lo - x) (hi - x)
            count := hi - lo, depth := depth, samples := pixels.flatMap (pixelSamples b g e depth) }
        values := pixels.map (pixelValues b g e) }
  else none

/-- The pieces of a unit, the entries in ascending index (R84, R85). -/
def piecesOf (s : State) (u : PictureUnit) (kept : Nat) : List Piece :=
  (List.finRange 256).filterMap (pieceFor s u kept)

/-- The values of a piece's pixels are handed to the Power Limiter (R66). -/
def handValues (entry : Fin 256) (values : List (Nat × Nat × Nat)) (s : State) : State :=
  values.foldl (fun s v => accumulate entry v s) s

/-- A piece is handed on: its segment to the port, its values to the limiter (R85, R66). -/
def handPiece (s : State) (x : Piece) : State := handValues x.entry x.values (handSegment x.port x.segment s)

/-! ## The end of an OPEN frame -/

def countLate (s : State) : State :=
  s.setCanvas { s.canvas with
    counters := { s.canvas.counters with lateUnits := bump s.canvas.counters.lateUnits } }

def countUnassigned (s : State) : State :=
  s.setCanvas { s.canvas with
    counters := { s.canvas.counters with unassignedUnits := bump s.canvas.counters.unassignedUnits } }

/-- Mapping stops before it completes: what was handed on stands, and the unit is counted as late or as unassigned (R83). -/
def stopMapping (count : State → State) (s : State) : State :=
  match s.canvas.engine with
  | none => s
  | some job =>
    match job.unit.mark with
    | .mapping _ => count (s.setCanvas { s.canvas with engine := none })
    | .discard => s
    | .late => s
    | .unassigned => s

/-- The buffered units of the frame that ends will be discarded when taken (R83). -/
def remark (mark : UnitMark) (u : BufferedUnit) : BufferedUnit :=
  match u.mark with
  | .mapping _ => { u with mark := mark }
  | .discard => u
  | .late => u
  | .unassigned => u

def remarkBuffer (mark : UnitMark) (s : State) : State :=
  s.setIntake { s.intake with buffer := s.intake.buffer.map (remark mark) }

/-- Whether the record is OPEN. -/
def isOpenRecord (s : State) : Bool := (s.canvas.record.map FrameRecord.state) = some .isOpen

/-- The OPEN frame is given up: its units are counted as unassigned, and its accumulation is discarded (R79, R83, R87,
R93, R121). -/
def giveUpFrame (s : State) : State :=
  discardAccumulation (remarkBuffer .unassigned (stopMapping countUnassigned s))

/-- An OPEN frame is abandoned (R87, R93); nothing happens where the record is not OPEN. -/
def abandonFrame (s : State) : State :=
  match s.canvas.record with
  | none => s
  | some r =>
    if r.state = .isOpen then
      let s := giveUpFrame s
      s.setCanvas { s.canvas with
        record := some { r with state := .abandoned }
        counters := { s.canvas.counters with framesAbandoned := bump s.canvas.counters.framesAbandoned } }
    else s

/-- An OPEN frame is superseded by one that begins (R79). -/
def supersedeFrame (s : State) : State :=
  if isOpenRecord s then
    let s := giveUpFrame s
    s.setCanvas { s.canvas with
      counters := { s.canvas.counters with framesSuperseded := bump s.canvas.counters.framesSuperseded } }
  else s

/-! ## Holds -/

/-- The wall is held while any of the three causes stands (R87). -/
def wallHeld (c : Canvas) : Bool := c.operator || c.contact || c.auto

/-- The causes in the order R92 names them. -/
inductive HoldCause where
  | operator
  | contact
  | auto
deriving DecidableEq, Repr

def HoldCause.code : HoldCause → Nat
  | .operator => 0
  | .contact => 1
  | .auto => 2

/-- HOLD_ENTERED or HOLD_LEFT: scope (wall 0, light 1), cause, frame counter (R92). -/
def holdBody (scope : Nat) (cause : HoldCause) (n : FrameNo) : List Byte := u8 scope ++ u8 cause.code ++ frameBytes n

/-- A wall cause changes; the event is offered when the wall goes between held and not held (R92). -/
def changeWall (cause : HoldCause) (after : Canvas) (s : State) : State :=
  let s' := s.setCanvas after
  if !wallHeld s.canvas && wallHeld after then offer .holdEntered (holdBody 0 cause s.frameNo) s'
  else if wallHeld s.canvas && !wallHeld after then offer .holdLeft (holdBody 0 cause s.frameNo) s'
  else s'

/-- The operator cause arises: the OPEN frame is abandoned; a cause that stands already changes nothing (R87, R89). -/
def holdWall (s : State) : State :=
  if s.canvas.operator then s
  else abandonFrame (changeWall .operator { s.canvas with operator := true } s)

/-- The operator cause clears (R90). -/
def releaseWall (s : State) : State := changeWall .operator { s.canvas with operator := false } s

/-- The light operator cause; it acts at the next boundary (R91). -/
def setLightOperator (on : Bool) (s : State) : State := s.setCanvas { s.canvas with lightOperator := on }

/-- The causes as they stand (R89): operator, contact, auto, light. That the set of wall causes is one flag byte for each, and
not a counted list, is the model's choice (log entry 18). -/
def causesBody (c : Canvas) : List Byte := flag c.operator ++ flag c.contact ++ flag c.auto ++ flag c.lightOperator

/-- Hold (R89); its event comes before its answer (log entry 30). -/
def doHold (tag : Byte) (scope : Nat) (s : State) : State :=
  match scopeOfCode scope with
  | none => refuse tag Code.hold .outOfRange s
  | some (wall, light) =>
    let s := if wall then holdWall s else s
    let s := if light then setLightOperator true s else s
    answer tag Code.hold .ok (causesBody s.canvas) s

def execHold (tag : Byte) (scope : Nat) (s : State) : Out := engineRuns (doHold tag scope) s

/-- Release (R90); its event comes before its answer (log entry 30). -/
def doRelease (tag : Byte) (scope : Nat) (s : State) : State :=
  match scopeOfCode scope with
  | none => refuse tag Code.release .outOfRange s
  | some (wall, light) =>
    let s := if wall then releaseWall s else s
    let s := if light then setLightOperator false s else s
    answer tag Code.release .ok (causesBody s.canvas) s

def execRelease (tag : Byte) (scope : Nat) (s : State) : Out := engineRuns (doRelease tag scope) s

/-- The light hold comes into force, or ends, at the boundary after its cause changed (R91, R92). -/
def lightHoldBoundary (s : State) : State :=
  let s' := s.setCanvas { s.canvas with lightHold := s.canvas.lightOperator }
  if !s.canvas.lightHold && s.canvas.lightOperator then offer .holdEntered (holdBody 1 .operator s.frameNo) s'
  else if s.canvas.lightHold && !s.canvas.lightOperator then offer .holdLeft (holdBody 1 .operator s.frameNo) s'
  else s'

/-- The boundary at which the count of boundaries without an assigned frame reaches 2 (R88). -/
def autoHoldDue (c : Canvas) : Bool := !c.assignedNow && !c.auto && decide (2 ≤ c.autoCount + 1)

/-- The auto cause is set with the count at 2 (R88, R92). -/
def setAutoHold (s : State) : State := changeWall .auto { s.canvas with auto := true, autoCount := 2 } s

/-- The boundary's count of R88. -/
def autoHoldBoundary (s : State) : State :=
  let s' :=
    if autoHoldDue s.canvas then setAutoHold s
    else if s.canvas.assignedNow then s
    else s.setCanvas { s.canvas with autoCount := min 2 (s.canvas.autoCount + 1) }
  s'.setCanvas { s'.canvas with assignedNow := false }

def execAutoHoldSet (s : State) : Out := .next (if autoHoldDue s.canvas then setAutoHold s else s)

/-! ## The frame tracker -/

/-- A frame begins and takes the record (R78): UNASSIGNED while an operator or contact cause stands, otherwise OPEN and
assigned to the running interval. `damaged` is set for a frame that a loss notice begins (R82). -/
def beginFrame (number : BitVec 16) (damaged : Bool) (s : State) : State :=
  let s := supersedeFrame s
  if s.canvas.operator || s.canvas.contact then
    s.setCanvas { s.canvas with record := some ⟨number, .unassigned, none, none, 0, [], false⟩ }
  else
    let s := changeWall .auto { s.canvas with auto := false } s
    beginAccumulation (s.setCanvas { s.canvas with
      record := some ⟨number, .isOpen, some s.frameNo, none, 0, [], damaged⟩
      autoCount := 0
      assignedNow := true
      counters := { s.canvas.counters with framesAssigned := bump s.canvas.counters.framesAssigned } })

/-- Whether a number begins a new frame: the record holds none, or another number (R78). -/
def beginsFrame (s : State) (number : BitVec 16) : Bool := (s.canvas.record.map FrameRecord.number) ≠ some number

/-- A unit of the OPEN frame is tested in the order of R80: its mark, and the state with the record or a counter changed. -/
def checkLine (u : PictureUnit) (r : FrameRecord) (s : State) : UnitMark × State :=
  let w := s.activeBank.canvasW.toNat
  let h := s.activeBank.canvasH.toNat
  let last := u.first + u.pixels.length
  let k := s.canvas.counters
  if h ≤ u.line ∨ w ≤ u.first then
    (.discard, s.setCanvas { s.canvas with
      counters := { k with outsideCanvasUnits := bump k.outsideCanvasUnits } })
  else if u.line < r.lastLine.getD 0 ∨ (r.lastLine = some u.line ∧ u.first < r.lastEnd) then
    (.discard, s.setCanvas { s.canvas with
      counters := { k with outOfOrderUnits := bump k.outOfOrderUnits } })
  else
    (.mapping (min last w - u.first), s.setCanvas { s.canvas with
      record := some { r with lastLine := some u.line, lastEnd := last }
      counters := { k with clippedUnits := bumpIf (decide (w < last)) k.clippedUnits } })

/-- A unit that belongs to the record, by the record's state (R80, R81). -/
def judgeUnit (u : PictureUnit) (s : State) : UnitMark × State :=
  match s.canvas.record with
  | none => (.discard, s)
  | some r =>
    match r.state with
    | .isOpen => checkLine u r s
    | .closed => (.discard, countLate s)
    | .abandoned => (.discard, countUnassigned s)
    | .unassigned => (.discard, countUnassigned s)

/-- The frame tracker examines a unit as it joins the picture buffer (R78). -/
def trackUnit (u : PictureUnit) (s : State) : UnitMark × State :=
  judgeUnit u (if beginsFrame s u.frame then beginFrame u.frame false s else s)

/-- A loss notice from intake (R82). -/
def lossNotice (number : BitVec 16) (s : State) : State :=
  if beginsFrame s number then beginFrame number true s
  else
    match s.canvas.record with
    | none => s
    | some r =>
      if r.state = .isOpen then s.setCanvas { s.canvas with record := some { r with damaged := true } } else s

/-! ## The mapping engine -/

/-- The ticks a taken unit takes: 8 to discard, 8 + ceil(p / 8) to map p kept pixels (R83). -/
def mappingTicks : UnitMark → Nat
  | .mapping kept => 8 + (kept + 7) / 8
  | .discard => 8
  | .late => 8
  | .unassigned => 8

/-- Pieces handed on: so many whole ones, and of the next the values of so many pixels. -/
def handFirst (pieces : List Piece) (handed begun : Nat) (s : State) : State :=
  let s := (pieces.take handed).foldl handPiece s
  match pieces.drop handed with
  | [] => s
  | x :: _ => handValues x.entry (x.values.take begun) s

/-- The pieces and values still to be handed on after those. -/
def handRest (pieces : List Piece) (handed begun : Nat) (s : State) : State :=
  match pieces.drop handed with
  | [] => s
  | x :: rest => rest.foldl handPiece (handValues x.entry (x.values.drop begun) (handSegment x.port x.segment s))

/-- The engine starts on a unit. How much of a unit to be mapped it has handed on before the next thing happens to it or to
its ports is free, within what the unit produces (R83, R85, log entry 6); the rest is handed on at its end. -/
def startUnitMapping (u : BufferedUnit) (s : State) : State :=
  let job : MappingJob := ⟨u, s.now + mappingTicks u.mark, 0, 0⟩
  match u.mark with
  | .discard => s.setCanvas { s.canvas with engine := some job }
  | .late => s.setCanvas { s.canvas with engine := some job }
  | .unassigned => s.setCanvas { s.canvas with engine := some job }
  | .mapping kept =>
    let pieces := piecesOf s u.picture kept
    let handed := freeDraw s % (pieces.length + 1)
    let begun := freeDraw (useDraw s) % (((pieces[handed]?).elim 0 fun x => x.values.length) + 1)
    handFirst pieces handed begun ((useDraw (useDraw s)).setCanvas { s.canvas with
      engine := some { job with handed := handed, begun := begun } })

/-- The idle engine takes the head of the picture buffer (R13, R83). -/
def takeUnit (s : State) : State :=
  match s.canvas.engine, s.intake.buffer with
  | none, u :: rest => startUnitMapping u (s.setIntake { s.intake with buffer := rest })
  | none, [] => s
  | some _, _ => s

def execMappingUnitTake (s : State) : Out := .next (takeUnit s)

/-- A line joins the set of lines mapped, kept in rising order (R77). -/
def insertLine (y : Nat) : List Nat → List Nat
  | [] => [y]
  | z :: rest => if y < z then y :: z :: rest else if y = z then z :: rest else z :: insertLine y rest

/-- The unit's line joins the set of lines mapped of the OPEN frame (R83). -/
def mapLine (y : Nat) (s : State) : State :=
  match s.canvas.record with
  | none => s
  | some r =>
    if r.state = .isOpen then s.setCanvas { s.canvas with record := some { r with lines := insertLine y r.lines } } else s

/-- The engine is done with its unit (R83): mapped, the rest of its segments and values handed on; or discarded and
counted. -/
def finishUnit (s : State) : State :=
  match s.canvas.engine with
  | none => s
  | some job =>
    let s := advanceTo job.due (s.setCanvas { s.canvas with engine := none })
    match job.unit.mark with
    | .discard => s
    | .late => countLate s
    | .unassigned => countUnassigned s
    | .mapping kept =>
      mapLine job.unit.picture.line (handRest (piecesOf s job.unit.picture kept) job.handed job.begun s)

def execMappingUnitEnd (s : State) : Out := .next (finishUnit s)

/-! ## Presentation -/

/-- Whether a frame is damaged: marked so, or a line below H missing from the lines mapped (R86). -/
def isDamaged (b : Bank) (r : FrameRecord) : Bool :=
  r.damaged || (List.range b.canvasH.toNat).any fun y => !r.lines.contains y

/-- The presentation of the frame that ends (R86): the OPEN frame closes and the notice carries "new frame". It reads the
bank active in the interval that ends, so it comes before a commit of the same boundary. -/
def presentFrame (s : State) : State :=
  match s.canvas.record with
  | none => s.setCanvas { s.canvas with notice := none }
  | some r =>
    if r.state = .isOpen then
      let hurt := isDamaged s.activeBank r
      let s := remarkBuffer .late (stopMapping countLate s)
      s.setCanvas { s.canvas with
        record := some { r with state := .closed }
        notice := some ⟨r.number, r.assigned.getD 0⟩
        frameDamaged := s.canvas.frameDamaged || hurt
        counters := { s.canvas.counters with
          framesPresented := bump s.canvas.counters.framesPresented
          framesDamaged := bumpIf hurt s.canvas.counters.framesDamaged } }
    else s.setCanvas { s.canvas with notice := none }

end Sys2Proof.Machine
end

