-- ==== Sys2Proof/Machine/Merge.lean ====
section
/-! DEFINITION. The Lighting Merge (section 8). -/

namespace Sys2Proof.Machine

/-! ## Sources -/

/-- The levels of a unit are written in order from its first channel on; a level past channel 511 is ignored. The channels
written join the coverage set, the count restarts, and the source is LIVE (R14, R131). -/
def writeLevels (first : Nat) (levels : List Level) (x : Source) : Source :=
  { x with
    image := x.image.writeFrom first levels
    cover := x.cover.mapFin fun i c => c || (decide (first ≤ i.val) && decide (i.val < first + levels.length))
    live := true
    silence := 0
    unitSeen := true
    levelUnits := bump x.levelUnits }

/-- The boundary at which a LIVE source has missed T_s intervals in a row (R132). -/
def silenceIsOver (x : Source) : Bool := x.live && !x.unitSeen && decide (x.timeout ≤ x.silence + 1)

/-- A source goes SILENT by its timeout (R132). -/
def goSilent (x : Source) : Source :=
  { x with
    live := false, silence := 0, cover := Tab.replicate 512 false
    sourceLost := true, silences := bump x.silences }

/-- The silence test of a source at a boundary; the unit-seen mark is then cleared (R132). -/
def silenceTest (x : Source) : Source :=
  let x :=
    if silenceIsOver x then goSilent x
    else if x.live && !x.unitSeen then { x with silence := x.silence + 1 }
    else x
  { x with unitSeen := false }

/-- The silence tests of a boundary (R132). -/
def silenceTests (s : State) : State :=
  s.setMerge { s.merge with sources := s.merge.sources.map silenceTest }

def execSourceSilenceTimeout (k : Fin 3) (s : State) : Out :=
  .next (if silenceIsOver (s.source k) then s.setSource k (goSilent (s.source k)) else s)

/-- A source after Flush Inputs (R142). -/
def flushSource (x : Source) : Source :=
  { x with
    image := Tab.replicate 512 0, cover := Tab.replicate 512 false
    live := false, silence := 0, unitSeen := false }

/-- A waiting request comes into force (R135). -/
def applyRequest (x : Source) : Source := { x with priority := x.request.getD x.priority, request := none }

/-- The priorities of a boundary (R135). -/
def applyPriorities (s : State) : State :=
  s.setMerge { s.merge with
    priority0 := s.merge.request0.getD s.merge.priority0, request0 := none
    sources := s.merge.sources.map applyRequest }

/-! ## Commands -/

/-- A priority is stored as requested of a source; source 0 is the Cue Engine (R135). -/
def requestPriority (source priority : Nat) (s : State) : State :=
  if source = 0 then s.setMerge { s.merge with request0 := some priority }
  else
    match finOf 3 (source - 1) with
    | none => s
    | some k => s.setSource k { s.source k with request := some priority }

def doSetSourcePriority (tag : Byte) (source priority : Nat) (s : State) : State :=
  if 3 < source ∨ 7 < priority then refuse tag Code.setSourcePriority .outOfRange s
  else
    answer tag Code.setSourcePriority .ok (u8 source ++ u8 priority ++ frameBytes (s.frameNo + 1))
      (requestPriority source priority s)

def execSetSourcePriority (tag : Byte) (source priority : Nat) (s : State) : Out :=
  engineRuns (doSetSourcePriority tag source priority) s

def doSetSourceTimeout (tag : Byte) (source timeout : Nat) (s : State) : State :=
  match if source = 0 then none else finOf 3 (source - 1) with
  | none => refuse tag Code.setSourceTimeout .outOfRange s
  | some k =>
    answer tag Code.setSourceTimeout .ok (u8 source ++ u16 (clampNat 1 1000 timeout))
      (s.setSource k { s.source k with timeout := clampNat 1 1000 timeout })

def execSetSourceTimeout (tag : Byte) (source timeout : Nat) (s : State) : Out :=
  engineRuns (doSetSourceTimeout tag source timeout) s

/-! ## The merge -/

/-- A LIVE source that covers a channel: its number, its priority in force, its level on the channel. -/
structure Candidate where
  source : Fin 4
  priority : Nat
  level : Level
deriving DecidableEq, Repr

/-- S0 as a candidate: the Cue Engine is not IDLE and covers the channel (R134). -/
def cueCandidate (s : State) (ch : Fin 512) : Option Candidate :=
  if s.cue.state = .idle then none
  else (s.cue.cover.get ch).map fun l => ⟨0, s.merge.priority0, l⟩

/-- An external source as a candidate (R136). -/
def sourceCandidate (s : State) (ch : Fin 512) (k : Fin 3) : Option Candidate :=
  let x := s.source k
  if x.live && x.cover.get ch then some ⟨k.succ, x.priority, x.image.get ch⟩ else none

/-- Of two candidates in ascending source number, the one that wins: the higher priority, then the higher level, then the
lower number (R136). -/
def better (a b : Candidate) : Candidate :=
  if a.priority < b.priority ∨ (a.priority = b.priority ∧ a.level.toNat < b.level.toNat) then b else a

/-- The winner among candidates in ascending source number. -/
def winner : List Candidate → Option Candidate
  | [] => none
  | a :: rest => some (rest.foldl better a)

/-- The external candidates of a channel. -/
def externals (s : State) (ch : Fin 512) : List Candidate := (List.finRange 3).filterMap (sourceCandidate s ch)

/-- All candidates of a channel, S0 first. -/
def candidates (s : State) (ch : Fin 512) : List Candidate := (cueCandidate s ch).toList ++ externals s ch

/-- A channel of the look from its winner; without one it holds its level (R136). -/
def lookFrom (old : LookEntry) : Option Candidate → LookEntry
  | none => ⟨old.level, none⟩
  | some c => ⟨c.level, some c.source⟩

/-- The merge of a boundary (R136). -/
def mergeLook (s : State) : State :=
  s.setMerge { s.merge with look := s.merge.look.mapFin fun ch old => lookFrom old (winner (candidates s ch)) }

/-- The entry level of a channel: the merge with S0 left out, from the look before this boundary's merge (R138). -/
def entryLevel (s : State) (ch : Fin 512) : Level := (lookFrom (s.merge.look.get ch) (winner (externals s ch))).level

end Sys2Proof.Machine
end

