-- ==== Sys2Proof/Machine/Timing.lean ====
section
/-! DEFINITION. The Frame Timing Unit (section 2.1 to 2.7). -/

namespace Sys2Proof.Machine

/-! ## Arithmetic of the lock machine -/

/-- The period tracked toward a measured interval: the difference divided by 16, rounded toward zero (R26, R31). -/
def trackPeriod (period : Nat) (measured : Int) : Nat := (period + Int.tdiv (measured - period) 16).toNat

/-- A difference reduced modulo the period into −floor(period/2) to period − floor(period/2) − 1 (R26). -/
def wrapError (d : Int) (period : Nat) : Int :=
  let r := d % (period : Int)
  if r ≤ (period : Int) - (period / 2 : Nat) - 1 then r else r - period

/-- Phase settled: |e| ≤ 100 (R27). -/
def isSettled (e : Int) : Bool := decide (e.natAbs ≤ 100)

/-- The phase step: e limited to floor(period/256) either way (R27). -/
def phaseStep (e : Int) (period : Nat) : Int := max (-((period / 256 : Nat) : Int)) (min e ((period / 256 : Nat) : Int))

/-- Whether a number of ticks lies within a frame period's range (R24, R26, R30). -/
def inPeriodRange (v : Int) : Bool := decide ((Config.minPeriod : Int) ≤ v) && decide (v ≤ (Config.maxPeriod : Int))

/-- The phase offset in use (R23). -/
def offsetInUse (t : Timing) : Nat := min t.phaseOffset (t.period - 1)

/-- The phase error of a pulse at a tick, against the grid of boundaries (R26). -/
def pulseError (t : Timing) (tick : Nat) : Int :=
  wrapError ((t.nextBoundary : Int) - ((tick + offsetInUse t : Nat) : Int)) t.period

/-- A phase error measured: phase settled is tested after each measurement (R27). -/
def setError (e : Int) (t : Timing) : Timing := { t with phaseError := e, settled := isSettled e }

/-- REFERENCE_STATE is offered when the lock state changed, or phase settled changed in LOCKED (R37). -/
def offerReference (before : Timing) (s : State) : State :=
  let t := s.timing
  if before.lock ≠ t.lock ∨ (t.lock = .locked ∧ before.settled ≠ t.settled) then
    offer .referenceState
      (u8 t.reference.code ++ u8 before.lock.code ++ u8 t.lock.code ++ flag t.settled ++ u32 t.period) s
  else s

/-- A change of the lock machine, with its event (R37). -/
def changeTiming (after : Timing) (s : State) : State := offerReference s.timing (s.setTiming after)

/-- The lock machine in a state without a phase: phase settled is clear outside LOCKED, the phase error discarded. -/
def leavePhase (lock : LockState) (t : Timing) : Timing := { t with lock := lock, settled := false, phaseError := 0 }

/-- LOCKED is lost: HOLDOVER with the period held (R28, R31). -/
def enterHoldover (t : Timing) : Timing :=
  { leavePhase .holdover t with
    holdoverCount := 0
    referenceLost := true
    counters := { t.counters with holdoverEntries := bump t.counters.holdoverEntries } }

/-- An acquisition times out: FREE, the run discarded (R25, R30). -/
def timeOutAcquisition (t : Timing) : Timing :=
  { leavePhase .free t with
    lastPulse := none, run := ⟨0, 0, 0⟩, firstMark := none, lastMark := none, runMarks := 0, secondEstimate := 0
    counters := { t.counters with acquisitionTimeouts := bump t.counters.acquisitionTimeouts } }

/-- The end of HOLDOVER: FREE with the held period (R29). -/
def endHoldover (t : Timing) : Timing := leavePhase .free t

def countInvalid (t : Timing) : Timing :=
  { t with counters := { t.counters with invalidReferences := bump t.counters.invalidReferences } }

/-! ## Commands -/

/-- The lock machine restarted with a reference selected (R21). -/
def restartReference (r : Reference) (t : Timing) : Timing :=
  { leavePhase .free t with
    reference := r
    period := if r = .internal then t.internalRate else t.period
    lastPulse := none, run := ⟨0, 0, 0⟩, firstMark := none, lastMark := none, runMarks := 0, secondEstimate := 0
    markWait := 0, holdoverCount := 0 }

/-- Set Reference (R21, R37); its event comes before its answer (log entry 30). -/
def doSetReference (tag : Byte) (code : Nat) (s : State) : State :=
  match referenceOfCode code with
  | none => refuse tag Code.setReference .outOfRange s
  | some r =>
    let s := changeTiming (restartReference r s.timing) s
    answer tag Code.setReference .ok (u8 r.code ++ u32 s.timing.period) s

def execSetReference (tag : Byte) (code : Nat) (s : State) : Out := engineRuns (doSetReference tag code) s

def doSetInternalRate (tag : Byte) (ticks : Nat) (s : State) : State :=
  let t := s.timing
  let rate := clampPeriod ticks
  answer tag Code.setInternalRate .ok (u32 rate)
    (s.setTiming { t with
      internalRate := rate, period := if t.reference = .internal then rate else t.period })

def execSetInternalRate (tag : Byte) (ticks : Nat) (s : State) : Out := engineRuns (doSetInternalRate tag ticks) s

def doSetPhaseOffset (tag : Byte) (ticks : Nat) (s : State) : State :=
  let offset := min ticks (s.timing.period - 1)
  answer tag Code.setPhaseOffset .ok (u32 offset) (s.setTiming { s.timing with phaseOffset := offset })

def execSetPhaseOffset (tag : Byte) (ticks : Nat) (s : State) : Out := engineRuns (doSetPhaseOffset tag ticks) s

def doSetPwmGrid (tag : Byte) (k : Nat) (s : State) : State :=
  answer tag Code.setPwmGrid .ok (u8 (clampNat 1 16 k)) (s.setTiming { s.timing with k := clampNat 1 16 k })

def execSetPwmGrid (tag : Byte) (k : Nat) (s : State) : Out := engineRuns (doSetPwmGrid tag k) s

def doSetContactFunction (tag : Byte) (input function : Nat) (s : State) : State :=
  match finOf 4 input, functionOfCode function with
  | some i, some f =>
    answer tag Code.setContactFunction .ok []
      (s.setTiming { s.timing with functions := s.timing.functions.set i f })
  | _, _ => refuse tag Code.setContactFunction .outOfRange s

def execSetContactFunction (tag : Byte) (input function : Nat) (s : State) : Out :=
  engineRuns (doSetContactFunction tag input function) s

/-! ## Genlock pulses -/

/-- A pulse in FREE or HOLDOVER starts an acquisition run (R24). -/
def startPulseRun (tick : Nat) (t : Timing) : Timing :=
  { leavePhase .acquiring t with lastPulse := some tick, run := ⟨0, 0, 0⟩ }

/-- Whether an interval is consistent with a run (R24). -/
def isConsistent (t : Timing) (interval : Nat) : Bool :=
  inPeriodRange interval &&
    (decide (t.run.count = 0) || decide (((interval : Int) - t.run.first).natAbs ≤ t.period / 1024))

/-- A run with one more interval (R24). -/
def extendRun (run : PulseRun) (interval : Nat) : PulseRun :=
  ⟨if run.count = 0 then interval else run.first, run.count + 1, run.sum + interval⟩

/-- A run of four intervals locks: the period is the floor of their mean, and the pulse is measured (R24, R26). -/
def lockToRun (tick : Nat) (run : PulseRun) (t : Timing) : Timing :=
  let t := { t with
    lock := .locked, run := run, lastPulse := some tick, period := clampPeriod (run.sum / 4)
    counters := { t.counters with locks := bump t.counters.locks } }
  setError (pulseError t tick) t

/-- A pulse in ACQUIRING (R24). -/
def acquirePulse (tick : Nat) (t : Timing) : Timing :=
  let interval := tick - t.lastPulse.getD tick
  if isConsistent t interval then
    let run := extendRun t.run interval
    if run.count = 4 then lockToRun tick run t else { t with lastPulse := some tick, run := run }
  else countInvalid { t with lastPulse := some tick, run := ⟨0, 0, 0⟩ }

/-- A pulse in LOCKED (R26). -/
def trackPulse (tick : Nat) (t : Timing) : Timing :=
  let interval := tick - t.lastPulse.getD tick
  if inPeriodRange interval then
    let t := { t with lastPulse := some tick, period := trackPeriod t.period interval }
    setError (pulseError t tick) t
  else countInvalid t

/-- A pulse on the genlock input; it is ignored unless GENLOCK is selected (section 2.2, R24, R26, R29). -/
def pulseTiming (tick : Nat) (t : Timing) : Timing :=
  if t.reference = .genlock then
    match t.lock with
    | .free => startPulseRun tick t
    | .holdover => startPulseRun tick t
    | .acquiring => acquirePulse tick t
    | .locked => trackPulse tick t
  else t

def execGenlockPulse (tick : Nat) (s : State) : Out :=
  .next (changeTiming (pulseTiming tick s.timing) (advanceTo tick s))

/-- 4,500,000 ticks after the last pulse the acquisition times out (R25). -/
def execAcquisitionTimeout (s : State) : Out :=
  .next (match s.timing.lastPulse with
    | none => s
    | some tick =>
      if s.timing.reference = .genlock ∧ s.timing.lock = .acquiring then
        changeTiming (timeOutAcquisition s.timing) (advanceTo (tick + Config.acquisitionTicks) s)
      else s)

/-- floor(3 × period / 2) ticks after the last accepted pulse the reference is lost (R28). -/
def execReferenceLost (s : State) : Out :=
  .next (match s.timing.lastPulse with
    | none => s
    | some tick =>
      if s.timing.reference = .genlock ∧ s.timing.lock = .locked then
        changeTiming (enterHoldover s.timing) (advanceTo (tick + 3 * s.timing.period / 2) s)
      else s)

/-! ## Time marks as references -/

/-- The named instant of a mark (R30). -/
def namedInstant (m : TimeMark) : Nat := m.arrival + m.delay

/-- The period estimate between two marks, none where it is not valid (R30). -/
def periodEstimate (a b : TimeMark) : Option Int :=
  let frames := frameDiff b.frame a.frame
  let estimate := ((namedInstant b : Int) - (namedInstant a : Int)) / frames
  if 1 ≤ frames ∧ inPeriodRange estimate = true then some estimate else none

/-- The difference of two marks' instants divided by their frame difference, rounded down (R30). -/
def runEstimate (a b : TimeMark) : Int :=
  ((namedInstant b : Int) - (namedInstant a : Int)) / frameDiff b.frame a.frame

/-- A run that starts with a mark (R30). -/
def startMarkRun (m : TimeMark) (t : Timing) : Timing :=
  { leavePhase .acquiring t with
    firstMark := some m, lastMark := some m, runMarks := 1, secondEstimate := 0, markWait := 0 }

/-- The phase error of a mark taken at a boundary of a tick (R31). -/
def markError (tb : Nat) (m : TimeMark) (t : Timing) : Int :=
  wrapError ((tb : Int) - (namedInstant m : Int)) t.period

/-- The third consistent mark locks: the period is the estimate from the run's first mark to it (R30, R31). -/
def lockToMarks (tb : Nat) (m : TimeMark) (t : Timing) : Timing :=
  let first := t.firstMark.getD m
  let t := { t with
    lock := .locked, lastMark := some m, runMarks := 3, markWait := 0
    period := clampPeriod (runEstimate first m).toNat
    counters := { t.counters with locks := bump t.counters.locks } }
  setError (markError tb m t) t

/-- A mark taken in ACQUIRING (R30). -/
def acquireMark (tb : Nat) (m : TimeMark) (t : Timing) : Timing :=
  match periodEstimate (t.lastMark.getD m) m with
  | none => countInvalid (startMarkRun m t)
  | some estimate =>
    if t.runMarks ≤ 1 then
      { t with lastMark := some m, runMarks := 2, secondEstimate := estimate, markWait := 0 }
    else if (estimate - t.secondEstimate).natAbs ≤ t.period / 1024 then lockToMarks tb m t
    else countInvalid (startMarkRun m t)

/-- A mark taken in LOCKED (R31). -/
def trackMark (tb : Nat) (m : TimeMark) (t : Timing) : Timing :=
  let t' := { t with lastMark := some m, markWait := 0 }
  match periodEstimate (t.lastMark.getD m) m with
  | none => countInvalid t'
  | some estimate =>
    let t' := { t' with period := trackPeriod t.period estimate }
    setError (markError tb m t') t'

/-- A mark taken at a boundary as the reference of the lock machine (R29, R30, R31). -/
def markTiming (tb : Nat) (m : TimeMark) (t : Timing) : Timing :=
  match t.lock with
  | .free => startMarkRun m t
  | .holdover => startMarkRun m t
  | .acquiring => acquireMark tb m t
  | .locked => trackMark tb m t

/-! ## Counts of boundaries -/

/-- The 100th boundary in ACQUIRING, or in LOCKED, without a mark taken, under MARKS (R30, R31). -/
def marksAcquisitionOver (t : Timing) : Bool :=
  decide (t.reference = .marks) && decide (t.lock = .acquiring) && decide (100 ≤ t.markWait + 1)
def marksReferenceOver (t : Timing) : Bool :=
  decide (t.reference = .marks) && decide (t.lock = .locked) && decide (100 ≤ t.markWait + 1)

/-- The 250th boundary in HOLDOVER (R29). -/
def holdoverIsOver (t : Timing) : Bool := decide (t.lock = .holdover) && decide (250 ≤ t.holdoverCount + 1)

/-- The lock machine at a boundary that brings it no reference (R29, R30, R31). -/
def waitTiming (t : Timing) : Timing :=
  if marksAcquisitionOver t then timeOutAcquisition t
  else if marksReferenceOver t then enterHoldover t
  else if holdoverIsOver t then endHoldover t
  else if t.lock = .holdover then { t with holdoverCount := t.holdoverCount + 1 }
  else if t.reference = .marks ∧ (t.lock = .acquiring ∨ t.lock = .locked) then { t with markWait := t.markWait + 1 }
  else t

def execMarksAcquisitionTimeout (s : State) : Out :=
  .next (if marksAcquisitionOver s.timing then changeTiming (timeOutAcquisition s.timing) s else s)

def execMarksReferenceLost (s : State) : Out :=
  .next (if marksReferenceOver s.timing then changeTiming (enterHoldover s.timing) s else s)

def execHoldoverEnd (s : State) : Out :=
  .next (if holdoverIsOver s.timing then changeTiming (endHoldover s.timing) s else s)

/-! ## The boundary -/

/-- The prescale: the smallest power of two up to 128 that leaves at most 65535 steps (R33). -/
def prescale (length k : Nat) : Nat :=
  ([1, 2, 4, 8, 16, 32, 64, 128].find? fun p => decide (length / (k * p) ≤ 65535)).getD 128

/-- The PWM grid of an interval (R33). -/
def gridOf (length k : Nat) : Grid :=
  let p := prescale length k
  let n := length / (k * p)
  ⟨k, p, n, length - k * p * n⟩

/-- The phase step of a boundary, 0 in every state but LOCKED (R19, R27). -/
def boundaryStep (t : Timing) (period : Nat) : Int := if t.lock = .locked then phaseStep t.phaseError period else 0

/-- Whether the boundary takes a waiting mark, and whether it is late: `tb` the boundary's tick, `length` the length it
fixes, `before` the length of the interval that ends (R32). -/
def takesMark (tb length : Nat) (m : TimeMark) : Bool := decide (namedInstant m ≤ tb + length / 2)
def isLateMark (tb before : Nat) (m : TimeMark) : Bool := decide (namedInstant m + before / 2 < tb)

/-- The number a taken mark gives the boundary (R32). -/
def markNumber (tb before : Nat) (m : TimeMark) : FrameNo := if isLateMark tb before m then m.frame + 1 else m.frame

/-- The mark the boundary takes, none where none waits or the waiting one waits on (R32). -/
def takenMark (s : State) : Option TimeMark :=
  let t := s.timing
  let length := ((t.period : Int) - boundaryStep t t.period).toNat
  s.intake.slot.filter fun m => takesMark t.nextBoundary length m

/-- The frame counter takes its number; a taken mark leaves the slot and may renumber (R19, R32). -/
def numberBoundary (s : State) : State :=
  let t := s.timing
  match takenMark s with
  | none => s.setTiming { t with frame := t.frame + 1 }
  | some m =>
    let n := markNumber t.nextBoundary t.length m
    let late := isLateMark t.nextBoundary t.length m
    let renumbered : Bool := n ≠ t.frame + 1
    let s := (s.setIntake { s.intake with slot := none }).setTiming { t with
      frame := n
      counters := { t.counters with
        marksTaken := bump t.counters.marksTaken
        lateMarks := bumpIf late t.counters.lateMarks
        renumberings := bumpIf renumbered t.counters.renumberings } }
    if renumbered then offer .renumbered (frameBytes (t.frame + 1) ++ frameBytes n) s else s

/-- The lock machine at the boundary: the mark it takes under MARKS, or a boundary without a reference (R29 to R31). -/
def referenceBoundary (taken : Option TimeMark) (s : State) : State :=
  match taken with
  | none => changeTiming (waitTiming s.timing) s
  | some m =>
    if s.timing.reference = .marks then changeTiming (markTiming s.timing.nextBoundary m s.timing) s
    else changeTiming (waitTiming s.timing) s

/-- The length of the interval is fixed and the next boundary scheduled (R19, R27). `period` is the period in force as the
boundary found it: a period that a mark of this boundary sets applies from the next one. -/
def fixedTiming (period : Nat) (t : Timing) : Timing :=
  let step := boundaryStep t period
  let length := ((period : Int) - step).toNat
  { t with
    length := length
    nextBoundary := t.nextBoundary + length
    phaseError := t.phaseError - step
    settled := if t.lock = .locked then isSettled (t.phaseError - step) else t.settled
    grid := gridOf length t.k }

/-- The FTU's work at a boundary (R19, R27, R32, R33). The lock machine acts before the interval is fixed: at the boundary at
which it leaves LOCKED there is no phase step, though the taking of a mark was tested with one (log entry 12). -/
def timingBoundary (s : State) : State :=
  let taken := takenMark s
  let period := s.timing.period
  let s := referenceBoundary taken (numberBoundary (advanceTo s.timing.nextBoundary s))
  changeTiming (fixedTiming period s.timing) s

end Sys2Proof.Machine
end

