-- ==== Sys2Proof/Machine/Banks.lean ====
section
/-! DEFINITION. The Bank Store and the Take Controller (section 3). -/

namespace Sys2Proof.Machine

/-! ## Writing the staged bank -/

/-- The range of Table 3-3: the start index below the table's size, a count from 1 to its largest, and the run inside the
table. -/
def inTable (size largest start count : Nat) : Bool :=
  decide (start < size) && decide (1 ≤ count) && decide (count ≤ largest) && decide (start + count ≤ size)

/-- A table write decided in the order of R42, once its body length is known to fit: `ok` is step 3, `change` what is
stored. Its answer names the table, the start index and the count. -/
def writeStaged (tag code : Byte) (table start count : Nat) (ok : Bool) (change : Bank → Bank) (s : State) : State :=
  if s.banks.take ≠ .idle then refuse tag code .stageLocked s
  else if s.banks.clone.isSome then refuse tag code .bankBusy s
  else if !ok then refuse tag code .outOfRange s
  else answer tag code .ok (u8 table ++ u16 start ++ u16 count) (s.setBanks (s.banks.setStaged (change s.stagedBank)))

/-- A write whose elements do not fill the count it states is MALFORMED (R42, R175, R184). -/
def writeTable (tag code : Byte) (table size largest width start count : Nat) (elements : List Byte)
    (change : Bank → Bank) (s : State) : State :=
  if elements.length = count * width then writeStaged tag code table start count (inTable size largest start count) change s
  else malformed tag code s

def doWriteTileEntries (tag : Byte) (start count : Nat) (elements : List Byte) (s : State) : State :=
  writeTable tag Code.writeTileEntries 0 256 128 20 start count elements
    (fun b => { b with tiles := b.tiles.writeFrom start (elementsOf 20 tileOfBytes count elements) }) s

def execWriteTileEntries (tag : Byte) (start count : Nat) (elements : List Byte) (s : State) : Out :=
  engineRuns (doWriteTileEntries tag start count elements) s

def doWriteChainLengths (tag : Byte) (start count : Nat) (elements : List Byte) (s : State) : State :=
  writeTable tag Code.writeChainLengths 1 8 8 1 start count elements
    (fun b => { b with lengths := b.lengths.writeFrom start (elementsOf 1 lengthOfBytes count elements) }) s

def execWriteChainLengths (tag : Byte) (start count : Nat) (elements : List Byte) (s : State) : Out :=
  engineRuns (doWriteChainLengths tag start count elements) s

/-- Write Ring Flags passes step 3 always (R42). -/
def doWriteRingFlags (tag : Byte) (flags : Nat) (s : State) : State :=
  writeStaged tag Code.writeRingFlags 2 0 1 true
    (fun b => { b with rings := Tab.ofFn fun k => flags.testBit k.val }) s

def execWriteRingFlags (tag : Byte) (flags : Nat) (s : State) : Out := engineRuns (doWriteRingFlags tag flags) s

/-- Write Canvas Size passes step 3 always (R42). -/
def doWriteCanvasSize (tag : Byte) (width height : Nat) (s : State) : State :=
  writeStaged tag Code.writeCanvasSize 3 0 1 true
    (fun b => { b with canvasW := BitVec.ofNat 14 width, canvasH := BitVec.ofNat 13 height }) s

def execWriteCanvasSize (tag : Byte) (width height : Nat) (s : State) : Out :=
  engineRuns (doWriteCanvasSize tag width height) s

def doWriteWallCurve (tag : Byte) (start count : Nat) (elements : List Byte) (s : State) : State :=
  writeTable tag Code.writeWallCurve 4 1024 1024 2 start count elements
    (fun b => { b with wallCurve := b.wallCurve.writeFrom start (elementsOf 2 levelOfBytes count elements) }) s

def execWriteWallCurve (tag : Byte) (start count : Nat) (elements : List Byte) (s : State) : Out :=
  engineRuns (doWriteWallCurve tag start count elements) s

def doWriteLightCurve (tag : Byte) (start count : Nat) (elements : List Byte) (s : State) : State :=
  writeTable tag Code.writeLightCurve 5 1024 1024 2 start count elements
    (fun b => { b with lightCurve := b.lightCurve.writeFrom start (elementsOf 2 levelOfBytes count elements) }) s

def execWriteLightCurve (tag : Byte) (start count : Nat) (elements : List Byte) (s : State) : Out :=
  engineRuns (doWriteLightCurve tag start count elements) s

def doWritePatch (tag : Byte) (start count : Nat) (elements : List Byte) (s : State) : State :=
  writeTable tag Code.writePatch 6 512 512 9 start count elements
    (fun b => { b with patch := b.patch.writeFrom start (elementsOf 9 patchOfBytes count elements) }) s

def execWritePatch (tag : Byte) (start count : Nat) (elements : List Byte) (s : State) : Out :=
  engineRuns (doWritePatch tag start count elements) s

def doWriteSlotCounts (tag : Byte) (start count : Nat) (elements : List Byte) (s : State) : State :=
  writeTable tag Code.writeSlotCounts 7 2 2 2 start count elements
    (fun b => { b with slotCounts := b.slotCounts.writeFrom start (elementsOf 2 slotCountOfBytes count elements) }) s

def execWriteSlotCounts (tag : Byte) (start count : Nat) (elements : List Byte) (s : State) : Out :=
  engineRuns (doWriteSlotCounts tag start count elements) s

/-! ## Reading a bank -/

/-- The range of a table read (Table 3-3); ring flags and canvas size pass (R43). -/
def readRange (table start count : Nat) : Bool :=
  match table with
  | 0 => inTable 256 128 start count
  | 1 => inTable 8 8 start count
  | 2 => true
  | 3 => true
  | 4 => inTable 1024 1024 start count
  | 5 => inTable 1024 1024 start count
  | 6 => inTable 512 512 start count
  | 7 => inTable 2 2 start count
  | _ => false

/-- The stored values of a run of elements. -/
def runBytes {α : Type} {n : Nat} (f : α → List Byte) (t : Tab n α) (start count : Nat) : List Byte :=
  ((t.data.drop start).take count).flatMap f

/-- The values of a table read, laid out as its write lays them out (R43). -/
def tableBytes (b : Bank) (table start count : Nat) : List Byte :=
  match table with
  | 0 => runBytes TileEntry.bytes b.tiles start count
  | 1 => runBytes (fun v : BitVec 6 => u8 v.toNat) b.lengths start count
  | 2 => ringByte b.rings
  | 3 => u16 b.canvasW.toNat ++ u16 b.canvasH.toNat
  | 4 => runBytes c16 b.wallCurve start count
  | 5 => runBytes c16 b.lightCurve start count
  | 6 => runBytes PatchEntry.bytes b.patch start count
  | _ => runBytes (fun v : BitVec 9 => u16 v.toNat) b.slotCounts start count

/-- The start index and the count an answer names: 0 and 1 for ring flags and canvas size (R43). -/
def readRun (table start count : Nat) : Nat × Nat := if table = 2 ∨ table = 3 then (0, 1) else (start, count)

/-- Read Table in the order of R43; it changes no state but the queue its answer joins. -/
def doReadTable (tag : Byte) (bank table start count : Nat) (s : State) : State :=
  if bank = 1 ∧ s.banks.clone.isSome = true then refuse tag Code.readTable .bankBusy s
  else if 1 < bank ∨ readRange table start count = false then refuse tag Code.readTable .outOfRange s
  else
    let letter := if bank = 0 then activeLetter s else stagedLetter s
    let b := if bank = 0 then s.activeBank else s.stagedBank
    let run := readRun table start count
    answer tag Code.readTable .ok
      (u8 letter ++ u8 table ++ u16 run.1 ++ u16 run.2 ++ tableBytes b table run.1 run.2) s

def execReadTable (tag : Byte) (bank table start count : Nat) (s : State) : Out :=
  engineRuns (doReadTable tag bank table start count) s

/-! ## Clone -/

/-- Clone in the order of R44: the tag held in `clone` is the reservation of its answer. -/
def doClone (tag : Byte) (s : State) : State :=
  if s.banks.take ≠ .idle then refuse tag Code.clone .stageLocked s
  else if s.banks.clone.isSome then refuse tag Code.clone .busy s
  else s.setBanks { s.banks with clone := some tag }

def execClone (tag : Byte) (s : State) : Out := engineRuns (doClone tag) s

/-- The Clone ends: the staged bank holds the contents of the active bank, and the answer takes the reserved room (R44,
R176). -/
def finishClone (s : State) : State :=
  match s.banks.clone with
  | none => s
  | some tag =>
    let b := s.banks.setStaged s.activeBank
    answer tag Code.clone .ok (u8 (activeLetter s) ++ u8 (stagedLetter s))
      (s.setBanks { b with clone := none, counters := { b.counters with clones := bump b.counters.clones } })

def execCloneComplete (s : State) : Out := .next (finishClone s)

/-! ## Takes -/

/-- The origin of a take as its events and the bank record carry it, its tag, input or number straight after its code
(section 3.5, R184, log entry 18). -/
def originBytes : TakeOrigin → List Byte
  | .command tag => u8 0 ++ [tag]
  | .contact input => u8 1 ++ u8 input.val
  | .cue number => u8 2 ++ u16 number

/-- A take is accepted: the record is filled, VALIDATING holds the stage lock, and validation starts (R46, R47). -/
def acceptTake (f : FrameNo) (origin : TakeOrigin) (s : State) : State :=
  s.setBanks { s.banks with
    take := .validating ⟨f, origin⟩
    counters := { s.banks.counters with takesAccepted := bump s.banks.counters.takesAccepted } }

/-- The effective frame a Take command asks for: "next" is n + 2 (R46, R184). -/
def takeFrame (n : FrameNo) (request frame : Nat) : FrameNo := if request = 1 then n + 2 else BitVec.ofNat 32 frame

/-- Take in the order of R46. -/
def doTake (tag : Byte) (request frame : Nat) (s : State) : State :=
  let f := takeFrame s.frameNo request frame
  if s.banks.take ≠ .idle then refuse tag Code.take .busy s
  else if s.banks.clone.isSome then refuse tag Code.take .bankBusy s
  else if 1 < request then refuse tag Code.take .outOfRange s
  else if request = 0 ∧ frameDiff f s.frameNo ≤ 1 then refuse tag Code.take .tooLate s
  else if request = 0 ∧ 65536 < frameDiff f s.frameNo then refuse tag Code.take .outOfRange s
  else answer tag Code.take .ok (frameBytes f) (acceptTake f (.command tag) s)

def execTake (tag : Byte) (request frame : Nat) (s : State) : Out := engineRuns (doTake tag request frame) s

/-- The reason of a failure, and for VALIDATION the check, the table and the failing index, straight after its code (Table
3-12, log entry 18). -/
def reasonBytes : FailReason → List Byte
  | .validation f => u8 0 ++ u8 f.check.code ++ u8 f.check.table ++ u16 f.index
  | .alreadyPending => u8 1
  | .bankBusy => u8 2

/-- TAKE_FAILED is offered; the outcome is kept and the flag *take failed* set (R48, R60, R61). -/
def failTake (record : TakeRecord) (reason : FailReason) (s : State) : State :=
  offer .takeFailed (originBytes record.origin ++ frameBytes record.frame ++ reasonBytes reason)
    (s.setBanks { s.banks with last := .failed reason, takeFailed := true })

/-- A request that is not accepted is counted; the earlier take stands (R58). -/
def rejectRequest (record : TakeRecord) (reason : FailReason) (s : State) : State :=
  failTake record reason (s.setBanks { s.banks with
    counters := { s.banks.counters with requestsNotAccepted := bump s.banks.counters.requestsNotAccepted } })

/-- A take request of a contact input or a cue (R58, R59). -/
def requestTake (f : FrameNo) (origin : TakeOrigin) (s : State) : State :=
  if s.banks.take ≠ .idle then rejectRequest ⟨f, origin⟩ .alreadyPending s
  else if s.banks.clone.isSome then rejectRequest ⟨f, origin⟩ .bankBusy s
  else acceptTake f origin s

/-- Validation ends (R48): PENDING when every check has passed, otherwise IDLE with TAKE_FAILED. -/
def endValidation (s : State) : State :=
  match s.banks.take with
  | .idle => s
  | .pending _ => s
  | .validating record =>
    match validate s.stagedBank with
    | none => s.setBanks { s.banks with take := .pending record }
    | some failure =>
      failTake record (.validation failure) (s.setBanks { s.banks with
        take := .idle
        counters := { s.banks.counters with validationsFailed := bump s.banks.counters.validationsFailed } })

def execValidationEnd (s : State) : Out := .next (endValidation s)

/-- A take is cancelled (R57). -/
def cancelRecord (tag : Byte) (record : TakeRecord) (s : State) : State :=
  answer tag Code.cancelTake .ok (frameBytes record.frame) (s.setBanks { s.banks with
    take := .idle, last := .cancelled
    counters := { s.banks.counters with takesCancelled := bump s.banks.counters.takesCancelled } })

def doCancelTake (tag : Byte) (s : State) : State :=
  match s.banks.take with
  | .idle => refuse tag Code.cancelTake .nothingPending s
  | .validating record => cancelRecord tag record s
  | .pending record => cancelRecord tag record s

def execCancelTake (tag : Byte) (s : State) : Out := engineRuns (doCancelTake tag) s

/-- Whether a PENDING take commits at the boundary numbered m: m − (F − 1) is 0 or more (R54). -/
def commitDue (m f : FrameNo) : Bool := decide (0 ≤ frameDiff m (f - 1))

/-- Whether the actual effective frame m + 1 is later than F (R56). -/
def isLateTake (m f : FrameNo) : Bool := decide (0 < frameDiff (m + 1) f)

/-- The commit: the designation is exchanged and the outcome kept (R55). -/
def commitTake (record : TakeRecord) (s : State) : State :=
  let m := s.frameNo
  let late := isLateTake m record.frame
  let k := s.banks.counters
  let s := s.setBanks { s.banks with
    aActive := !s.banks.aActive
    take := .idle
    last := .committed (m + 1) late
    lateTake := s.banks.lateTake || late
    counters := { k with takesCommitted := bump k.takesCommitted, lateTakes := bumpIf late k.lateTakes } }
  offer .takeDone
    (originBytes record.origin ++ frameBytes record.frame ++ frameBytes (m + 1) ++ flag late ++ u8 (activeLetter s)) s

/-- The Take Controller at a boundary (R54). -/
def takeBoundary (s : State) : State :=
  match s.banks.take with
  | .idle => s
  | .validating _ => s
  | .pending record => if commitDue s.frameNo record.frame then commitTake record s else s

end Sys2Proof.Machine
end

