-- ==== Sys2Proof/Machine/Cue.lean ====
section
/-! DEFINITION. The Cue Engine (section 9). -/

namespace Sys2Proof.Machine

/-! ## The cue list -/

/-- The record that bears a number (R149). -/
def findCue (list : List CueRecord) (number : Nat) : Option CueRecord := list.find? fun r => decide (r.number = number)

/-- The record inserted at the place its number takes, or replaced whole (R146). -/
def putCue (r : CueRecord) : List CueRecord → List CueRecord
  | [] => [r]
  | x :: rest =>
    if r.number < x.number then r :: x :: rest
    else if r.number = x.number then r :: rest
    else x :: putCue r rest

/-- The channels of a Write Cue are in strictly ascending order (R146). -/
def isAscending : List Nat → Bool
  | [] => true
  | [_] => true
  | a :: b :: rest => decide (a < b) && isAscending (b :: rest)

/-- Step 1 of R146: number, number of pairs, channels. -/
def cueInRange (number : Nat) (pairs : List (Nat × Nat)) : Bool :=
  decide (1 ≤ number) && decide (number ≤ 999) && decide (1 ≤ pairs.length) && decide (pairs.length ≤ Config.pairRoom) &&
    pairs.all (fun p => decide (p.1 ≤ 511)) && isAscending (pairs.map Prod.fst)

/-- Whether a number is that of the current or the target cue (R146, R147). -/
def isLiveCue (c : Cue) (number : Nat) : Bool :=
  decide (c.current = some number) || decide (c.target = some number)

/-- The pairs as the record holds them. -/
def cuePairs (pairs : List (Nat × Nat)) : List (Fin 512 × Level) :=
  pairs.map fun p => (Fin.ofNat 512 p.1, BitVec.ofNat 16 p.2)

/-- Write Cue in the order of R146. -/
def doWriteCue (tag : Byte) (number up down delay : Nat) (follow : Option Nat) (link : Bool) (pairs : List (Nat × Nat))
    (s : State) : State :=
  let list := s.cue.list
  if !cueInRange number pairs then refuse tag Code.writeCue .outOfRange s
  else if isLiveCue s.cue number then refuse tag Code.writeCue .cueLive s
  else if (findCue list number).isNone ∧ Config.cueRoom ≤ list.length then refuse tag Code.writeCue .listFull s
  else
    let list' := putCue ⟨number, cuePairs pairs, up, down, delay, follow, link⟩ list
    answer tag Code.writeCue .ok (u16 number ++ u8 (findCue list number).isSome.toNat ++ u8 list'.length)
      (s.setCue { s.cue with list := list' })

def execWriteCue (tag : Byte) (number up down delay : Nat) (follow : Option Nat) (link : Bool)
    (pairs : List (Nat × Nat)) (s : State) : Out :=
  engineRuns (doWriteCue tag number up down delay follow link pairs) s

/-- Delete Cue (R147). -/
def doDeleteCue (tag : Byte) (number : Nat) (s : State) : State :=
  if isLiveCue s.cue number then refuse tag Code.deleteCue .cueLive s
  else if (findCue s.cue.list number).isNone then refuse tag Code.deleteCue .notFound s
  else
    let list' := s.cue.list.filter fun r => decide (r.number ≠ number)
    answer tag Code.deleteCue .ok (u8 list'.length) (s.setCue { s.cue with list := list' })

def execDeleteCue (tag : Byte) (number : Nat) (s : State) : Out := engineRuns (doDeleteCue tag number) s

/-- A whole record, its fields in the order of Table 9-1 (log entry 15). -/
def cueBytes (r : CueRecord) : List Byte :=
  u16 r.number ++ list8 (fun p : Fin 512 × Level => u16 p.1.val ++ c16 p.2) r.pairs ++ u16 r.up ++ u16 r.down ++
    u16 r.delay ++ opt u16 r.follow ++ flag r.link

/-- Read Cue (R147): a record, or for the number 0 the numbers of the list. -/
def doReadCue (tag : Byte) (number : Nat) (s : State) : State :=
  match findCue s.cue.list number with
  | some r => answer tag Code.readCue .ok (cueBytes r) s
  | none =>
    if number = 0 then answer tag Code.readCue .ok (list8 (fun r : CueRecord => u16 r.number) s.cue.list) s
    else refuse tag Code.readCue .notFound s

def execReadCue (tag : Byte) (number : Nat) (s : State) : Out := engineRuns (doReadCue tag number) s

/-! ## Go -/

/-- The cue of reference: the target cue where one stands, and the current cue otherwise (R149). -/
def referenceCue (c : Cue) : Option Nat := c.target.or c.current

/-- The record a Go names (R149). -/
def nextCue (c : Cue) : Option CueRecord :=
  match referenceCue c with
  | none => c.list.head?
  | some number => c.list.find? fun r => decide (number < r.number)

/-- The record a Back names (R149). -/
def previousCue (c : Cue) : Option CueRecord :=
  match referenceCue c with
  | none => none
  | some number => (c.list.filter fun r => decide (r.number < number)).getLast?

/-- The fade start boundary a Go foretells: n + 1 + delay frames (R149). -/
def fadeStartOf (n : FrameNo) (r : CueRecord) : FrameNo := n + 1 + BitVec.ofNat 32 r.delay

/-- The playback record after a Go is accepted (R149, R157). -/
def goCue (n : FrameNo) (r : CueRecord) (origin : GoOrigin) (c : Cue) : Cue :=
  { c with
    state := .delay
    target := some r.number
    follow := none
    delayLeft := r.delay
    start := fadeStartOf n r
    origin := origin
    tookTake := r.link
    counters := { c.counters with
      gosAccepted := bump c.counters.gosAccepted
      fadesInterrupted := bumpIf c.target.isSome c.counters.fadesInterrupted } }

/-- A Go is accepted; a take-linked cue requests a take with F = s + 1 (R149, R156). -/
def acceptGo (r : CueRecord) (origin : GoOrigin) (s : State) : State :=
  let start := fadeStartOf s.frameNo r
  let s := s.setCue (goCue s.frameNo r origin s.cue)
  if r.link then requestTake (start + 1) (.cue r.number) s else s

/-- The answer of an accepted Go: the incoming cue, s, and whether a take was requested (R149, R156). -/
def goBody (n : FrameNo) (r : CueRecord) : List Byte := u16 r.number ++ frameBytes (fadeStartOf n r) ++ flag r.link

/-- A Go command decided: the record it names, or the refusal. A TAKE_FAILED of its take request comes before its answer
(R156, log entry 30). -/
def answerGo (tag code : Byte) (incoming : Option CueRecord) (origin : GoOrigin) (refusal : Result) (s : State) : State :=
  match incoming with
  | none => refuse tag code refusal s
  | some r => answer tag code .ok (goBody s.frameNo r) (acceptGo r origin s)

def doGo (tag : Byte) (s : State) : State := answerGo tag Code.go (nextCue s.cue) (.command tag) .endOfList s

def execGo (tag : Byte) (s : State) : Out := engineRuns (doGo tag) s

def doGoTo (tag : Byte) (number : Nat) (s : State) : State :=
  answerGo tag Code.goTo (findCue s.cue.list number) (.command tag) .notFound s

def execGoTo (tag : Byte) (number : Nat) (s : State) : Out := engineRuns (doGoTo tag number) s

def doBack (tag : Byte) (s : State) : State := answerGo tag Code.back (previousCue s.cue) .back .endOfList s

def execBack (tag : Byte) (s : State) : Out := engineRuns (doBack tag) s

/-- A contact Go, which acts as a Go command and is not answered (R35, R149, R150). -/
def contactGo (input : Fin 4) (s : State) : State :=
  match nextCue s.cue with
  | some r => acceptGo r (.contact input) s
  | none => s.setCue { s.cue with
      counters := { s.cue.counters with contactGosRefused := bump s.cue.counters.contactGosRefused } }

/-! ## Delay and fade -/

/-- The level a cue gives a channel (R151). -/
def cueLevel (r : CueRecord) (ch : Fin 512) : Option Level := (r.pairs.find? fun p => decide (p.1 = ch)).map Prod.snd

/-- The entry of the fade table for a channel (R151): none outside the union of the coverage set and the cue's list. -/
def fadeChannel (s : State) (r : CueRecord) (ch : Fin 512) : Option FadeChannel :=
  if ((s.cue.cover.get ch).or (cueLevel r ch)).isNone then none
  else
    let a := (s.cue.cover.get ch).getD (entryLevel s ch)
    let b := (cueLevel r ch).getD 0
    some ⟨a, b, if a.toNat ≤ b.toNat then r.up else r.down, (cueLevel r ch).isSome, (s.cue.cover.get ch).isNone⟩

/-- The level of a channel of the fade table at an elapsed count, which is the level S0 hands the merge: at the fade start
boundary the entry level itself for a channel that newly enters the coverage (R138, R151); otherwise its end level from its
time on, a time of 0 among them, and the step towards it before (R152). For a newly entered channel with a time of 0 the rules
contradict each other at that one boundary; that R138 and R151 then go before R152 is DEDUCED (log entry 32). -/
def fadeLevel (e : Nat) (f : FadeChannel) : Level :=
  let a := f.start.toNat
  let b := f.stop.toNat
  if e = 0 ∧ f.entered = true then f.start
  else if f.time ≤ e then f.stop
  else if a ≤ b then BitVec.ofNat 16 (a + (b - a) * e / f.time)
  else BitVec.ofNat 16 (a - (a - b) * e / f.time)

/-- The levels S0 hands the merge in a fade (R138, R152). -/
def fadeCover (e : Nat) (fade : Tab 512 (Option FadeChannel)) : Tab 512 (Option Level) :=
  fade.map fun f => f.map (fadeLevel e)

/-- The origin of a Go as CUE_STARTED and the cue record carry it, its tag or input straight after its code (R157, R184, log
entry 18). -/
def goOriginBytes : GoOrigin → List Byte
  | .none => []
  | .command tag => u8 0 ++ [tag]
  | .contact input => u8 1 ++ u8 input.val
  | .follow => u8 2
  | .back => u8 3

/-- The fade starts: the table is built from the levels as they stand and the entry levels, and steps with e = 0 (R151). -/
def startFade (s : State) : State :=
  match s.cue.target.bind (findCue s.cue.list) with
  | none => s
  | some r =>
    let fade := Tab.ofFn (fadeChannel s r)
    let s := s.setCue { s.cue with state := .fading, elapsed := 0, fade := fade, cover := fadeCover 0 fade }
    offer .cueStarted
      (u16 r.number ++ opt u16 s.cue.current ++ frameBytes s.frameNo ++ goOriginBytes s.cue.origin ++
        flag s.cue.tookTake) s

/-- The elapsed count increments and every channel steps (R152). -/
def stepFade (s : State) : State :=
  s.setCue { s.cue with elapsed := s.cue.elapsed + 1, cover := fadeCover (s.cue.elapsed + 1) s.cue.fade }

/-- Every channel of the fade table holds its end level, which S0 then hands the merge (R153): at the fade start boundary
already where every channel holds it there (R152), and one boundary later where a newly entered channel with a time of 0 still
holds its entry level (log entry 32). -/
def fadeIsOver (c : Cue) : Bool :=
  decide (c.state = .fading) && c.fade.data.all fun f =>
    match f with
    | none => true
    | some f => decide (fadeLevel c.elapsed f = f.stop)

/-- The fade is complete: the target cue becomes current, and playback rests (R153). -/
def completeFade (s : State) : State :=
  let follow := (s.cue.target.bind (findCue s.cue.list)).bind CueRecord.follow
  let boundary := follow.map fun f => s.frameNo + BitVec.ofNat 32 f
  let s := s.setCue { s.cue with
    state := .resting, current := s.cue.target, target := none, follow := boundary
    counters := { s.cue.counters with fadesCompleted := bump s.cue.counters.fadesCompleted } }
  offer .cueComplete (u16 (s.cue.current.getD 0) ++ frameBytes s.frameNo ++ opt frameBytes boundary) s

/-- From the boundary after a completion the coverage holds only the channels of the current cue (R153). -/
def keptLevel (f : FadeChannel) : Option Level := if f.kept then some f.stop else none

def restCue (c : Cue) : Cue :=
  if c.fade.data.all Option.isNone then c
  else { c with cover := c.fade.map fun f => f.bind keptLevel, fade := Tab.replicate 512 none }

/-- Whether the follow fires at this boundary (R153). -/
def followDue (s : State) : Bool :=
  decide (s.cue.state = .resting) &&
    match s.cue.follow with
    | none => false
    | some f => decide (0 ≤ frameDiff s.frameNo f)

/-- The follow fires: an automatic Go of the kind Go names; a refusal is counted (R150, R153). -/
def fireFollow (s : State) : State :=
  let s := s.setCue { s.cue with follow := none }
  match nextCue s.cue with
  | some r => acceptGo r .follow s
  | none => s.setCue { s.cue with
      counters := { s.cue.counters with followsRefused := bump s.cue.counters.followsRefused } }

def testCompletion (s : State) : State := if fadeIsOver s.cue then completeFade s else s
def testFollow (s : State) : State := if followDue s then fireFollow s else s

/-- Whether this boundary is the fade start boundary (R151). -/
def fadeStartDue (c : Cue) : Bool := decide (c.state = .delay) && decide (c.delayLeft = 0)

/-- The Cue Engine's work at a boundary, before the merge: delay, fade step, completion test; in RESTING the follow (R151
to R153). -/
def cueBoundary (s : State) : State :=
  match s.cue.state with
  | .idle => s
  | .delay =>
    if fadeStartDue s.cue then testFollow (testCompletion (startFade s))
    else s.setCue { s.cue with delayLeft := s.cue.delayLeft - 1 }
  | .fading => testFollow (testCompletion (stepFade s))
  | .haltedDelay => s
  | .haltedFading => s
  | .resting => testFollow (s.setCue (restCue s.cue))

def execFadeStart (s : State) : Out := .next (if fadeStartDue s.cue then startFade s else s)

def execFadeComplete (s : State) : Out := .next (testCompletion s)

def execFollowGo (s : State) : Out := .next (testFollow s)

/-! ## Halt, Resume, Clear Playback -/

/-- Halt by the playback state (R154). -/
def doHalt (tag : Byte) (s : State) : State :=
  match s.cue.state with
  | .delay => answer tag Code.halt .ok [] (s.setCue { s.cue with state := .haltedDelay })
  | .fading => answer tag Code.halt .ok [] (s.setCue { s.cue with state := .haltedFading })
  | .haltedDelay => answer tag Code.halt .ok [] s
  | .haltedFading => answer tag Code.halt .ok [] s
  | .resting =>
    if s.cue.follow.isSome then answer tag Code.halt .ok [] (s.setCue { s.cue with follow := none })
    else refuse tag Code.halt .wrongState s
  | .idle => refuse tag Code.halt .wrongState s

def execHalt (tag : Byte) (s : State) : Out := engineRuns (doHalt tag) s

/-- Resume returns from HALTED to the state it was entered from (R154). -/
def doResume (tag : Byte) (s : State) : State :=
  match s.cue.state with
  | .haltedDelay => answer tag Code.resume .ok [] (s.setCue { s.cue with state := .delay })
  | .haltedFading => answer tag Code.resume .ok [] (s.setCue { s.cue with state := .fading })
  | .idle => refuse tag Code.resume .wrongState s
  | .delay => refuse tag Code.resume .wrongState s
  | .fading => refuse tag Code.resume .wrongState s
  | .resting => refuse tag Code.resume .wrongState s

def execResume (tag : Byte) (s : State) : Out := engineRuns (doResume tag) s

/-- Playback cleared (R155); a target cue it abandons is counted (R157). The delay still to run, s and e keep their last
values, which IDLE does not hold (log entry 17). -/
def clearCue (c : Cue) : Cue :=
  { c with
    state := .idle, current := none, target := none, follow := none
    fade := Tab.replicate 512 none, cover := Tab.replicate 512 none
    counters := { c.counters with fadesInterrupted := bumpIf c.target.isSome c.counters.fadesInterrupted } }

def doClearPlayback (tag : Byte) (s : State) : State :=
  answer tag Code.clearPlayback .ok [] (if s.cue.state = .idle then s else s.setCue (clearCue s.cue))

def execClearPlayback (tag : Byte) (s : State) : Out := engineRuns (doClearPlayback tag) s

end Sys2Proof.Machine
end

