-- ==== Sys2Proof/Machine/Contacts.lean ====
section
/-! DEFINITION. The Contact Inputs (section 2.8). -/

namespace Sys2Proof.Machine

/-- A rising sample: high now and low before (Table 2-7). -/
def rises (s : State) (gp : Tab 4 Bool) (i : Fin 4) : Bool := gp.get i && !s.timing.samples.get i

/-- The take requests of a boundary's samples, in ascending input number, with F = n + 2 (R35, R58). -/
def contactTake (gp : Tab 4 Bool) (i : Fin 4) (s : State) : State :=
  if s.timing.functions.get i = .take ∧ rises s gp i = true then requestTake (s.frameNo + 2) (.contact i) s else s

def contactTakes (gp : Tab 4 Bool) (s : State) : State := forEach (contactTake gp) s

/-- Whether an input with the hold function is sampled high (R35). -/
def contactHolds (s : State) (gp : Tab 4 Bool) : Bool :=
  (List.finRange 4).any fun i => decide (s.timing.functions.get i = .hold) && gp.get i

/-- The contact hold cause stands from the boundary while such a sample is high; as it arises it abandons an OPEN frame,
of which there is none once the boundary has presented (R35, R87, R92). -/
def contactHold (gp : Tab 4 Bool) (s : State) : State :=
  let on := contactHolds s gp
  let s' := changeWall .contact { s.canvas with contact := on } s
  if on && !s.canvas.contact then abandonFrame s' else s'

/-- The Gos of a boundary's samples, in ascending input number (R35, R150). -/
def contactGoStep (gp : Tab 4 Bool) (i : Fin 4) (s : State) : State :=
  if s.timing.functions.get i = .go ∧ rises s gp i = true then contactGo i s else s

def contactGos (gp : Tab 4 Bool) (s : State) : State := forEach (contactGoStep gp) s

/-- The samples are kept as the previous ones (R35). -/
def keepSamples (gp : Tab 4 Bool) (s : State) : State := s.setTiming { s.timing with samples := gp }

end Sys2Proof.Machine
end

