-- ==== Sys2Proof/Machine/Drive.lean ====
section
/-! DEFINITION. The Direct Drive (sections 10.1 to 10.3). -/

namespace Sys2Proof.Machine

/-! ## Settings -/

/-- The settings a Set PWM Output asks for (Table 10-1, R184: alignment left 0, centre 1; polarity active high 0, low 1). -/
def pwmSettings (alignment polarity phase : Nat) (pair : Bool) : PwmSettings :=
  ⟨decide (alignment = 1), decide (polarity = 1), phase, pair⟩

/-- The ranges of R159, for an output that exists. -/
def pwmInRange (o : Fin 16) (alignment polarity phase : Nat) (pair : Bool) : Bool :=
  decide (alignment ≤ 1) && decide (polarity ≤ 1) && decide (phase ≤ 15) && !(pair && decide (o.val % 2 = 1))

/-- The four settings as a body carries them. -/
def PwmSettings.bytes (x : PwmSettings) : List Byte :=
  u8 x.centre.toNat ++ u8 x.activeLow.toNat ++ u8 x.phase ++ flag x.pair

/-- Settings stored as those requested of an output (R159). -/
def requestSettings (o : Fin 16) (x : PwmSettings) (s : State) : State :=
  s.setDrive (s.drive.set o { s.drive.get o with requested := some x })

def doSetPwmOutput (tag : Byte) (output alignment polarity phase : Nat) (pair : Bool) (s : State) : State :=
  match finOf 16 output with
  | none => refuse tag Code.setPwmOutput .outOfRange s
  | some o =>
    let x := pwmSettings alignment polarity phase pair
    if pwmInRange o alignment polarity phase pair then
      answer tag Code.setPwmOutput .ok (x.bytes ++ frameBytes (s.frameNo + 1)) (requestSettings o x s)
    else refuse tag Code.setPwmOutput .outOfRange s

def execSetPwmOutput (tag : Byte) (output alignment polarity phase : Nat) (pair : Bool) (s : State) : Out :=
  engineRuns (doSetPwmOutput tag output alignment polarity phase pair) s

/-- At a boundary the settings requested of every output become its settings in force (R159). -/
def PwmOutput.applySettings (x : PwmOutput) : PwmOutput :=
  { x with inForce := x.requested.getD x.inForce, requested := none }

def applySettings (s : State) : State := s.setDrive (s.drive.map PwmOutput.applySettings)

/-! ## Staged entries taken up -/

/-- The total duty d_i and the warm duty d_w of a staged pair against N (R75). -/
def pairDuties (intensity mix n : Nat) : Nat × Nat := (dutyOf intensity n, warmDuty (dutyOf intensity n) mix)

/-- What an output shows from its own staged entry and that of the even output of its pair (R160). -/
def takenUp (n : Nat) (odd : Bool) (own even : Staged) : Shown :=
  match odd, even, own with
  | true, .pair i x, _ => .cool (pairDuties i x n).1 (pairDuties i x n).2
  | _, _, .value v => .duty (dutyOf v n)
  | false, _, .pair i x => .warm (pairDuties i x n).1 (pairDuties i x n).2
  | _, _, _ => .idle

/-- Every staged entry becomes active against the N of the interval, unless the light hold is in force (R160, R161). -/
def takeUp (s : State) : State :=
  if s.canvas.lightHold then s
  else s.setDrive (s.drive.mapFin fun o x =>
    { x with shown :=
        takenUp s.timing.grid.n (decide (o.val % 2 = 1)) x.staged (s.drive.get (evenOutput o)).staged })

/-! ## The duty shown and the waveform -/

/-- The duty shown in an interval of N steps: what was taken up, clamped where a hold carries it into a smaller N (R161). -/
def shownDuty (n : Nat) : Shown → Nat
  | .idle => 0
  | .duty d => min d n
  | .warm total warm => min warm (min total n)
  | .cool total warm => min total n - min warm (min total n)

/-- Whether a step of a PWM period of N steps is active at a duty (R162). -/
def isActiveStep (x : PwmSettings) (n d step : Nat) : Bool :=
  if x.centre then decide ((n - d) / 2 ≤ step) && decide (step < (n - d) / 2 + d)
  else decide ((step + n - x.phase * n / 16) % n < d)

/-- The step of its PWM period that a tick of the interval falls in; the last period runs on through the residual, which
holds the level of its last step (R162). -/
def stepAt (g : Grid) (tick : Nat) : Nat :=
  let j := min (tick / (g.p * g.n)) (g.k - 1)
  min ((tick - g.p * g.n * j) / g.p) (g.n - 1)

/-- The level of the line of an output at a tick of the interval: `true` is high (R162). -/
def lineLevel (g : Grid) (x : PwmOutput) (tick : Nat) : Bool :=
  isActiveStep x.inForce g.n (shownDuty g.n x.shown) (stepAt g tick) != x.inForce.activeLow

/-- The ticks an output is active in the interval (R162). -/
def activeTicks (g : Grid) (x : PwmOutput) : Nat :=
  let d := shownDuty g.n x.shown
  g.k * d * g.p + if isActiveStep x.inForce g.n d (g.n - 1) then g.residual else 0

end Sys2Proof.Machine
end

