-- ==== Sys2Proof/Machine/Fixture.lean ====
section
/-! DEFINITION. The Fixture Bus Ports (sections 10.4 to 10.8). -/

namespace Sys2Proof.Machine

/-! ## The outstanding query -/

/-- The outstanding query ends: the receiver takes the stored rate (R164), and a frame begun in its window counts as begun
in none (R169). -/
def endQuery (p : Fin 2) (s : State) : State :=
  let x := s.fixturePort p
  s.setFixturePort p { x with
    query := none, rxRate := x.rate, rx := x.rx.map fun f => { f with inWindow := false } }

/-- The outstanding query is answered, and its reservation becomes the queued answer (R169, R176). -/
def answerQuery (p : Fin 2) (result : Result) (body : List Byte) (s : State) : State :=
  match (s.fixturePort p).query with
  | none => s
  | some q => answer q.tag Code.queryFixture result body (endQuery p s)

/-! ## The shifter -/

/-- The characters of a frame being sent after its lead-in (Table 12-5). -/
def shifterCharacters (x : FixturePort) : List Byte :=
  match x.shifter with
  | .level _ _ slots => levelFrame slots
  | .query _ _ => x.query.elim [] fun q => queryFrame q.address q.kind
  | .idle => []
  | .cutOff _ _ characters => characters

/-- The level of the line of a port at a tick, with `true` for the idle level (R164, R166, R186). -/
def busLevel (now : Nat) (x : FixturePort) : Bool :=
  match x.shifter with
  | .idle => true
  | .level began rate _ => frameLevel rate (shifterCharacters x) (now - began)
  | .query began rate => frameLevel rate (shifterCharacters x) (now - began)
  | .cutOff began rate _ => frameLevel rate (shifterCharacters x) (now - began)

/-- The tick a frame being sent began at, and its rate. -/
def Shifter.begun : Shifter → Option (Nat × BitRate)
  | .level began rate _ => some (began, rate)
  | .query began rate => some (began, rate)
  | .idle => none
  | .cutOff _ _ _ => none

/-- The idle shifter takes work: a waiting query first, otherwise the snapshot in the buffer (R166). -/
def takeWork (now : Nat) (x : FixturePort) : FixturePort :=
  match x.shifter with
  | .idle =>
    match x.query with
    | some q =>
      if q.phase = .waiting then { x with shifter := .query now x.rate, query := some { q with phase := .sending } }
      else match x.buffer with
        | some slots => { x with shifter := .level now x.rate slots, buffer := none }
        | none => x
    | none => match x.buffer with
      | some slots => { x with shifter := .level now x.rate slots, buffer := none }
      | none => x
  | .level _ _ _ => x
  | .query _ _ => x
  | .cutOff _ _ _ => x

def shiftNext (p : Fin 2) (s : State) : State := s.setFixturePort p (takeWork s.now (s.fixturePort p))

/-- A level frame has been sent whole (R166). -/
def FixturePort.levelSent (x : FixturePort) : FixturePort :=
  { x with
    shifter := .idle
    counters := { x.counters with framesSent := bump x.counters.framesSent } }

/-- A query frame has been sent whole: the reply window opens (R166, R167). -/
def FixturePort.querySent (now : Nat) (x : FixturePort) : FixturePort :=
  { x with
    shifter := .idle
    query := x.query.map fun q => { q with phase := .window (now + Config.replyWindow) }
    counters := { x.counters with queriesSent := bump x.counters.queriesSent } }

/-- The frame being sent ends at its tick, and the shifter takes its next work there (R166). A frame cut off by a disable
is not counted; its line is idle from the end of its last character. -/
def endShifterFrame (p : Fin 2) (s : State) : State :=
  let x := s.fixturePort p
  match x.shifter with
  | .idle => s
  | .level began rate slots =>
    let s := advanceTo (began + frameTicks rate (levelFrame slots).length) s
    shiftNext p (emit (.fixture p rate (levelFrame slots)) (s.setFixturePort p x.levelSent))
  | .query began rate =>
    let s := advanceTo (began + frameTicks rate 3) s
    shiftNext p (emit (.fixture p rate (shifterCharacters x)) (s.setFixturePort p (x.querySent s.now)))
  | .cutOff began rate characters =>
    shiftNext p ((advanceTo (began + frameTicks rate characters.length) s).setFixturePort p { x with shifter := .idle })

def execShifterFrameEnd (p : Fin 2) (s : State) : Out := .next (endShifterFrame p s)

/-! ## Set Fixture Port -/

/-- A frame being sent at a tick is cut off after the character being shifted, or at once in its lead-in (R164). That a frame
whose last character is being shifted is cut off too, and so not counted, is the model's choice (log entry 20). -/
def cutFrame (p : Fin 2) (s : State) : State :=
  let x := s.fixturePort p
  match x.shifter.begun with
  | none => s
  | some (began, rate) =>
    if s.now < began + Config.leadIn then s.setFixturePort p { x with shifter := .idle }
    else
      let kept := (shifterCharacters x).take ((s.now - (began + Config.leadIn)) / rate.characterTicks + 1)
      emit (.fixture p rate kept) (s.setFixturePort p { x with shifter := .cutOff began rate kept })

/-- A port in REFRESHING becomes OFF (R164): buffer emptied, frame cut off, query answered NO_REPLY, receiver stopped.
The refresh count stays as it last stood: what a port in OFF reads of it is the model's choice (log entry 17, R165, R172). -/
def switchOff (p : Fin 2) (s : State) : State :=
  let s := answerQuery p .noReply [] (cutFrame p s)
  s.setFixturePort p { s.fixturePort p with refreshing := false, buffer := none, rx := none }

/-- A port in OFF becomes REFRESHING (R164). -/
def switchOn (p : Fin 2) (s : State) : State :=
  s.setFixturePort p { s.fixturePort p with refreshing := true, refreshCount := 1, rx := none }

/-- The bit rate and the divisor are stored; the receiver's rate waits for an outstanding query to end (R164). -/
def storeRate (p : Fin 2) (rate : BitRate) (divisor : Nat) (s : State) : State :=
  let x := s.fixturePort p
  s.setFixturePort p { x with
    rate := rate, divisor := divisor, rxRate := if x.query.isSome then x.rxRate else rate }

/-- The state of a port after the enable of a valid command (R164). -/
def enablePortTo (p : Fin 2) (enable : Bool) (s : State) : State :=
  if enable = (s.fixturePort p).refreshing then s
  else if enable then switchOn p s
  else switchOff p s

def doSetFixturePort (t : Nat) (tag : Byte) (port : Nat) (enable : Bool) (rate divisor : Nat) (s : State) : State :=
  let s := advanceTo t s
  match finOf 2 port, rateOfCode rate with
  | some p, some r =>
    if 1 ≤ divisor ∧ divisor ≤ 4 then
      let s := enablePortTo p enable (storeRate p r divisor s)
      answer tag Code.setFixturePort .ok (flag (s.fixturePort p).refreshing ++ u8 r.code ++ u8 divisor) s
    else refuse tag Code.setFixturePort .outOfRange s
  | _, _ => refuse tag Code.setFixturePort .outOfRange s

def execSetFixturePort (t : Nat) (tag : Byte) (port : Nat) (enable : Bool) (rate divisor : Nat) (s : State) : Out :=
  engineRuns (doSetFixturePort t tag port enable rate divisor) s

/-! ## Query Fixture -/

/-- A query is accepted: its tag is the reservation of its answer, and an idle shifter takes it (R166, R167). -/
def acceptQuery (tag : Byte) (p : Fin 2) (address : Nat) (kind : QueryKind) (s : State) : State :=
  shiftNext p (s.setFixturePort p { s.fixturePort p with query := some ⟨tag, address, kind, .waiting⟩ })

/-- Query Fixture in the order of R167. -/
def doQueryFixture (t : Nat) (tag : Byte) (port address kind : Nat) (s : State) : State :=
  let s := advanceTo t s
  match finOf 2 port, queryOfCode kind with
  | some p, some k =>
    if address = 0 ∨ 255 < address then refuse tag Code.queryFixture .outOfRange s
    else if (s.fixturePort p).refreshing = false then refuse tag Code.queryFixture .wrongState s
    else if (s.fixturePort p).query.isSome then refuse tag Code.queryFixture .busy s
    else acceptQuery tag p address k s
  | _, _ => refuse tag Code.queryFixture .outOfRange s

def execQueryFixture (t : Nat) (tag : Byte) (port address kind : Nat) (s : State) : Out :=
  engineRuns (doQueryFixture t tag port address kind) s

/-! ## Refresh -/

/-- The boundary is a refresh boundary of the port (R165). -/
def refreshDue (x : FixturePort) : Bool := x.refreshing && decide (x.refreshCount ≤ 1)

/-- The snapshot a refresh boundary latches: the slot values of the boundary before, or under the light hold a copy of the
last snapshot (R165). -/
def snapshotOf (held : Bool) (x : FixturePort) : List Byte := if held then x.lastSnapshot.getD [] else x.slots

/-- A snapshot is latched; one that replaces a waiting snapshot is counted as a late frame (R165). -/
def latchSnapshot (held : Bool) (x : FixturePort) : FixturePort :=
  { x with
    refreshCount := x.divisor
    buffer := some (snapshotOf held x)
    lastSnapshot := some (snapshotOf held x)
    counters := { x.counters with lateFrames := bumpIf x.buffer.isSome x.counters.lateFrames } }

/-- The refresh boundary of a port: the latch, and the idle shifter takes the snapshot at once (R165, R166). -/
def refreshLatch (p : Fin 2) (s : State) : State :=
  shiftNext p (s.setFixturePort p (latchSnapshot s.canvas.lightHold (s.fixturePort p)))

/-- The refresh count of a port at a boundary (R165). -/
def refreshBoundary (p : Fin 2) (s : State) : State :=
  if refreshDue (s.fixturePort p) then refreshLatch p s
  else if (s.fixturePort p).refreshing then
    s.setFixturePort p { s.fixturePort p with refreshCount := (s.fixturePort p).refreshCount - 1 }
  else s

def execFixtureRefresh (p : Fin 2) (s : State) : Out :=
  .next (if refreshDue (s.fixturePort p) then refreshLatch p s else s)

/-! ## Receiving -/

/-- A query of the port is in its reply window. -/
def inReplyWindow (x : FixturePort) : Bool :=
  match x.query with
  | none => false
  | some q => match q.phase with
    | .window _ => true
    | .waiting => false
    | .sending => false
    | .closing => false

/-- The frame being received after a character: stored in it, or beginning it where the line was idle or at the break level
before. A character of a frame whose beginning the receiver did not see is in no frame (R168, log entry 31). -/
def frameAfter (c : RxChar) (gap : Bool) (x : FixturePort) : Option RxFrame :=
  match x.rx with
  | some f => some { f with chars := f.chars ++ [c] }
  | none => if gap then some ⟨[c], inReplyWindow x⟩ else none

/-- A character is checked and counted, and stored with the marks of its errors (R168). -/
def storeCharacter (data : Byte) (parity : Bool) (line : Framing) (x : FixturePort) : FixturePort :=
  let c : RxChar := ⟨data, evenParity data != parity, !line.stop⟩
  { x with
    rx := frameAfter c line.gap x
    parity := x.parity || c.parityError
    framing := x.framing || c.framingError
    counters := { x.counters with receivedCharacters := bump x.counters.receivedCharacters } }

/-- The receiver of a port in REFRESHING takes a character (R168). -/
def receiveCharacter (p : Fin 2) (data : Byte) (parity : Bool) (line : Framing) (s : State) : State :=
  if (s.fixturePort p).refreshing then s.setFixturePort p (storeCharacter data parity line (s.fixturePort p)) else s

def execFixtureCharacter (p : Fin 2) (data : Byte) (parity : Bool) (line : Framing) (s : State) : Out :=
  .next (receiveCharacter p data parity line s)

/-- The first three characters of the reply to a query (R169). -/
def replyStart (q : Query) : List Byte := u8 0x30 ++ u8 q.address ++ [q.kind.character]

/-- A frame is the reply (R169). -/
def isReply (q : Query) (f : RxFrame) : Bool := decide ((f.chars.map RxChar.data).take 3 = replyStart q)

/-- What a frame holds so far may still become the reply. -/
def mayBeReply (q : Query) (f : RxFrame) : Bool :=
  decide ((f.chars.map RxChar.data).take 3 = (replyStart q).take f.chars.length)

/-- The length n a reply states in its fourth character. -/
def replyLength (chars : List RxChar) : Nat := ((chars[3]?).map fun c => c.data.toNat).getD 0

/-- The tests of a reply's contents (R169). -/
def replyIsGood (chars : List RxChar) : Bool :=
  let n := replyLength chars
  let counted := chars.take (5 + n)
  decide (1 ≤ n) && decide (n ≤ 12) && decide (5 + n ≤ chars.length) &&
    counted.all (fun c => !c.parityError && !c.framingError) &&
      decide ((counted.map RxChar.data).getLast? = some (replyChecksum ((chars.take (4 + n)).map RxChar.data)))

/-- The reply ends the query, OK with its data or REPLY_BAD with what was received (R169). -/
def takeReply (p : Fin 2) (f : RxFrame) (s : State) : State :=
  let x := s.fixturePort p
  let k := x.counters
  let data := f.chars.map RxChar.data
  if replyIsGood f.chars then
    answerQuery p .ok (list8 (fun b : Byte => [b]) ((data.drop 4).take (replyLength f.chars)))
      (s.setFixturePort p { x with counters := { k with repliesGood := bump k.repliesGood } })
  else
    answerQuery p .replyBad (list16 (fun b : Byte => [b]) (data.take 8186))
      (s.setFixturePort p { x with counters := { k with repliesBad := bump k.repliesBad } })

/-- A frame is handed to the reply FIFO (R170). -/
def joinFifo (f : RxFrame) (x : FixturePort) : FixturePort :=
  let k := x.counters
  if f.chars.length < 4 ∨ 16 < f.chars.length then
    { x with counters := { k with framesDiscarded := bump k.framesDiscarded } }
  else if x.fifo.length < 2 then
    { x with
      fifo := x.fifo ++ [⟨f.chars.map RxChar.data, f.chars.any RxChar.parityError, f.chars.any RxChar.framingError⟩]
      counters := { k with unsolicitedFrames := bump k.unsolicitedFrames } }
  else
    { x with
      overrun := true
      counters := { k with overrunFrames := bump k.overrunFrames } }

/-- The window closed with no reply begun in it (R169). -/
def closeWithoutReply (p : Fin 2) (s : State) : State :=
  let x := s.fixturePort p
  answerQuery p .noReply []
    (s.setFixturePort p { x with counters := { x.counters with noReplies := bump x.counters.noReplies } })

/-- A frame that began in the window and is not the reply goes to the FIFO; a window that closed meanwhile ends its query
(R169). -/
def passFrame (p : Fin 2) (q : Query) (f : RxFrame) (s : State) : State :=
  let s := s.setFixturePort p (joinFifo f (s.fixturePort p))
  if q.phase = .closing then closeWithoutReply p s else s

/-- A received frame ends (R168): to the reply test where it began in the window of the outstanding query, to the FIFO
otherwise. -/
def endRxFrame (p : Fin 2) (s : State) : State :=
  match (s.fixturePort p).rx with
  | none => s
  | some f =>
    let s := s.setFixturePort p { s.fixturePort p with rx := none }
    match (s.fixturePort p).query with
    | none => s.setFixturePort p (joinFifo f (s.fixturePort p))
    | some q =>
      if f.inWindow then if isReply q f then takeReply p f s else passFrame p q f s
      else s.setFixturePort p (joinFifo f (s.fixturePort p))

def execFixtureFrameEnd (p : Fin 2) (s : State) : Out := .next (endRxFrame p s)

/-- The frame being received began in the window and may still be the reply of a query. -/
def replyBegun (q : Query) (x : FixturePort) : Bool :=
  match x.rx with
  | none => false
  | some f => f.inWindow && mayBeReply q f

/-- The reply window closes at its tick (R169). -/
def closeWindow (p : Fin 2) (s : State) : State :=
  match (s.fixturePort p).query with
  | none => s
  | some q =>
    match q.phase with
    | .waiting => s
    | .sending => s
    | .closing => s
    | .window closes =>
      let s := advanceTo closes s
      if replyBegun q (s.fixturePort p) then
        s.setFixturePort p { s.fixturePort p with query := some { q with phase := .closing } }
      else closeWithoutReply p s

def execReplyWindowClose (p : Fin 2) (s : State) : Out := .next (closeWindow p s)

/-! ## The drain -/

/-- The body of FIXTURE_REPLY (R171). -/
def fixtureReplyBody (p : Fin 2) (n : FrameNo) (e : FifoEntry) : List Byte :=
  u8 p.val ++ list8 (fun b : Byte => [b]) e.chars ++ flag e.parity ++ flag e.framing ++ frameBytes n

/-- The reply FIFO of a port is drained, oldest first (R171). -/
def drainFifo (p : Fin 2) (s : State) : State :=
  let s' := s.setFixturePort p { s.fixturePort p with fifo := [] }
  (s.fixturePort p).fifo.foldl (fun s e => offer .fixtureReply (fixtureReplyBody p s.frameNo e) s) s'

end Sys2Proof.Machine
end

