-- ==== Sys2Proof/Machine/Intake.lean ====
section
/-! DEFINITION. The Program Link Port's receive direction, the Unit Filter and the intake lanes (section 1). -/

namespace Sys2Proof.Machine

/-! ## Link state -/

/-- The Report Queue learns that the link is up: a report cut off by the loss is sent again (R1, R179). -/
def Mgmt.linkReturns (m : Mgmt) : Mgmt :=
  if m.cut && !m.queue.isEmpty then
    { m with cut := false, counters := { m.counters with reportsResent := bump m.counters.reportsResent } }
  else { m with cut := false }

/-- A valid signal acquired in LINK_DOWN (R1). -/
def linkUp (s : State) : State :=
  match s.intake.link with
  | .up => s
  | .down =>
    (s.setIntake { s.intake with link := .up, framer := .hunt false }).setMgmt s.mgmt.linkReturns

def execLinkUp (s : State) : Out := .next (linkUp s)

/-- Whether the framer is receiving a unit (R5). -/
def Framer.inUnit : Framer → Bool
  | .hunt _ => false
  | .header => true
  | .body _ _ _ => true

/-- The valid signal lost in LINK_UP (R1, R5, R179): a report at the head of the queue is being sent, and is cut off. -/
def linkDown (s : State) : State :=
  match s.intake.link with
  | .down => s
  | .up =>
    let x := s.intake
    (s.setIntake { x with
      link := .down, framer := .hunt false, linkLost := true
      counters := { x.counters with
        linkLosses := bump x.counters.linkLosses
        abortedUnits := bumpIf x.framer.inUnit x.counters.abortedUnits } }).setMgmt
      { s.mgmt with cut := !s.mgmt.queue.isEmpty }

def execLinkDown (s : State) : Out := .next (linkDown s)

/-! ## The framer -/

/-- So many bytes counted as skipped (R2). -/
def skipBytes (k : Nat) (x : Intake) : Intake :=
  { x with counters := { x.counters with skippedBytes := bumpBy k x.counters.skippedBytes } }

/-- A byte in HUNT, with or without a held 0xC5 (R2). -/
def hunt (held : Bool) (b : Byte) (x : Intake) : Intake :=
  if held then
    if b = 0x3A then { x with framer := .header }
    else if b = 0xC5 then skipBytes 1 x
    else skipBytes 2 { x with framer := .hunt false }
  else if b = 0xC5 then { x with framer := .hunt true }
  else skipBytes 1 x

/-- A byte received in HUNT; in LINK_DOWN the framer receives none (R1, R2). -/
def huntByte (b : Byte) (x : Intake) : Intake :=
  match x.link, x.framer with
  | .up, .hunt held => hunt held b x
  | _, _ => x

def execHuntByte (b : Byte) (s : State) : Out := .next (s.setIntake (huntByte b s.intake))

/-- The five header bytes read in HEADER (R3). -/
def readHeader (streamId address length : Nat) (x : Intake) : Intake :=
  match x.link, x.framer with
  | .up, .header =>
    if 4 ≤ length ∧ length ≤ 8192 then { x with framer := .body streamId address length }
    else { x with
      framer := .hunt false, counters := { x.counters with lengthErrors := bump x.counters.lengthErrors } }
  | _, _ => x

def execHeaderReceived (streamId address length : Nat) (s : State) : Out :=
  .next (s.setIntake (readHeader streamId address length s.intake))

/-! ## The Unit Filter -/

/-- Entry 0 is fixed (section 1.5). -/
def entryZero : FilterEntry := ⟨0, 0xFFFF, .management, 0⟩

/-- An entry matches a stream ID in every bit its mask selects (R8). -/
def FilterEntry.admits (e : FilterEntry) (streamId : BitVec 16) : Bool :=
  decide (streamId &&& e.mask = e.value &&& e.mask)

/-- The first matching entry among those in use (R8). -/
def decidingEntry (x : Intake) (streamId : BitVec 16) : Option FilterEntry :=
  ((entryZero :: x.entries.data).take x.inUse).find? fun e => e.admits streamId

/-- The payload lengths and counts of Table 1-3. -/
def fitsClass (cls : UnitClass) (payload : List Byte) : Bool :=
  match cls with
  | .management => decide (4 ≤ payload.length) && decide (payload.length ≤ 8192)
  | .picture =>
    let k := wordAt payload 6
    decide (1 ≤ k) && decide (k ≤ 2040) && decide (payload.length = 8 + 4 * k)
  | .level =>
    let k := wordAt payload 2
    decide (1 ≤ k) && decide (k ≤ 512) && decide (payload.length = 4 + 2 * k)
  | .timeMark => decide (payload.length = 8)
  | .discard => false

/-! ## The lanes -/

/-- A management unit joins the lane, or overflows a full one without an answer (R12). A unit the engine cannot start
leaves it stalled (R174). So a unit that joins an empty lane just before a report leaves at the same tick counts a stall, and
one that joins just after it counts none: R174 gives both orders one outcome and names only the unit's start, so this count
is the model's (log entry 25). -/
def joinLane (payload : List Byte) (s : State) : State :=
  let x := s.intake
  let k := x.counters
  if x.lane.length < Config.laneSize then
    settleEngine (s.setIntake { x with
      lane := x.lane ++ [⟨payload.getD 0 0, payload.getD 1 0, payload.drop 2⟩]
      counters := { k with managementUnits := bump k.managementUnits } })
  else s.setIntake { x with
    laneOverflow := true
    counters := { k with laneOverflows := bump k.laneOverflows } }

/-- A picture unit joins the buffer with the frame tracker's mark, or overflows a full one with a loss notice (R13, R78,
R82). -/
def joinBuffer (u : PictureUnit) (s : State) : State :=
  if s.intake.buffer.length < Config.bufferSize then
    let marked := trackUnit u s
    let x := marked.2.intake
    marked.2.setIntake { x with
      buffer := x.buffer ++ [⟨u, marked.1⟩]
      counters := { x.counters with pictureUnits := bump x.counters.pictureUnits } }
  else
    let x := s.intake
    lossNotice u.frame (s.setIntake { x with
      counters := { x.counters with bufferOverflows := bump x.counters.bufferOverflows } })

/-- A level unit is written into the image of its source at its arrival (R14, R131). -/
def writeLevelUnit (source : Fin 4) (payload : List Byte) (s : State) : State :=
  let x := s.intake
  let s := s.setIntake { x with counters := { x.counters with levelUnits := bump x.counters.levelUnits } }
  match finOf 3 (source.val - 1) with
  | none => s
  | some k =>
    s.setSource k (writeLevels (wordAt payload 0) (elementsOf 2 levelOfBytes (wordAt payload 2) (payload.drop 4))
      (s.source k))

/-- A time mark fills or replaces the slot (R15). -/
def fillSlot (payload : List Byte) (s : State) : State :=
  let x := s.intake
  let k := x.counters
  s.setIntake { x with
    slot := some ⟨BitVec.ofNat 32 (longAt payload 0), longAt payload 4, s.now⟩
    counters := { k with timeMarks := bump k.timeMarks, marksReplaced := bumpIf x.slot.isSome k.marksReplaced } }

/-- A classified unit that fits its class goes to its lane (R11 to R15). -/
def enterLane (e : FilterEntry) (payload : List Byte) (s : State) : State :=
  match e.cls with
  | .management => joinLane payload s
  | .picture => joinBuffer (pictureOfPayload payload) s
  | .level => writeLevelUnit e.source payload s
  | .timeMark => fillSlot payload s
  | .discard => s

def countNotAddressed (x : Intake) : Intake :=
  { x with counters := { x.counters with notAddressed := bump x.counters.notAddressed } }
def countUnmatched (x : Intake) : Intake :=
  { x with counters := { x.counters with unmatched := bump x.counters.unmatched } }
def countFiltered (x : Intake) : Intake :=
  { x with counters := { x.counters with filtered := bump x.counters.filtered } }
def countClassLength (x : Intake) : Intake :=
  { x with counters := { x.counters with classLengthErrors := bump x.counters.classLengthErrors } }
def countCrcError (x : Intake) : Intake :=
  { x with counters := { x.counters with crcErrors := bump x.counters.crcErrors } }

/-- An addressed unit is classified and its length checked (R8, R11). -/
def classify (streamId : Nat) (payload : List Byte) (s : State) : State :=
  match decidingEntry s.intake (BitVec.ofNat 16 streamId) with
  | none => s.setIntake (countUnmatched s.intake)
  | some e =>
    if e.cls = .discard then s.setIntake (countFiltered s.intake)
    else if fitsClass e.cls payload then enterLane e payload s
    else s.setIntake (countClassLength s.intake)

/-- The address test of a good unit (R6). -/
def isAddressed (x : Intake) (address : Nat) : Bool :=
  decide (address = 0) || decide (address = x.unitAddress.toNat) || !x.locked

/-- The unit is complete: integrity, address, and on to the Unit Filter (R4, R6). -/
def completeUnit (streamId address : Nat) (payload : List Byte) (crc : BitVec 32) (s : State) : State :=
  let s := s.setIntake { s.intake with framer := .hunt false }
  if crc ≠ crc32 (covered streamId address payload.length payload) then s.setIntake (countCrcError s.intake)
  else if isAddressed s.intake address then classify streamId payload s
  else s.setIntake (countNotAddressed s.intake)

/-- The payload and the CRC-32 of the unit being received, complete at a tick (R4). -/
def receiveUnit (t : Nat) (payload : List Byte) (crc : BitVec 32) (s : State) : State :=
  match s.intake.link, s.intake.framer with
  | .up, .body streamId address length =>
    if payload.length = length then completeUnit streamId address payload crc (advanceTo t s) else s
  | _, _ => s

def execUnitReceived (t : Nat) (payload : List Byte) (crc : BitVec 32) (s : State) : Out :=
  .next (receiveUnit t payload crc s)

/-! ## Commands -/

/-- A label character lies in 0x20 to 0x7E (R7). -/
def labelOk (label : List Byte) : Bool := label.all fun c => decide (0x20 ≤ c.toNat) && decide (c.toNat ≤ 0x7E)

/-- Set Identity in the order of R7; a label of other than 16 characters does not fit the command (R175, R184). -/
def doSetIdentity (tag : Byte) (address : Nat) (label : List Byte) (s : State) : State :=
  if label.length ≠ 16 then malformed tag Code.setIdentity s
  else if s.intake.locked then refuse tag Code.setIdentity .idLocked s
  else if address = 0 ∨ 255 < address ∨ labelOk label = false then refuse tag Code.setIdentity .outOfRange s
  else
    answer tag Code.setIdentity .ok (u8 address ++ label) (s.setIntake { s.intake with
      unitAddress := BitVec.ofNat 8 address, locked := true, label := Tab.ofList 16 0x20 label })

def execSetIdentity (tag : Byte) (address : Nat) (label : List Byte) (s : State) : Out :=
  engineRuns (doSetIdentity tag address label) s

/-- The filter entry a Set Filter writes, none where its class or source is out of range (R9). -/
def filterEntry (value mask cls source : Nat) : Option FilterEntry :=
  match classOfCode cls with
  | none => none
  | some c =>
    if c = .level then
      if 1 ≤ source ∧ source ≤ 3 then some ⟨BitVec.ofNat 16 value, BitVec.ofNat 16 mask, c, Fin.ofNat 4 source⟩
      else none
    else some ⟨BitVec.ofNat 16 value, BitVec.ofNat 16 mask, c, 0⟩

def doSetFilter (tag : Byte) (index value mask cls source : Nat) (s : State) : State :=
  match if index = 0 then none else finOf 15 (index - 1), filterEntry value mask cls source with
  | some i, some e =>
    answer tag Code.setFilter .ok [] (s.setIntake { s.intake with entries := s.intake.entries.set i e })
  | _, _ => refuse tag Code.setFilter .outOfRange s

def execSetFilter (tag : Byte) (index value mask cls source : Nat) (s : State) : Out :=
  engineRuns (doSetFilter tag index value mask cls source) s

def doSetFiltersInUse (tag : Byte) (count : Nat) (s : State) : State :=
  if 1 ≤ count ∧ count ≤ 16 then
    answer tag Code.setFiltersInUse .ok [] (s.setIntake { s.intake with inUse := count })
  else refuse tag Code.setFiltersInUse .outOfRange s

def execSetFiltersInUse (tag : Byte) (count : Nat) (s : State) : Out := engineRuns (doSetFiltersInUse tag count) s

end Sys2Proof.Machine
end

