-- ==== Sys2Proof/Machine/Status.lean ====
section
/-! DEFINITION. The status records of Table 11-5 as Query Status answers them, Clear Status and Clear Counters. A body holds
its values in the order the record's rule lists them (R184); the codes are those of log entry 17. -/

namespace Sys2Proof.Machine

/-! ## Intake (R16) -/

def IntakeCounters.bytes (k : IntakeCounters) : List Byte :=
  c16 k.skippedBytes ++ c16 k.lengthErrors ++ c16 k.crcErrors ++ c16 k.abortedUnits ++ c16 k.linkLosses ++
    c16 k.notAddressed ++ c16 k.unmatched ++ c16 k.filtered ++ c16 k.classLengthErrors ++ c16 k.managementUnits ++
    c16 k.laneOverflows ++ c16 k.pictureUnits ++ c16 k.bufferOverflows ++ c16 k.levelUnits ++ c16 k.timeMarks ++
    c16 k.marksReplaced

def FilterEntry.bytes (e : FilterEntry) : List Byte :=
  u16 e.value.toNat ++ u16 e.mask.toNat ++ u8 e.cls.code ++ u8 e.source.val

def intakeRecord (x : Intake) : List Byte :=
  u8 x.link.code ++ u8 x.framer.code ++ [x.unitAddress] ++ u8 (!x.locked).toNat ++ x.label.data ++ u8 x.inUse ++
    every FilterEntry.bytes x.entries ++ u8 x.lane.length ++ u8 x.buffer.length ++
    opt (fun m : TimeMark => frameBytes m.frame) x.slot ++ flag x.linkLost ++ flag x.laneOverflow ++ x.counters.bytes

/-! ## Timing (R38) -/

def TimingCounters.bytes (k : TimingCounters) : List Byte :=
  c16 k.invalidReferences ++ c16 k.acquisitionTimeouts ++ c16 k.locks ++ c16 k.holdoverEntries ++ c16 k.marksTaken ++
    c16 k.lateMarks ++ c16 k.renumberings

/-- K, P and N of an interval. -/
def Grid.bytes (g : Grid) : List Byte := u8 g.k ++ u8 g.p ++ u16 g.n

/-- A sample high is 1 and low 0, and the lock states are 0 to 3 (log entry 17). -/
def timingRecord (t : Timing) : List Byte :=
  frameBytes t.frame ++ u8 t.reference.code ++ u8 t.lock.code ++ flag t.settled ++ u32 t.period ++ u32 t.length ++
    i32 t.phaseError ++ u32 t.internalRate ++ u32 t.phaseOffset ++ t.grid.bytes ++
    ((List.finRange 4).flatMap fun i => u8 (t.functions.get i).code ++ flag (t.samples.get i)) ++
    flag t.referenceLost ++ t.counters.bytes

/-! ## Bank (R61) -/

def BankCounters.bytes (k : BankCounters) : List Byte :=
  c16 k.takesAccepted ++ c16 k.takesCommitted ++ c16 k.lateTakes ++ c16 k.validationsFailed ++
    c16 k.requestsNotAccepted ++ c16 k.takesCancelled ++ c16 k.clones

def TakeState.code : TakeState → Nat
  | .idle => 0
  | .validating _ => 1
  | .pending _ => 2

/-- The take record, which is held outside IDLE (Table 3-6). -/
def TakeState.record : TakeState → Option TakeRecord
  | .idle => none
  | .validating r => some r
  | .pending r => some r

/-- The outcome of the last take, with what belongs to it straight after its code (R61, log entry 17). -/
def outcomeBytes : TakeOutcome → List Byte
  | .none => u8 0
  | .committed effective late => u8 1 ++ frameBytes effective ++ flag late
  | .failed reason => u8 2 ++ reasonBytes reason
  | .cancelled => u8 3

/-- One presence byte stands before F and the origin of the take together (log entry 17). -/
def bankRecord (s : State) : List Byte :=
  let b := s.banks
  u8 (activeLetter s) ++ flag b.clone.isSome ++ u8 b.take.code ++
    opt (fun r : TakeRecord => frameBytes r.frame ++ originBytes r.origin) b.take.record ++ outcomeBytes b.last ++
    flag b.lateTake ++ flag b.takeFailed ++ b.counters.bytes

/-! ## Level (R76) -/

def channelBytes (ch : Option (Fin 512)) : List Byte := opt (fun i : Fin 512 => u16 i.val) ch

/-- Whether a value was handed to an output, and if so v, with the mix for a pair behind a presence byte (R76, log entry 17). -/
def handedBytes : Staged → List Byte
  | .none => u8 0
  | .value v => u8 1 ++ u16 v ++ u8 0
  | .pair intensity mix => u8 1 ++ u16 intensity ++ u8 1 ++ u16 mix

def levelRecord (s : State) : List Byte :=
  ((List.finRange 8).flatMap fun c => channelBytes (wallMasterChannel s.activeBank c) ++
      u16 (s.level.gains.get c).master ++ u16 (s.level.gains.get c).limiter) ++
    channelBytes (grandMasterChannel s.activeBank) ++ u16 s.level.grandMaster ++
    every (fun x : PwmOutput => handedBytes x.staged) s.drive

/-! ## Canvas (R94) -/

def CanvasCounters.bytes (k : CanvasCounters) : List Byte :=
  c16 k.framesAssigned ++ c16 k.framesPresented ++ c16 k.framesDamaged ++ c16 k.framesSuperseded ++
    c16 k.framesAbandoned ++ c16 k.lateUnits ++ c16 k.outOfOrderUnits ++ c16 k.outsideCanvasUnits ++
    c16 k.clippedUnits ++ c16 k.unassignedUnits

def FrameRecord.bytes (r : FrameRecord) : List Byte :=
  u16 r.number.toNat ++ u8 r.state.code ++ opt frameBytes r.assigned ++ opt u16 r.lastLine ++ u16 r.lines.length ++
    flag r.damaged

/-- The line of the unit the engine is mapping, none where it is idle or discards a unit. Whether it maps has no flag of its
own in the record: the presence byte of the line stands for it (R94, log entry 17). -/
def mappedLine (c : Canvas) : Option Nat :=
  match c.engine with
  | none => none
  | some job => match job.unit.mark with
    | .mapping _ => some job.unit.picture.line
    | .discard => none
    | .late => none
    | .unassigned => none

/-- A record that holds no frame is one presence byte for its six values, and the set of wall causes is one flag byte for
each: operator, contact, auto (log entry 17). -/
def canvasRecord (c : Canvas) : List Byte :=
  opt FrameRecord.bytes c.record ++ opt u16 (mappedLine c) ++ flag c.operator ++ flag c.contact ++ flag c.auto ++
    flag (wallHeld c) ++ u8 c.autoCount ++ flag c.lightOperator ++ flag c.lightHold ++ flag c.frameDamaged ++
    c.counters.bytes

/-! ## Chain (R116) -/

def PortCounters.bytes (k : PortCounters) : List Byte :=
  c16 k.trainingFailures ++ c16 k.badExchanges ++ c16 k.recoveries ++ c16 k.recoveryFailures ++ c16 k.censusRuns ++
    c16 k.overbookedIntervals ++ c16 k.framesBroken ++ c16 k.droppedSegments ++ c16 k.normalMarkers ++
    c16 k.repeatMarkers ++ c16 k.capsSent

/-- Eligible (the presence byte of depth and rate, log entry 17), depth and rate; pixel data, P, and the number of fed
tiles. -/
def Latch.bytes (l : Latch) : List Byte :=
  opt (fun c : Nat × Rate => u8 c.1 ++ u8 c.2.code) l.choice ++ flag l.pixelData ++ u32 l.pixels ++
    u8 (fedTiles l).length

/-- Whether a port is the return port of a ring. -/
def isReturnPort (b : Bank) (p : Fin 8) : Bool := isRing b p && !isPrimary p

/-- One presence byte stands before the offered width and its boundary count, which are there together (log entry 17). -/
def portRecord (s : State) (p : Fin 8) : List Byte :=
  let x := s.port p
  u8 x.state.code ++ lanesBytes x.width ++
    opt (fun w : Lanes => u8 w.toNat ++ u8 x.count) x.offer ++ opt u8 x.holdoff ++
    u8 x.census ++ flag x.window.isSome ++ u8 x.surplus ++ u8 x.latch.inForce ++ flag x.disable.isSome ++
    flag x.retrain ++ opt u16 x.cap ++ x.latch.bytes ++ flag x.broken ++
    opt u8 (if isReturnPort s.activeBank p then none else some x.unfed) ++ u16 x.errors ++ flag x.presenceChanged ++
    flag x.widthNarrowed ++ flag x.retrainDone ++ flag (isOverbooked x.latch) ++ x.counters.bytes

def chainRecord (s : State) : List Byte := (List.finRange 8).flatMap (portRecord s)

/-! ## Limiter (R128) -/

/-- One presence byte stands before the chain demand and its frame number together; the tile demands follow the order of the
tile entries (log entry 17). -/
def limiterRecord (x : ChainLimiter) : List Byte :=
  u16 x.budget ++ u16 x.step ++ u16 x.gain ++ u16 x.target ++ flag (decide (x.gain < 4096)) ++
    opt (fun d : Nat × FrameNo => u16 d.1 ++ frameBytes d.2) x.demand ++ opt (list8 u16) x.tiles ++
    flag x.unattainable ++ c16 x.counters.updates ++ c16 x.counters.attacks ++ c16 x.counters.floored

/-! ## Merge (R143) -/

/-- LIVE is 0 and SILENT 1, in the order of R130. -/
def liveBytes (live : Bool) : List Byte := u8 (!live).toNat

/-- The deciding source of a channel: S0 to S3 are 0 to 3, held is 4. -/
def deciderCode (d : Option (Fin 4)) : Nat := (d.map Fin.val).getD 4

def sourceRecord (x : Source) : List Byte :=
  u16 x.timeout ++ u16 x.silence ++ u16 (x.cover.data.count true) ++ flag x.sourceLost

/-- S0 reads as the playback state stands, which the next merge will see (log entry 17). -/
def mergeRecord (s : State) : List Byte :=
  liveBytes (decide (s.cue.state ≠ .idle)) ++ u8 s.merge.priority0 ++ opt u8 s.merge.request0 ++
    every (fun x : Source => liveBytes x.live ++ u8 x.priority ++ opt u8 x.request) s.merge.sources ++
    every sourceRecord s.merge.sources ++
    every (fun e : LookEntry => c16 e.level ++ u8 (deciderCode e.decider)) s.merge.look ++
    every (fun x : Source => c16 x.levelUnits ++ c16 x.silences) s.merge.sources

/-! ## Cue (R158) -/

/-- The state HALTED was entered from. -/
def PlayState.left : PlayState → Option Nat
  | .haltedDelay => some 1
  | .haltedFading => some 2
  | .idle => none
  | .delay => none
  | .fading => none
  | .resting => none

/-- The origin of the last accepted Go, or none. -/
def lastOriginBytes (o : GoOrigin) : List Byte := if o = .none then u8 0 else u8 1 ++ goOriginBytes o

/-- The delay still to run, s and e are answered with the last values they had, also in a state that does not hold them (log
entry 17). -/
def cueRecord (c : Cue) : List Byte :=
  u8 c.state.code ++ opt u8 c.state.left ++ opt u16 c.current ++ opt u16 c.target ++ opt u16 (referenceCue c) ++
    u16 c.delayLeft ++ frameBytes c.start ++ u16 c.elapsed ++ u16 (c.fade.data.countP Option.isSome) ++
    u16 (c.cover.data.countP Option.isSome) ++ opt frameBytes c.follow ++ u8 c.list.length ++ lastOriginBytes c.origin ++
    c16 c.counters.gosAccepted ++ c16 c.counters.contactGosRefused ++ c16 c.counters.followsRefused ++
    c16 c.counters.fadesCompleted ++ c16 c.counters.fadesInterrupted

/-! ## Drive (R163) -/

/-- The duty an output shows, with d_i and the role (warm 0, cool 1) where it shows a pair; none where it is idle: the
presence byte of the duty stands for the idle flag, and one presence byte before d_i and the role together. Under a light hold
d_i is the one clamped to N, d_i′ of R161 (log entry 17). -/
def shownBytes (n : Nat) (x : Shown) : List Byte :=
  match x with
  | .idle => u8 0
  | .duty _ => u8 1 ++ u16 (shownDuty n x) ++ u8 0
  | .warm total _ => u8 1 ++ u16 (shownDuty n x) ++ u8 1 ++ u16 (min total n) ++ u8 0
  | .cool total _ => u8 1 ++ u16 (shownDuty n x) ++ u8 1 ++ u16 (min total n) ++ u8 1

/-- The duty before the clamp of R161; an idle output has none to hold (log entry 17). -/
def Shown.whole : Shown → Option Nat
  | .idle => none
  | .duty d => some d
  | .warm _ w => some w
  | .cool total w => some (total - w)

/-- The staged entry, its values straight after its code (R163, log entry 17). -/
def stagedBytes : Staged → List Byte
  | .none => u8 0
  | .value v => u8 1 ++ u16 v
  | .pair intensity mix => u8 2 ++ u16 intensity ++ u16 mix

/-- One output of the drive record (R163). Whether its duty is held has no flag of its own: the presence byte of the held duty
is 1 where it is held and 0 where it is not (log entry 17). -/
def outputRecord (held : Bool) (n : Nat) (x : PwmOutput) : List Byte :=
  x.inForce.bytes ++ opt PwmSettings.bytes x.requested ++ shownBytes n x.shown ++
    opt u16 (if held then x.shown.whole else none) ++ stagedBytes x.staged

def driveRecord (s : State) : List Byte :=
  every (outputRecord s.canvas.lightHold s.timing.grid.n) s.drive ++ s.timing.grid.bytes

/-! ## Fixture (R172) -/

def FixtureCounters.bytes (k : FixtureCounters) : List Byte :=
  c16 k.framesSent ++ c16 k.lateFrames ++ c16 k.queriesSent ++ c16 k.repliesGood ++ c16 k.repliesBad ++
    c16 k.noReplies ++ c16 k.receivedCharacters ++ c16 k.unsolicitedFrames ++ c16 k.framesDiscarded ++
    c16 k.overrunFrames

/-- What the shifter sends, with the slot count of a level frame straight after its code (R172, log entry 17). -/
def shifterBytes : Shifter → List Byte
  | .idle => u8 0
  | .level _ _ slots => u8 1 ++ u16 slots.length
  | .query _ _ => u8 2
  | .cutOff _ _ _ => u8 0

/-- The phase of a query, with the ticks its window has left straight after its code (R172, log entry 17). -/
def phaseBytes (now : Nat) : QueryPhase → List Byte
  | .waiting => u8 0
  | .sending => u8 1
  | .window closes => u8 2 ++ u32 (closes - now)
  | .closing => u8 2 ++ u32 0

def queryBytes (now : Nat) (q : Query) : List Byte := u8 q.address ++ u8 q.kind.code ++ phaseBytes now q.phase

/-- One port of the fixture record (R172). Whether the transmit buffer holds a snapshot has no flag of its own: the presence
byte of its slot count is 1 where it holds one and 0 where it does not (log entry 17). -/
def fixtureRecord (now : Nat) (x : FixturePort) : List Byte :=
  flag x.refreshing ++ u8 x.rate.code ++ u8 x.divisor ++ u8 x.refreshCount ++
    opt (fun slots : List Byte => u16 slots.length) x.buffer ++ shifterBytes x.shifter ++ opt (queryBytes now) x.query ++
    u8 x.fifo.length ++ flag x.parity ++ flag x.framing ++ flag x.overrun ++ x.counters.bytes

/-! ## Management (R180) -/

def MgmtCounters.bytes (k : MgmtCounters) : List Byte :=
  c16 k.stalls ++ c16 k.malformedUnits ++ c16 k.answersQueued ++ c16 k.eventsAdmitted ++ c16 k.eventsLost ++
    c16 k.eventsMasked ++ c16 k.reportsTransmitted ++ c16 k.reportsResent

def managementRecord (s : State) : List Byte :=
  u8 s.mgmt.stalled.toNat ++ u8 s.mgmt.queue.length ++
    list8 (fun r : Byte × Byte => [r.1, r.2]) (reservations s) ++ u16 s.mgmt.mask.toNat ++ flag s.mgmt.eventsLost ++
    s.mgmt.counters.bytes

/-! ## Query Status (R180) -/

/-- The record of a block, none where the code names none of Table 11-5. -/
def statusRecord (block : Nat) (s : State) : Option (List Byte) :=
  match block with
  | 0 => some (intakeRecord s.intake)
  | 1 => some (timingRecord s.timing)
  | 2 => some (bankRecord s)
  | 3 => some (levelRecord s)
  | 4 => some (canvasRecord s.canvas)
  | 5 => some (chainRecord s)
  | 6 => some (every limiterRecord s.limiter.chains)
  | 7 => some (mergeRecord s)
  | 8 => some (cueRecord s.cue)
  | 9 => some (driveRecord s)
  | 10 => some (every (fixtureRecord s.now) s.fixture)
  | 11 => some (managementRecord s)
  | _ => none

/-- The record is read whole at the tick the command executes, before its answer joins the queue. -/
def doQueryStatus (t : Nat) (tag : Byte) (block : Nat) (s : State) : State :=
  match statusRecord block (advanceTo t s) with
  | none => refuse tag Code.queryStatus .outOfRange (advanceTo t s)
  | some record => answer tag Code.queryStatus .ok record (advanceTo t s)

def execQueryStatus (t : Nat) (tag : Byte) (block : Nat) (s : State) : Out := engineRuns (doQueryStatus t tag block) s

/-! ## Clear Status (R180, R184) -/

def clearPort (mask : Nat) (p : Fin 8) (x : Port) : Port :=
  { x with
    presenceChanged := clearFlag mask (3 * p.val) x.presenceChanged
    widthNarrowed := clearFlag mask (3 * p.val + 1) x.widthNarrowed
    retrainDone := clearFlag mask (3 * p.val + 2) x.retrainDone }

def clearFixture (mask : Nat) (p : Fin 2) (x : FixturePort) : FixturePort :=
  { x with
    parity := clearFlag mask (3 * p.val) x.parity
    framing := clearFlag mask (3 * p.val + 1) x.framing
    overrun := clearFlag mask (3 * p.val + 2) x.overrun }

def clearSource (mask : Nat) (k : Fin 3) (x : Source) : Source :=
  { x with sourceLost := clearFlag mask k.val x.sourceLost }

/-- The sticky flags of a block that a mask names are cleared; names beyond its flags are passed over. -/
def clearFlags (block mask : Nat) (s : State) : State :=
  match block with
  | 0 => s.setIntake { s.intake with
      linkLost := clearFlag mask 0 s.intake.linkLost
      laneOverflow := clearFlag mask 1 s.intake.laneOverflow }
  | 1 => s.setTiming { s.timing with referenceLost := clearFlag mask 0 s.timing.referenceLost }
  | 2 => s.setBanks { s.banks with
      lateTake := clearFlag mask 0 s.banks.lateTake
      takeFailed := clearFlag mask 1 s.banks.takeFailed }
  | 4 => s.setCanvas { s.canvas with frameDamaged := clearFlag mask 0 s.canvas.frameDamaged }
  | 5 => s.setPorts (s.ports.mapFin (clearPort mask))
  | 7 => s.setMerge { s.merge with sources := s.merge.sources.mapFin (clearSource mask) }
  | 10 => s.setFixture (s.fixture.mapFin (clearFixture mask))
  | 11 => s.setMgmt { s.mgmt with eventsLost := clearFlag mask 0 s.mgmt.eventsLost }
  | _ => s

/-- The block codes of Table 11-5. -/
def isBlock (block : Nat) : Bool := decide (block ≤ 11)

def doClearStatus (tag : Byte) (block mask : Nat) (s : State) : State :=
  if isBlock block then answer tag Code.clearStatus .ok [] (clearFlags block mask s)
  else refuse tag Code.clearStatus .outOfRange s

def execClearStatus (tag : Byte) (block mask : Nat) (s : State) : Out := engineRuns (doClearStatus tag block mask) s

/-! ## Clear Counters (R180) -/

/-- Every counter of a block set to 0. -/
def clearBlock (block : Nat) (s : State) : State :=
  match block with
  | 0 => s.setIntake { s.intake with counters := IntakeCounters.zero }
  | 1 => s.setTiming { s.timing with counters := TimingCounters.zero }
  | 2 => s.setBanks { s.banks with counters := BankCounters.zero }
  | 4 => s.setCanvas { s.canvas with counters := CanvasCounters.zero }
  | 5 => s.setPorts (s.ports.map fun x => { x with counters := PortCounters.zero })
  | 6 => s.setLimiter { s.limiter with
      chains := s.limiter.chains.map fun x => { x with counters := LimiterCounters.zero } }
  | 7 => s.setMerge { s.merge with
      sources := s.merge.sources.map fun x => { x with levelUnits := 0, silences := 0 } }
  | 8 => s.setCue { s.cue with counters := CueCounters.zero }
  | 10 => s.setFixture (s.fixture.map fun x => { x with counters := FixtureCounters.zero })
  | 11 => s.setMgmt { s.mgmt with counters := MgmtCounters.zero }
  | _ => s

/-- The answer of a Clear Counters for the management block joins the queue after the clear, and is counted. -/
def doClearCounters (tag : Byte) (block : Nat) (s : State) : State :=
  if isBlock block then answer tag Code.clearCounters .ok [] (clearBlock block s)
  else refuse tag Code.clearCounters .outOfRange s

def execClearCounters (tag : Byte) (block : Nat) (s : State) : Out := engineRuns (doClearCounters tag block) s

end Sys2Proof.Machine
end

