-- ==== Sys2Proof/Machine/Management.lean ====
section
/-! DEFINITION. The Management Engine and the Report Queue's transmit side (sections 11.1 to 11.6): starting a unit from
the lane, reading its body, sending reports, the event mask and Flush Inputs. -/

namespace Sys2Proof.Machine

/-! ## Sending reports (R179, R183) -/

/-- The address byte of a report unit: the unit address, 0 while the identity is unlocked (R183). -/
def reportAddress (x : Intake) : Nat := if x.locked then x.unitAddress.toNat else 0

/-- A report as a stream unit. -/
def reportUnit (x : Intake) (r : Report) : List Byte := unitBytes 0 (reportAddress x) r.payload

/-- The last byte of the head report's CRC-32 is sent: the report leaves the queue, and the room is seen by the engine's
test (R174, R179). The unit is formed with the identity as it stands at this step (log entry 14). -/
def sendReport (s : State) : State :=
  match s.intake.link, s.mgmt.queue with
  | .up, r :: rest =>
    settleEngine (emit (.report (reportUnit s.intake r)) (s.setMgmt { s.mgmt with
      queue := rest
      cut := false
      counters := { s.mgmt.counters with reportsTransmitted := bump s.mgmt.counters.reportsTransmitted } }))
  | .up, [] => s
  | .down, _ => s

def execReportTransmitted (s : State) : Out := .next (sendReport s)

/-! ## Set Event Mask and Flush Inputs -/

def doSetEventMask (tag : Byte) (mask : Nat) (s : State) : State :=
  if mask < 8192 then
    answer tag Code.setEventMask .ok (u16 mask) (s.setMgmt { s.mgmt with mask := BitVec.ofNat 13 mask })
  else refuse tag Code.setEventMask .outOfRange s

def execSetEventMask (tag : Byte) (mask : Nat) (s : State) : Out := engineRuns (doSetEventMask tag mask) s

/-- The picture buffer and the time mark slot are emptied (R17). -/
def flushLanes (s : State) : State := s.setIntake { s.intake with buffer := [], slot := none }

/-- The source images are cleared and S1 to S3 made SILENT (R142). -/
def flushSources (s : State) : State := s.setMerge { s.merge with sources := s.merge.sources.map flushSource }

/-- Flush Inputs: each block its part, and the answer (R181). -/
def doFlushInputs (tag : Byte) (s : State) : State :=
  answer tag Code.flushInputs .ok [] (flushSources (flushLanes (abandonFrame s)))

def execFlushInputs (tag : Byte) (s : State) : Out := engineRuns (doFlushInputs tag) s

/-! ## Reading a body (R175, R184) -/

/-- A command of fixed length is decided where the body fits, fill included, and answered MALFORMED otherwise. -/
def fixedBody (length : Nat) (u : MgmtUnit) (f : State → State) (s : State) : State :=
  if u.body.length = max length 2 then f s else malformed u.tag u.code s

/-- A flag of a body, read from bit 0. -/
def flagAt (l : List Byte) (i : Nat) : Bool := (byteAt l i).testBit 0

/-- The body of a table write: start, count, elements; without room for start and count it does not fit. -/
def tableBody (u : MgmtUnit) (f : Nat → Nat → List Byte → State → State) (s : State) : State :=
  if 4 ≤ u.body.length then f (wordAt u.body 0) (wordAt u.body 2) (u.body.drop 4) s else malformed u.tag u.code s

/-- The pairs of a Write Cue body. -/
def cueBodyPairs (body : List Byte) : List (Nat × Nat) :=
  elementsOf 4 (fun l => (wordAt l 0, wordAt l 2)) (byteAt body 2) (body.drop 13)

/-- The body of Write Cue: 13 bytes and then 4 for each pair of its count. -/
def cueBody (u : MgmtUnit) (s : State) : State :=
  let b := u.body
  if 13 ≤ b.length ∧ b.length = 13 + 4 * byteAt b 2 then
    doWriteCue u.tag (wordAt b 0) (wordAt b 3) (wordAt b 5) (wordAt b 7)
      (if flagAt b 9 then some (wordAt b 10) else none) (flagAt b 12) (cueBodyPairs b) s
  else malformed u.tag u.code s

/-- The unit's command carried out at a tick; a code that names no command is MALFORMED (R175, R184). -/
def runUnit (t : Nat) (u : MgmtUnit) (s : State) : State :=
  let b := u.body
  match u.code.toNat with
  | 1 => fixedBody 17 u (doSetIdentity u.tag (byteAt b 0) (b.drop 1)) s
  | 2 => fixedBody 7 u (doSetFilter u.tag (byteAt b 0) (wordAt b 1) (wordAt b 3) (byteAt b 5) (byteAt b 6)) s
  | 3 => fixedBody 1 u (doSetFiltersInUse u.tag (byteAt b 0)) s
  | 4 => fixedBody 1 u (doSetReference u.tag (byteAt b 0)) s
  | 5 => fixedBody 4 u (doSetInternalRate u.tag (longAt b 0)) s
  | 6 => fixedBody 4 u (doSetPhaseOffset u.tag (longAt b 0)) s
  | 7 => fixedBody 1 u (doSetPwmGrid u.tag (byteAt b 0)) s
  | 8 => fixedBody 2 u (doSetContactFunction u.tag (byteAt b 0) (byteAt b 1)) s
  | 9 => tableBody u (doWriteTileEntries u.tag) s
  | 10 => tableBody u (doWriteChainLengths u.tag) s
  | 11 => fixedBody 1 u (doWriteRingFlags u.tag (byteAt b 0)) s
  | 12 => fixedBody 4 u (doWriteCanvasSize u.tag (wordAt b 0) (wordAt b 2)) s
  | 13 => tableBody u (doWriteWallCurve u.tag) s
  | 14 => tableBody u (doWriteLightCurve u.tag) s
  | 15 => tableBody u (doWritePatch u.tag) s
  | 16 => tableBody u (doWriteSlotCounts u.tag) s
  | 17 => fixedBody 6 u (doReadTable u.tag (byteAt b 0) (byteAt b 1) (wordAt b 2) (wordAt b 4)) s
  | 18 => fixedBody 0 u (doClone u.tag) s
  | 19 => fixedBody 5 u (doTake u.tag (byteAt b 0) (longAt b 1)) s
  | 20 => fixedBody 0 u (doCancelTake u.tag) s
  | 21 => fixedBody 1 u (doHold u.tag (byteAt b 0)) s
  | 22 => fixedBody 1 u (doRelease u.tag (byteAt b 0)) s
  | 23 => fixedBody 1 u (doChainRetrain u.tag (byteAt b 0)) s
  | 24 => fixedBody 1 u (doChainDisable u.tag (byteAt b 0)) s
  | 25 => fixedBody 1 u (doChainEnable u.tag (byteAt b 0)) s
  | 26 => fixedBody 5 u (doSetChainBudget u.tag (byteAt b 0) (wordAt b 1) (wordAt b 3)) s
  | 27 => fixedBody 2 u (doSetSourcePriority u.tag (byteAt b 0) (byteAt b 1)) s
  | 28 => fixedBody 3 u (doSetSourceTimeout u.tag (byteAt b 0) (wordAt b 1)) s
  | 29 => cueBody u s
  | 30 => fixedBody 2 u (doDeleteCue u.tag (wordAt b 0)) s
  | 31 => fixedBody 2 u (doReadCue u.tag (wordAt b 0)) s
  | 32 => fixedBody 0 u (doGo u.tag) s
  | 33 => fixedBody 2 u (doGoTo u.tag (wordAt b 0)) s
  | 34 => fixedBody 0 u (doBack u.tag) s
  | 35 => fixedBody 0 u (doHalt u.tag) s
  | 36 => fixedBody 0 u (doResume u.tag) s
  | 37 => fixedBody 0 u (doClearPlayback u.tag) s
  | 38 => fixedBody 5 u (doSetPwmOutput u.tag (byteAt b 0) (byteAt b 1) (byteAt b 2) (byteAt b 3) (flagAt b 4)) s
  | 39 => fixedBody 4 u (doSetFixturePort t u.tag (byteAt b 0) (flagAt b 1) (byteAt b 2) (byteAt b 3)) s
  | 40 => fixedBody 3 u (doQueryFixture t u.tag (byteAt b 0) (byteAt b 1) (byteAt b 2)) s
  | 41 => fixedBody 2 u (doSetEventMask u.tag (wordAt b 0)) s
  | 42 => fixedBody 1 u (doQueryStatus t u.tag (byteAt b 0)) s
  | 43 => fixedBody 5 u (doClearStatus u.tag (byteAt b 0) (longAt b 1)) s
  | 44 => fixedBody 1 u (doClearCounters u.tag (byteAt b 0)) s
  | 45 => fixedBody 0 u (doFlushInputs u.tag) s
  | _ => malformed u.tag u.code s

/-- At a tick the engine starts the unit at the head of the lane if room stands for its answer; otherwise it is stalled
(R174). -/
def startUnit (t : Nat) (s : State) : State :=
  let s := advanceTo t s
  match s.intake.lane with
  | [] => settleEngine s
  | u :: rest =>
    if hasRoom s then settleEngine (runUnit t u (s.setIntake { s.intake with lane := rest })) else settleEngine s

def execManagementUnitStart (t : Nat) (s : State) : Out := .next (startUnit t s)

end Sys2Proof.Machine
end

