-- ==== Sys2Proof/Machine/Boundary.lean ====
section
/-! DEFINITION. The frame boundary: every block's work at b_n, in the one order the model fixes (log entry 7). -/

namespace Sys2Proof.Machine

/-- Timing and presentation, which close the interval that ends; then the requested settings and priorities come into force,
the light hold changes, and silent sources are found (R19, R32, R86, R159, R135, R91, R132). -/
def boundaryOpening (s : State) : State :=
  silenceTests (lightHoldBoundary (applyPriorities (applySettings (presentFrame (timingBoundary s)))))

/-- A step of the boundary, taken here where it stands first. -/
def takeIf (b : Bool) (f : State → State) (s : State) : State := if b then f s else s

/-- Whether the cue engine steps before the commit: its follow does, or a contact Go, which comes after the follow. -/
def cuesFirst (o : CommitOrder) : Bool := o.followFirst || o.gosFirst

/-- The commit, and the take requests of the boundary on either side of it: those of the contacts, of the follow, and of the
contact Gos (R54, R58, R59, R151, R152, R153). -/
def takesAtBoundary (gp : Tab 4 Bool) (o : CommitOrder) (s : State) : State :=
  let before := takeIf o.gosFirst (contactGos gp) (takeIf (cuesFirst o) cueBoundary (takeIf o.contactsFirst (contactTakes gp) s))
  takeIf (!cuesFirst o) cueBoundary (takeIf (!o.contactsFirst) (contactTakes gp) (takeBoundary before))

/-- The commit, the cue engine's step and the merge (R54, R151, R152, R136). -/
def boundaryLook (gp : Tab 4 Bool) (o : CommitOrder) (s : State) : State := mergeLook (takesAtBoundary gp o s)

/-- The auto count, the markers, the limiter, the ports' own work, the wall gain set and the latches (R88, R113, R125,
R98, R102, R106, R63, R111). -/
def boundaryWall (s : State) : State :=
  latchPorts (fixWallGains (portsBoundary (limiterBoundary (sendMarkers (autoHoldBoundary s)))))

/-- The staged entries are taken up and the snapshots latched, before the evaluation of this boundary replaces them; then
the reply FIFOs are drained (R160, R165, R68, R171). -/
def boundaryLight (s : State) : State :=
  forEach drainFifo (evaluateLight (forEach refreshBoundary (takeUp s)))

/-- The hold causes of the contact samples, their Gos where these did not come before the commit, and the samples kept
(R35). -/
def boundaryContacts (gp : Tab 4 Bool) (o : CommitOrder) (s : State) : State :=
  keepSamples gp (takeIf (!o.gosFirst) (contactGos gp) (contactHold gp s))

/-- The whole boundary. The auto cause is set before the contact cause changes, which decides the events of the wall where both
change here (R92, log entry 7). -/
def frameBoundary (gp : Tab 4 Bool) (o : CommitOrder) (s : State) : State :=
  boundaryContacts gp o (boundaryLight (boundaryWall (boundaryLook gp o (boundaryOpening s))))

def execFrameBoundary (gp : Tab 4 Bool) (o : CommitOrder) (s : State) : Out := .next (frameBoundary gp o s)

end Sys2Proof.Machine
end

