-- ==== Sys2Proof/Machine/Reset.lean ====
section
/-! DEFINITION. Power-on reset and line reset (R18, R39, R41, R62, R95, R97, R117, R129, R144, R145, R148, R160, R173,
R182). -/

namespace Sys2Proof.Machine

/-- The ports after either reset: each as R117 gives it, with the return signal its tiles send. -/
def resetPorts (s : State) : Tab 8 Port := s.ports.map fun x => { Port.reset with partner := x.partner }

/-- All state at its defaults, with the seeding sample (R35). What is not the feeder's own state stays: the commands that
wait, the count of free values, and the return signals of the chains (log entry 8). -/
def defaults (gp : Tab 4 Bool) (s : State) : State :=
  { State.reset with
    timing := { Timing.reset with samples := gp }
    ports := resetPorts s
    draws := s.draws
    pending := s.pending }

/-- A port whose partner is present enters TRAINING at once after the reset (R97). -/
def trainPresent (s : State) : State := forEach (fun p => tryTraining p .partnerPresent) s

/-- Power-on reset: all state, the identity with it (R7, R18). -/
def powerOnReset (gp : Tab 4 Bool) (s : State) : State := trainPresent (defaults gp s)

def execPowerOnReset (gp : Tab 4 Bool) (s : State) : Out := .next (powerOnReset gp s)

/-- The intake state after a line reset: the identity, its label and its lock are kept (R7, R18). -/
def keptIdentity (x : Intake) : Intake :=
  { Intake.reset with unitAddress := x.unitAddress, locked := x.locked, label := x.label }

/-- Line reset: all state but the identity and its lock. -/
def lineReset (gp : Tab 4 Bool) (s : State) : State :=
  trainPresent ((defaults gp s).setIntake (keptIdentity s.intake))

def execLineReset (gp : Tab 4 Bool) (s : State) : Out := .next (lineReset gp s)

end Sys2Proof.Machine
end

