-- ==== Sys2Proof/Machine/Dispatch.lean ====
section
/-! DEFINITION. What each command does: one arm for each constructor of Instr, one direct call of its meaning. -/

namespace Sys2Proof.Machine

def exec (i : Instr) (s : State) : Host.Outcome State Fault Refusal :=
  match i with
  | .powerOnReset gp => Sys2Proof.Machine.execPowerOnReset gp s
  | .lineReset gp => Sys2Proof.Machine.execLineReset gp s
  | .linkUp => Sys2Proof.Machine.execLinkUp s
  | .linkDown => Sys2Proof.Machine.execLinkDown s
  | .huntByte b => Sys2Proof.Machine.execHuntByte b s
  | .headerReceived streamId address length => Sys2Proof.Machine.execHeaderReceived streamId address length s
  | .unitReceived t payload crc => Sys2Proof.Machine.execUnitReceived t payload crc s
  | .managementUnitStart t => Sys2Proof.Machine.execManagementUnitStart t s
  | .reportTransmitted => Sys2Proof.Machine.execReportTransmitted s
  | .setIdentity tag address label => Sys2Proof.Machine.execSetIdentity tag address label s
  | .setFilter tag index value mask cls source => Sys2Proof.Machine.execSetFilter tag index value mask cls source s
  | .setFiltersInUse tag count => Sys2Proof.Machine.execSetFiltersInUse tag count s
  | .setReference tag code => Sys2Proof.Machine.execSetReference tag code s
  | .setInternalRate tag ticks => Sys2Proof.Machine.execSetInternalRate tag ticks s
  | .setPhaseOffset tag ticks => Sys2Proof.Machine.execSetPhaseOffset tag ticks s
  | .setPwmGrid tag k => Sys2Proof.Machine.execSetPwmGrid tag k s
  | .setContactFunction tag input function => Sys2Proof.Machine.execSetContactFunction tag input function s
  | .writeTileEntries tag start count elements => Sys2Proof.Machine.execWriteTileEntries tag start count elements s
  | .writeChainLengths tag start count elements => Sys2Proof.Machine.execWriteChainLengths tag start count elements s
  | .writeRingFlags tag flags => Sys2Proof.Machine.execWriteRingFlags tag flags s
  | .writeCanvasSize tag width height => Sys2Proof.Machine.execWriteCanvasSize tag width height s
  | .writeWallCurve tag start count elements => Sys2Proof.Machine.execWriteWallCurve tag start count elements s
  | .writeLightCurve tag start count elements => Sys2Proof.Machine.execWriteLightCurve tag start count elements s
  | .writePatch tag start count elements => Sys2Proof.Machine.execWritePatch tag start count elements s
  | .writeSlotCounts tag start count elements => Sys2Proof.Machine.execWriteSlotCounts tag start count elements s
  | .readTable tag bank table start count => Sys2Proof.Machine.execReadTable tag bank table start count s
  | .clone tag => Sys2Proof.Machine.execClone tag s
  | .cloneComplete => Sys2Proof.Machine.execCloneComplete s
  | .take tag request frame => Sys2Proof.Machine.execTake tag request frame s
  | .validationEnd => Sys2Proof.Machine.execValidationEnd s
  | .cancelTake tag => Sys2Proof.Machine.execCancelTake tag s
  | .hold tag scope => Sys2Proof.Machine.execHold tag scope s
  | .release tag scope => Sys2Proof.Machine.execRelease tag scope s
  | .chainRetrain tag port => Sys2Proof.Machine.execChainRetrain tag port s
  | .chainDisable tag port => Sys2Proof.Machine.execChainDisable tag port s
  | .chainEnable tag port => Sys2Proof.Machine.execChainEnable tag port s
  | .setChainBudget tag chain budget step => Sys2Proof.Machine.execSetChainBudget tag chain budget step s
  | .setSourcePriority tag source priority => Sys2Proof.Machine.execSetSourcePriority tag source priority s
  | .setSourceTimeout tag source timeout => Sys2Proof.Machine.execSetSourceTimeout tag source timeout s
  | .writeCue tag number up down delay follow link pairs => Sys2Proof.Machine.execWriteCue tag number up down delay follow link pairs s
  | .deleteCue tag number => Sys2Proof.Machine.execDeleteCue tag number s
  | .readCue tag number => Sys2Proof.Machine.execReadCue tag number s
  | .go tag => Sys2Proof.Machine.execGo tag s
  | .goTo tag number => Sys2Proof.Machine.execGoTo tag number s
  | .back tag => Sys2Proof.Machine.execBack tag s
  | .halt tag => Sys2Proof.Machine.execHalt tag s
  | .resume tag => Sys2Proof.Machine.execResume tag s
  | .clearPlayback tag => Sys2Proof.Machine.execClearPlayback tag s
  | .setPwmOutput tag output alignment polarity phase pair => Sys2Proof.Machine.execSetPwmOutput tag output alignment polarity phase pair s
  | .setFixturePort t tag port enable rate divisor => Sys2Proof.Machine.execSetFixturePort t tag port enable rate divisor s
  | .queryFixture t tag port address kind => Sys2Proof.Machine.execQueryFixture t tag port address kind s
  | .setEventMask tag mask => Sys2Proof.Machine.execSetEventMask tag mask s
  | .queryStatus t tag block => Sys2Proof.Machine.execQueryStatus t tag block s
  | .clearStatus tag block mask => Sys2Proof.Machine.execClearStatus tag block mask s
  | .clearCounters tag block => Sys2Proof.Machine.execClearCounters tag block s
  | .flushInputs tag => Sys2Proof.Machine.execFlushInputs tag s
  | .frameBoundary gp order => Sys2Proof.Machine.execFrameBoundary gp order s
  | .sourceSilenceTimeout k => Sys2Proof.Machine.execSourceSilenceTimeout k s
  | .fadeStart => Sys2Proof.Machine.execFadeStart s
  | .fadeComplete => Sys2Proof.Machine.execFadeComplete s
  | .followGo => Sys2Proof.Machine.execFollowGo s
  | .autoHoldSet => Sys2Proof.Machine.execAutoHoldSet s
  | .trainingTimeout p => Sys2Proof.Machine.execTrainingTimeout p s
  | .recoveryFailure p => Sys2Proof.Machine.execRecoveryFailure p s
  | .holdoffEnd p => Sys2Proof.Machine.execHoldoffEnd p s
  | .periodicCensus p => Sys2Proof.Machine.execPeriodicCensus p s
  | .fixtureRefresh p => Sys2Proof.Machine.execFixtureRefresh p s
  | .holdoverEnd => Sys2Proof.Machine.execHoldoverEnd s
  | .marksAcquisitionTimeout => Sys2Proof.Machine.execMarksAcquisitionTimeout s
  | .marksReferenceLost => Sys2Proof.Machine.execMarksReferenceLost s
  | .genlockPulse t => Sys2Proof.Machine.execGenlockPulse t s
  | .acquisitionTimeout => Sys2Proof.Machine.execAcquisitionTimeout s
  | .referenceLost => Sys2Proof.Machine.execReferenceLost s
  | .mappingUnitTake => Sys2Proof.Machine.execMappingUnitTake s
  | .mappingUnitEnd => Sys2Proof.Machine.execMappingUnitEnd s
  | .partnerPresent p => Sys2Proof.Machine.execPartnerPresent p s
  | .partnerLost p => Sys2Proof.Machine.execPartnerLost p s
  | .trainingComplete p exchange => Sys2Proof.Machine.execTrainingComplete p exchange s
  | .censusAnswer p hop => Sys2Proof.Machine.execCensusAnswer p hop s
  | .censusWindowEnd p => Sys2Proof.Machine.execCensusWindowEnd p s
  | .symbolError p errors => Sys2Proof.Machine.execSymbolError p errors s
  | .shifterFrameEnd p => Sys2Proof.Machine.execShifterFrameEnd p s
  | .fixtureCharacter p data parity line => Sys2Proof.Machine.execFixtureCharacter p data parity line s
  | .fixtureFrameEnd p => Sys2Proof.Machine.execFixtureFrameEnd p s
  | .replyWindowClose p => Sys2Proof.Machine.execReplyWindowClose p s

end Sys2Proof.Machine
end

