-- ==== Sys2Proof/Safety.lean ====
section
/-! DEFINITION. What counts as a sound state and a sound answer, in the terms the statements use. A run is safe when every
state of it satisfies `State.Sound`. -/

namespace Sys2Proof.Machine

/-! ## Answers -/

/-- The lane holds a unit, and reports and reservations together are more than the 31 the room test admits (R174). -/
def MustStall (s : State) : Prop := s.intake.lane ≠ [] ∧ 31 < s.mgmt.queue.length + (reservations s).length

/-- The stall of `s`: the engine is stalled just where it must be, and the stalls counter goes up just where it goes from idle
to stalled (R174; at which steps this is settled is log entry 25's). -/
def Stalls (s t : State) : Prop :=
  (MustStall s → t = s.setMgmt { s.mgmt with
    stalled := true
    counters := { s.mgmt.counters with
      stalls := if s.mgmt.stalled then s.mgmt.counters.stalls else bump s.mgmt.counters.stalls } }) ∧
    (¬MustStall s → t = s.setMgmt { s.mgmt with stalled := false })

/-- `s` with one report at the tail of its queue, counted as an answer (R175). -/
def State.withAnswer (s : State) (r : Report) : State :=
  s.setMgmt { s.mgmt with
    queue := s.mgmt.queue ++ [r]
    counters := { s.mgmt.counters with answersQueued := bump s.mgmt.counters.answersQueued } }

/-- The outcome is the next state `target`, all of it, with one answer added to its Report Queue, and the engine's stall
settled (R174, R175). -/
def Answers (o : Out) (target : State) (r : Report) : Prop := ∃ t, o = .next t ∧ Stalls (target.withAnswer r) t

/-- The outcome is the next state `target`, all of it, with no report added and the engine's stall settled: a deferred
operation's answer is reserved (section 11.1, R174). -/
def Reserves (o : Out) (target : State) : Prop := ∃ t, o = .next t ∧ Stalls target t

/-- The outcome is the next state `target`, all of it, with the answer of a deferred operation in its Report Queue: the answer
takes the room that was reserved for it, so that the engine is stalled or not as before (section 11.1, R176). -/
def AnswersReserved (o : Out) (target : State) (r : Report) : Prop := o = .next (target.withAnswer r)

/-- A report is an answer. -/
def Report.isAnswer : Report → Bool
  | .answer _ _ _ _ => true
  | .event _ _ => false

/-- A report is an event of a kind. -/
def Report.isEvent (kind : EventKind) : Report → Bool
  | .event k _ => decide (k = kind)
  | .answer _ _ _ _ => false

/-- A report is HOLD_ENTERED or HOLD_LEFT (R92). -/
def Report.isHold (r : Report) : Bool := r.isEvent .holdEntered || r.isEvent .holdLeft

/-- A message of a chain port. -/
def Emission.isOfPort (p : Fin 8) : Emission → Bool
  | .chain q _ _ => decide (q = p)
  | .report _ => false
  | .fixture _ _ _ => false

/-- A unit is to be mapped. -/
def UnitMark.isMapping : UnitMark → Bool
  | .mapping _ => true
  | .discard => false
  | .late => false
  | .unassigned => false

/-- The answers that stand in the Report Queue. -/
def answersIn (s : State) : Nat := s.mgmt.queue.countP Report.isAnswer

/-! ## Commands -/

/-- The rows that are management commands (Table 0-4). -/
def isManagement : Instr → Bool
  | .setIdentity _ _ _ | .setFilter _ _ _ _ _ _ | .setFiltersInUse _ _ | .setReference _ _ | .setInternalRate _ _ => true
  | .setPhaseOffset _ _ | .setPwmGrid _ _ | .setContactFunction _ _ _ | .writeTileEntries _ _ _ _ => true
  | .writeChainLengths _ _ _ _ | .writeRingFlags _ _ | .writeCanvasSize _ _ _ | .writeWallCurve _ _ _ _ => true
  | .writeLightCurve _ _ _ _ | .writePatch _ _ _ _ | .writeSlotCounts _ _ _ _ | .readTable _ _ _ _ _ => true
  | .clone _ | .take _ _ _ | .cancelTake _ | .hold _ _ | .release _ _ | .chainRetrain _ _ | .chainDisable _ _ => true
  | .chainEnable _ _ | .setChainBudget _ _ _ _ | .setSourcePriority _ _ _ | .setSourceTimeout _ _ _ => true
  | .writeCue _ _ _ _ _ _ _ _ | .deleteCue _ _ | .readCue _ _ | .go _ | .goTo _ _ | .back _ | .halt _ => true
  | .resume _ | .clearPlayback _ | .setPwmOutput _ _ _ _ _ _ | .setFixturePort _ _ _ _ _ _ => true
  | .queryFixture _ _ _ _ _ | .setEventMask _ _ | .queryStatus _ _ _ | .clearStatus _ _ _ | .clearCounters _ _ => true
  | .flushInputs _ => true
  | .powerOnReset _ | .lineReset _ | .linkUp | .linkDown | .huntByte _ | .headerReceived _ _ _ => false
  | .unitReceived _ _ _ | .managementUnitStart _ | .reportTransmitted | .cloneComplete | .validationEnd => false
  | .frameBoundary _ _ | .sourceSilenceTimeout _ | .fadeStart | .fadeComplete | .followGo | .autoHoldSet => false
  | .trainingTimeout _ | .recoveryFailure _ | .holdoffEnd _ | .periodicCensus _ | .fixtureRefresh _ => false
  | .holdoverEnd | .marksAcquisitionTimeout | .marksReferenceLost | .genlockPulse _ | .acquisitionTimeout => false
  | .referenceLost | .mappingUnitTake | .mappingUnitEnd | .partnerPresent _ | .partnerLost _ => false
  | .trainingComplete _ _ | .censusAnswer _ _ | .censusWindowEnd _ | .symbolError _ _ | .shifterFrameEnd _ => false
  | .fixtureCharacter _ _ _ _ | .fixtureFrameEnd _ | .replyWindowClose _ => false

/-- The code, the tag and the body of the management unit that carries a command, its values in the order and the sizes of
R184; none for a row that is no management command, and for one that names another tick than the one at which it is
started. -/
def managementBody (tick : Nat) : Instr → Option (Byte × Byte × List Byte)
  | .setIdentity tag address label => some (Code.setIdentity, tag, u8 address ++ label)
  | .setFilter tag index value mask cls source =>
    some (Code.setFilter, tag, u8 index ++ u16 value ++ u16 mask ++ u8 cls ++ u8 source)
  | .setFiltersInUse tag count => some (Code.setFiltersInUse, tag, u8 count)
  | .setReference tag code => some (Code.setReference, tag, u8 code)
  | .setInternalRate tag ticks => some (Code.setInternalRate, tag, u32 ticks)
  | .setPhaseOffset tag ticks => some (Code.setPhaseOffset, tag, u32 ticks)
  | .setPwmGrid tag k => some (Code.setPwmGrid, tag, u8 k)
  | .setContactFunction tag input function => some (Code.setContactFunction, tag, u8 input ++ u8 function)
  | .writeTileEntries tag start count elements => some (Code.writeTileEntries, tag, u16 start ++ u16 count ++ elements)
  | .writeChainLengths tag start count elements => some (Code.writeChainLengths, tag, u16 start ++ u16 count ++ elements)
  | .writeRingFlags tag flags => some (Code.writeRingFlags, tag, u8 flags)
  | .writeCanvasSize tag width height => some (Code.writeCanvasSize, tag, u16 width ++ u16 height)
  | .writeWallCurve tag start count elements => some (Code.writeWallCurve, tag, u16 start ++ u16 count ++ elements)
  | .writeLightCurve tag start count elements => some (Code.writeLightCurve, tag, u16 start ++ u16 count ++ elements)
  | .writePatch tag start count elements => some (Code.writePatch, tag, u16 start ++ u16 count ++ elements)
  | .writeSlotCounts tag start count elements => some (Code.writeSlotCounts, tag, u16 start ++ u16 count ++ elements)
  | .readTable tag bank table start count => some (Code.readTable, tag, u8 bank ++ u8 table ++ u16 start ++ u16 count)
  | .clone tag => some (Code.clone, tag, [])
  | .take tag request frame => some (Code.take, tag, u8 request ++ u32 frame)
  | .cancelTake tag => some (Code.cancelTake, tag, [])
  | .hold tag scope => some (Code.hold, tag, u8 scope)
  | .release tag scope => some (Code.release, tag, u8 scope)
  | .chainRetrain tag port => some (Code.chainRetrain, tag, u8 port)
  | .chainDisable tag port => some (Code.chainDisable, tag, u8 port)
  | .chainEnable tag port => some (Code.chainEnable, tag, u8 port)
  | .setChainBudget tag chain budget step => some (Code.setChainBudget, tag, u8 chain ++ u16 budget ++ u16 step)
  | .setSourcePriority tag source priority => some (Code.setSourcePriority, tag, u8 source ++ u8 priority)
  | .setSourceTimeout tag source timeout => some (Code.setSourceTimeout, tag, u8 source ++ u16 timeout)
  | .writeCue tag number up down delay follow link pairs =>
    some (Code.writeCue, tag, u16 number ++ u8 pairs.length ++ u16 up ++ u16 down ++ u16 delay ++ flag follow.isSome ++
      u16 (follow.getD 0) ++ flag link ++ pairs.flatMap fun x => u16 x.1 ++ u16 x.2)
  | .deleteCue tag number => some (Code.deleteCue, tag, u16 number)
  | .readCue tag number => some (Code.readCue, tag, u16 number)
  | .go tag => some (Code.go, tag, [])
  | .goTo tag number => some (Code.goTo, tag, u16 number)
  | .back tag => some (Code.back, tag, [])
  | .halt tag => some (Code.halt, tag, [])
  | .resume tag => some (Code.resume, tag, [])
  | .clearPlayback tag => some (Code.clearPlayback, tag, [])
  | .setPwmOutput tag output alignment polarity phase pair =>
    some (Code.setPwmOutput, tag, u8 output ++ u8 alignment ++ u8 polarity ++ u8 phase ++ flag pair)
  | .setFixturePort t tag port enable rate divisor =>
    if t = tick then some (Code.setFixturePort, tag, u8 port ++ flag enable ++ u8 rate ++ u8 divisor) else none
  | .queryFixture t tag port address kind =>
    if t = tick then some (Code.queryFixture, tag, u8 port ++ u8 address ++ u8 kind) else none
  | .setEventMask tag mask => some (Code.setEventMask, tag, u16 mask)
  | .queryStatus t tag block => if t = tick then some (Code.queryStatus, tag, u8 block) else none
  | .clearStatus tag block mask => some (Code.clearStatus, tag, u8 block ++ u32 mask)
  | .clearCounters tag block => some (Code.clearCounters, tag, u8 block)
  | .flushInputs tag => some (Code.flushInputs, tag, [])
  | .powerOnReset _ | .lineReset _ | .linkUp | .linkDown | .huntByte _ | .headerReceived _ _ _ => none
  | .unitReceived _ _ _ | .managementUnitStart _ | .reportTransmitted | .cloneComplete | .validationEnd => none
  | .frameBoundary _ _ | .sourceSilenceTimeout _ | .fadeStart | .fadeComplete | .followGo | .autoHoldSet => none
  | .trainingTimeout _ | .recoveryFailure _ | .holdoffEnd _ | .periodicCensus _ | .fixtureRefresh _ => none
  | .holdoverEnd | .marksAcquisitionTimeout | .marksReferenceLost | .genlockPulse _ | .acquisitionTimeout => none
  | .referenceLost | .mappingUnitTake | .mappingUnitEnd | .partnerPresent _ | .partnerLost _ => none
  | .trainingComplete _ _ | .censusAnswer _ _ | .censusWindowEnd _ | .symbolError _ _ | .shifterFrameEnd _ => none
  | .fixtureCharacter _ _ _ _ | .fixtureFrameEnd _ | .replyWindowClose _ => none

/-- A body as its unit carries it: filled with 0 up to 2 bytes (R184). -/
def filledBody (body : List Byte) : List Byte := body ++ List.replicate (2 - body.length) 0

/-! ## Units -/

/-- The unit being received has this payload and CRC-32, passes its integrity check and the address test, and its deciding
entry is `e` (R4, R6, R8). -/
def Classified (s : State) (payload : List Byte) (crc : BitVec 32) (e : FilterEntry) : Prop :=
  ∃ streamId address, s.intake.link = .up ∧ s.intake.framer = .body streamId address payload.length ∧
    crc = crc32 (covered streamId address payload.length payload) ∧
    (address = 0 ∨ address = s.intake.unitAddress.toNat ∨ s.intake.locked = false) ∧
    decidingEntry s.intake (BitVec.ofNat 16 streamId) = some e

/-! ## Patch targets -/

/-- Two patch targets conflict (R53): the same output, overlapping slots of a port, a chain in both masks, or both grand
master. -/
def SameTarget (e f : PatchEntry) : Bool :=
  decide (e.kind = 1 ∧ f.kind = 1 ∧ e.pwm = f.pwm) ||
    decide ((e.kind = 2 ∨ e.kind = 3) ∧ (f.kind = 2 ∨ f.kind = 3) ∧ e.port = f.port ∧
      (e.slot = f.slot ∨ (e.kind = 3 ∧ e.slot.toNat + 1 = f.slot.toNat) ∨
        (f.kind = 3 ∧ f.slot.toNat + 1 = e.slot.toNat))) ||
    decide (e.kind = 4 ∧ f.kind = 4 ∧ ∃ c : Fin 8, e.mask.getLsbD c.val = true ∧ f.mask.getLsbD c.val = true) ||
    decide (e.kind = 5 ∧ f.kind = 5)

/-! ## Coverage -/

/-- A LIVE source covers a channel with a priority in force and a level (R134, R136). -/
def Covers (s : State) (ch : Fin 512) (source : Fin 4) (priority : Nat) (level : Level) : Prop :=
  (source = 0 ∧ s.cue.state ≠ .idle ∧ s.cue.cover.get ch = some level ∧ priority = s.merge.priority0) ∨
    ∃ k : Fin 3, source = k.succ ∧ (s.source k).live = true ∧ (s.source k).cover.get ch = true ∧
      priority = (s.source k).priority ∧ level = (s.source k).image.get ch

/-! ## What the mapping engine hands on -/

/-- Between two states these segments went to their ports, in order, and these values to the entries of the accumulation
that runs: a port that is ACTIVE and has not broken the frame holds its segments, any other drops and counts them (R66, R85,
R112, R121). -/
def HandedOn (s t : State) (segments : List Piece) (values : List (Fin 256 × List (Nat × Nat × Nat))) : Prop :=
  (∀ p, let mine := (segments.filter fun x => decide (x.port = p)).map Piece.segment
    t.port p = if (s.port p).state = .active ∧ (s.port p).broken = false then
        { s.port p with unsent := (s.port p).unsent ++ mine }
      else { s.port p with counters := { (s.port p).counters with
        droppedSegments := bumpBy mine.length (s.port p).counters.droppedSegments } }) ∧
    (s.limiter.accumulation = none → t.limiter = s.limiter) ∧
    ∀ a, s.limiter.accumulation = some a → ∃ a', t.limiter = { s.limiter with accumulation := some a' } ∧
      ∀ i, let mine := (values.filter fun x => decide (x.1 = i)).flatMap Prod.snd
        (a'.get i).rated = (a.get i).rated ∧ (a'.get i).count = (a.get i).count + mine.length ∧
        (a'.get i).sum = (a.get i).sum + (mine.map fun v => v.1 / 256 + v.2.1 / 256 + v.2.2 / 256).sum

/-! ## Chain ports -/

/-- From `s`, in which port `p` is ACTIVE, to `t`, the port, whose record is else `x`, enters RECOVERY: it offers the width it
has and sends its pattern, the entry is counted and told with its cause, a running census is abandoned and the frame of the
interval broken, counted once; some first segments of those it held were sent, a free number (log entry 6), and the rest are
dropped and counted (R103, R104, R105, R112, R115). -/
def EntersRecovery (s : State) (p : Fin 8) (x : Port) (cause : Nat) (t : State) : Prop :=
  ∃ k, k ≤ x.unsent.length ∧
    let offered := x.width.getD .one
    let after : Port := { x with
      state := .recovery, entryWidth := x.width, offer := some offered, count := 0, window := none, broken := true, unsent := []
      counters := { x.counters with
        recoveries := bump x.counters.recoveries
        droppedSegments := bumpBy (x.unsent.length - k) x.counters.droppedSegments
        framesBroken := if x.broken then x.counters.framesBroken else bump x.counters.framesBroken } }
    let segments := x.width.elim [] fun w => (x.unsent.take k).map fun g => Emission.chain p w (.segment g)
    t = offer .chainState
      (u8 p.val ++ u8 PortState.active.code ++ u8 PortState.recovery.code ++ lanesBytes x.width ++ u8 cause)
      (((s.setPort p after).setDraws (s.draws + 1)).setSent
        (s.sent ++ segments ++ [.chain p offered (.pattern offered)]))

/-! ## Phase -/

/-- `e` is the phase error of a reference that falls at `instant` against the boundary scheduled at `boundary`: their
difference modulo the period, in the range of R26. -/
def PhaseOf (e : Int) (boundary instant period : Nat) : Prop :=
  -((period / 2 : Nat) : Int) ≤ e ∧ e < (period : Int) - (period / 2 : Nat) ∧
    ((boundary : Int) - instant - e) % period = 0

/-! ## Defaults

The values of the reset tables, block by block. What no rule gives is left out (log entry 5). -/

/-- Table 1-6. -/
def Intake.AtDefaults (x : Intake) : Prop :=
  x.link = .down ∧ x.framer = .hunt false ∧ x.unitAddress = 0 ∧ x.locked = false ∧ (∀ i, x.label.get i = 0x20) ∧
    x.inUse = 1 ∧ (∀ i, x.entries.get i = ⟨0, 0, .discard, 0⟩) ∧ x.lane = [] ∧ x.buffer = [] ∧ x.slot = none ∧
    x.linkLost = false ∧ x.laneOverflow = false ∧ x.counters = ⟨0, 0, 0, 0, 0, 0, 0, 0, 0, 0, 0, 0, 0, 0, 0, 0⟩

/-- Table 2-10 and R39, at a boundary b_0 of tick `now`. -/
def Timing.AtDefaults (now : Nat) (x : Timing) : Prop :=
  x.frame = 0 ∧ x.reference = .internal ∧ x.internalRate = 2000000 ∧ x.period = 2000000 ∧ x.phaseOffset = 0 ∧
    x.lock = .free ∧ x.settled = false ∧ x.phaseError = 0 ∧ x.lastPulse = none ∧ x.run = ⟨0, 0, 0⟩ ∧
    x.firstMark = none ∧ x.lastMark = none ∧ x.runMarks = 0 ∧ x.k = 4 ∧ x.length = 2000000 ∧
    x.nextBoundary = now + 2000000 ∧ x.grid = ⟨4, 8, 62500, 0⟩ ∧ (∀ i, x.functions.get i = .none) ∧
    x.referenceLost = false ∧ x.counters = ⟨0, 0, 0, 0, 0, 0, 0⟩

/-- Table 3-2. -/
def Bank.AtDefaults (b : Bank) : Prop :=
  (∀ i, b.tiles.get i = ⟨false, 0, 0, 0, 0, 0, 0, 0, 0, 0, 0, 0⟩) ∧ (∀ c, b.lengths.get c = 0) ∧
    (∀ k, b.rings.get k = false) ∧ b.canvasW.toNat = 1920 ∧ b.canvasH.toNat = 1080 ∧
    (∀ i, (b.wallCurve.get i).toNat = i.val * 65535 / 1023) ∧ (∀ i, (b.lightCurve.get i).toNat = 64 * i.val) ∧
    (∀ ch, b.patch.get ch = ⟨0, 0, 4096, 0, 0, 0, 0⟩) ∧ ∀ p, b.slotCounts.get p = 0

/-- R41 and R62. -/
def Banks.AtDefaults (x : Banks) : Prop :=
  x.bankA.AtDefaults ∧ x.bankB.AtDefaults ∧ x.aActive = true ∧ x.clone = none ∧ x.take = .idle ∧ x.last = .none ∧
    x.lateTake = false ∧ x.takeFailed = false ∧ x.counters = ⟨0, 0, 0, 0, 0, 0, 0⟩

/-- The gains that the default patch and the default limiter give (R63, R64, R71). -/
def LevelPath.AtDefaults (x : LevelPath) : Prop := (∀ c, x.gains.get c = ⟨4096, 4096⟩) ∧ x.grandMaster = 4096

/-- Table 5-10, with the notice "no new frame" of b_0 (R95). -/
def Canvas.AtDefaults (x : Canvas) : Prop :=
  x.record = none ∧ x.engine = none ∧ x.notice = none ∧ x.operator = false ∧ x.contact = false ∧ x.auto = false ∧
    x.autoCount = 0 ∧ x.lightOperator = false ∧ x.lightHold = false ∧ x.frameDamaged = false ∧
    x.counters = ⟨0, 0, 0, 0, 0, 0, 0, 0, 0, 0⟩

/-- R117. -/
def Port.AtDefaults (x : Port) : Prop :=
  x.state = .down ∧ x.width = none ∧ x.offer = none ∧ x.holdoff = none ∧ x.census = 0 ∧ x.window = none ∧
    x.disable = none ∧ x.retrain = false ∧ x.cap = none ∧ x.latch = ⟨none, false, 0, [], 0⟩ ∧ x.unsent = [] ∧
    x.presenceChanged = false ∧ x.widthNarrowed = false ∧ x.retrainDone = false ∧
    x.counters = ⟨0, 0, 0, 0, 0, 0, 0, 0, 0, 0, 0⟩

/-- Table 7-4, for one chain. -/
def ChainLimiter.AtDefaults (x : ChainLimiter) : Prop :=
  x.budget = 0 ∧ x.step = 64 ∧ x.gain = 4096 ∧ x.target = 4096 ∧ x.demand = none ∧ x.tiles = none ∧
    x.unattainable = false ∧ x.counters = ⟨0, 0, 0⟩

/-- Table 8-6, for one of S1 to S3. -/
def Source.AtDefaults (x : Source) : Prop :=
  (∀ ch, x.image.get ch = 0 ∧ x.cover.get ch = false) ∧ x.live = false ∧ x.silence = 0 ∧ x.unitSeen = false ∧
    x.timeout = 100 ∧ x.priority = 4 ∧ x.request = none ∧ x.sourceLost = false ∧ x.levelUnits = 0 ∧ x.silences = 0

/-- Table 8-6. -/
def Merge.AtDefaults (x : Merge) : Prop :=
  x.priority0 = 4 ∧ x.request0 = none ∧ (∀ ch, x.look.get ch = ⟨0, none⟩) ∧ ∀ k, (x.sources.get k).AtDefaults

/-- R145 and R148. -/
def Cue.AtDefaults (x : Cue) : Prop :=
  x.list = [] ∧ x.state = .idle ∧ x.current = none ∧ x.target = none ∧ x.follow = none ∧ x.origin = .none ∧
    x.tookTake = false ∧ x.delayLeft = 0 ∧ x.start = 0 ∧ x.elapsed = 0 ∧
    (∀ ch, x.fade.get ch = none ∧ x.cover.get ch = none) ∧ x.counters = ⟨0, 0, 0, 0, 0⟩

/-- Table 10-1 and R160. -/
def PwmOutput.AtDefaults (x : PwmOutput) : Prop :=
  x.inForce = ⟨false, false, 0, false⟩ ∧ x.requested = none ∧ x.staged = .none ∧ x.shown = .idle

/-- Table 10-6. -/
def FixturePort.AtDefaults (x : FixturePort) : Prop :=
  x.refreshing = false ∧ x.rate = .slow ∧ x.divisor = 1 ∧ x.buffer = none ∧ x.shifter = .idle ∧ x.query = none ∧
    x.rx = none ∧ x.fifo = [] ∧ x.parity = false ∧ x.framing = false ∧ x.overrun = false ∧
    x.counters = ⟨0, 0, 0, 0, 0, 0, 0, 0, 0, 0⟩

/-- Table 11-6. -/
def Mgmt.AtDefaults (x : Mgmt) : Prop :=
  x.queue = [] ∧ x.stalled = false ∧ (∀ kind, x.selects kind = true) ∧ x.eventsLost = false ∧
    x.counters = ⟨0, 0, 0, 0, 0, 0, 0, 0⟩

/-- Every block holds the values of its reset table. -/
def State.AtDefaults (s : State) : Prop :=
  s.intake.AtDefaults ∧ s.timing.AtDefaults s.now ∧ s.banks.AtDefaults ∧ s.level.AtDefaults ∧ s.canvas.AtDefaults ∧
    (∀ p, (s.port p).AtDefaults) ∧ s.limiter.accumulation = none ∧ (∀ c, (s.chain c).AtDefaults) ∧ s.merge.AtDefaults ∧
    s.cue.AtDefaults ∧ (∀ o, (s.drive.get o).AtDefaults) ∧ (∀ p, (s.fixturePort p).AtDefaults) ∧ s.mgmt.AtDefaults ∧
    reservations s = []

/-! ## Sound states -/

/-- The room rule keeps reports and reservations at 32 or fewer, and the engine is stalled just while a unit waits and the
room test fails (R174). -/
def QueueSound (s : State) : Prop :=
  s.mgmt.queue.length + (reservations s).length ≤ 32 ∧ s.mgmt.stalled = (!s.intake.lane.isEmpty && !hasRoom s)

/-- The lanes and the reply FIFOs stay within their sizes (R12, R13, R170). -/
def LanesSound (s : State) : Prop :=
  s.intake.lane.length ≤ 8 ∧ s.intake.buffer.length ≤ 8 ∧
    ∀ p, (s.fixturePort p).fifo.length ≤ 2 ∧ ∀ e ∈ (s.fixturePort p).fifo, 4 ≤ e.chars.length ∧ e.chars.length ≤ 16

/-- Identity, framer and link (R1, R3, R5, R7, R10, R179): the address stands with its lock, the label is printable, no
unit is received and no report sent while the link is down. -/
def IntakeSound (s : State) : Prop :=
  1 ≤ s.intake.inUse ∧ s.intake.inUse ≤ 16 ∧ (s.intake.locked = true ↔ s.intake.unitAddress ≠ 0) ∧
    (∀ i, 0x20 ≤ (s.intake.label.get i).toNat ∧ (s.intake.label.get i).toNat ≤ 0x7E) ∧
    (s.intake.link = .down → s.intake.framer = .hunt false) ∧
    (∀ streamId address length, s.intake.framer = .body streamId address length → 4 ≤ length ∧ length ≤ 8192) ∧
    (s.mgmt.cut = true → s.intake.link = .down ∧ s.mgmt.queue ≠ [])

/-- The active bank has passed validation; so has the staged bank of a PENDING take; a Clone runs only while the take is
IDLE (R40, R44, R47). -/
def BanksSound (s : State) : Prop :=
  validate s.activeBank = none ∧ (∀ r, s.banks.take = .pending r → validate s.stagedBank = none) ∧
    (s.banks.clone ≠ none → s.banks.take = .idle)

/-- A frame period's range (section 2.1). -/
def InRange (v : Nat) : Prop := Config.minPeriod ≤ v ∧ v ≤ Config.maxPeriod

/-- The grid of an interval divides its length (R33). -/
def GridSound (g : Grid) (length : Nat) : Prop :=
  1 ≤ g.k ∧ g.k ≤ 16 ∧ g.p ∈ [1, 2, 4, 8, 16, 32, 64, 128] ∧ 32768 ≤ g.n ∧ g.n ≤ 65535 ∧
    g.k * g.p * g.n + g.residual = length ∧ g.residual < g.k * g.p

/-- Period, interval length and grid within what R19 and R33 give; INTERNAL free-running at its rate (R21, R22); no phase
outside LOCKED (Table 2-2). -/
def TimingSound (s : State) : Prop :=
  InRange s.timing.period ∧ InRange s.timing.internalRate ∧ 996094 ≤ s.timing.length ∧ s.timing.length ≤ 4517578 ∧
    1 ≤ s.timing.k ∧ s.timing.k ≤ 16 ∧ GridSound s.timing.grid s.timing.length ∧
    (s.timing.lock ≠ .locked → s.timing.settled = false ∧ s.timing.phaseError = 0) ∧
    (s.timing.reference = .internal → s.timing.lock = .free ∧ s.timing.period = s.timing.internalRate) ∧
    (s.timing.reference = .genlock → s.timing.lock = .acquiring ∨ s.timing.lock = .locked → s.timing.lastPulse ≠ none)

/-- What is to be mapped belongs to the OPEN frame: it carries the number of the record, which is OPEN (R83). -/
def MarkSound (s : State) (u : BufferedUnit) : Prop :=
  ∀ kept, u.mark = .mapping kept → kept ≤ u.picture.pixels.length ∧
    ∃ r, s.canvas.record = some r ∧ r.state = .isOpen ∧ u.picture.frame = r.number

/-- No frame is OPEN under a hold; the limiter accumulates just while a frame is OPEN; only units of the OPEN frame are
mapped (R78, R83, R87, R88, R121). -/
def CanvasSound (s : State) : Prop :=
  (∀ r, s.canvas.record = some r → r.lines.Pairwise (· < ·) ∧
      (r.state = .isOpen → r.assigned ≠ none ∧ s.canvas.assignedNow = true ∧ wallHeld s.canvas = false)) ∧
    s.canvas.autoCount ≤ 2 ∧ (s.canvas.auto = true → s.canvas.autoCount = 2) ∧
    s.limiter.accumulation.isSome = isOpenRecord s ∧ (∀ u ∈ s.intake.buffer, MarkSound s u) ∧
    ∀ job, s.canvas.engine = some job → MarkSound s job.unit

/-- A port offers a width just in TRAINING and RECOVERY, has trained to one in ACTIVE and RECOVERY and while a census
runs, and holds off only in DOWN; a census is at most 32 (R97 to R104). -/
def PortSound (x : Port) : Prop :=
  (x.offer ≠ none ↔ x.state = .training ∨ x.state = .recovery) ∧
    (x.state = .active ∨ x.state = .recovery ∨ x.window ≠ none → x.width ≠ none) ∧
    (x.window ≠ none → x.state = .training ∨ x.state = .recovery ∨ x.state = .active) ∧
    (x.holdoff ≠ none → x.state = .down) ∧ x.census ≤ 32

/-- Every chain port. -/
def ChainSound (s : State) : Prop := ∀ p, PortSound (s.port p)

/-- The limiter gain of a chain (R125). -/
def LimiterSound (s : State) : Prop :=
  ∀ c, (s.chain c).gain ≤ (s.chain c).target ∧ 256 ≤ (s.chain c).gain ∧ (s.chain c).target ≤ 4096 ∧
    1 ≤ (s.chain c).step ∧ (s.chain c).step ≤ 4096 ∧
    ((s.chain c).budget = 0 → (s.chain c).gain = 4096)

/-- A SILENT source covers nothing and counts nothing; timeouts and priorities lie in their ranges (R130 to R135). -/
def MergeSound (s : State) : Prop :=
  s.merge.priority0 ≤ 7 ∧ (∀ v, s.merge.request0 = some v → v ≤ 7) ∧
    ∀ k, (s.source k).priority ≤ 7 ∧ (∀ v, (s.source k).request = some v → v ≤ 7) ∧
      1 ≤ (s.source k).timeout ∧ (s.source k).timeout ≤ 1000 ∧ (s.source k).silence ≤ 1000 ∧
      ((s.source k).live = false → (s.source k).silence = 0 ∧ ∀ ch, (s.source k).cover.get ch = false)

/-- The cue list holds at most 64 records in strictly ascending order of number (R145); the current and target cues are in it (R146, R147);
each playback state has what Table 9-2 gives it (R148). -/
def CueSound (s : State) : Prop :=
  s.cue.list.length ≤ 64 ∧ (s.cue.list.Pairwise fun a b => a.number < b.number) ∧
    (∀ r ∈ s.cue.list, 1 ≤ r.number ∧ r.number ≤ 999 ∧ 1 ≤ r.pairs.length ∧ r.pairs.length ≤ 48) ∧
    (∀ n, isLiveCue s.cue n = true → findCue s.cue.list n ≠ none) ∧
    (s.cue.state = .idle → s.cue.current = none ∧ s.cue.target = none ∧ ∀ ch, s.cue.cover.get ch = none) ∧
    (s.cue.state = .resting → s.cue.target = none ∧ s.cue.current ≠ none) ∧
    (s.cue.state ≠ .idle → s.cue.state ≠ .resting → s.cue.target ≠ none) ∧
    (s.cue.follow ≠ none → s.cue.state = .resting)

/-- The two outputs of a pair show one intensity divided (R160). -/
def PairSound (even odd : Shown) : Prop :=
  (∀ total w, even = .warm total w → odd = .cool total w ∧ w ≤ total) ∧
    (∀ total w, odd = .cool total w → even = .warm total w)

/-- Settings of an output that R159 admits. -/
def SettingsSound (o : Fin 16) (x : PwmSettings) : Prop := x.phase ≤ 15 ∧ (x.pair = true → o.val % 2 = 0)

/-- Every even output and its odd partner agree (R160, R161), and every output holds settings in their ranges (R159). -/
def DriveSound (s : State) : Prop :=
  ∀ o : Fin 16, PairSound (s.drive.get (evenOutput o)).shown (s.drive.get (oddOutput o)).shown ∧
    SettingsSound o (s.drive.get o).inForce ∧ ∀ x, (s.drive.get o).requested = some x → SettingsSound o x

/-- The shifter sends a query just while the outstanding query is being sent; an idle shifter has no work waiting; a port
in OFF holds no work (R164, R166, R167, R169). -/
def FixtureSound (x : FixturePort) : Prop :=
  1 ≤ x.divisor ∧ x.divisor ≤ 4 ∧
    ((∃ began rate, x.shifter = .query began rate) ↔ ∃ q, x.query = some q ∧ q.phase = .sending) ∧
    (x.shifter = .idle → x.buffer = none ∧ ∀ q, x.query = some q → q.phase ≠ .waiting) ∧
    (∀ q, x.query = some q → q.phase = .closing → ∃ f, x.rx = some f ∧ f.inWindow = true) ∧
    (∀ f, x.rx = some f → f.chars ≠ [] ∧ (f.inWindow = true → x.query ≠ none)) ∧
    (x.refreshing = false → x.buffer = none ∧ x.query = none ∧ x.rx = none ∧
      (x.shifter = .idle ∨ ∃ began rate characters, x.shifter = .cutOff began rate characters))

/-- Both fixture ports. -/
def FixturesSound (s : State) : Prop := ∀ p, FixtureSound (s.fixturePort p)

/-- All of it. -/
def State.Sound (s : State) : Prop :=
  QueueSound s ∧ LanesSound s ∧ IntakeSound s ∧ BanksSound s ∧ TimingSound s ∧ CanvasSound s ∧ ChainSound s ∧
    LimiterSound s ∧ MergeSound s ∧ CueSound s ∧ DriveSound s ∧ FixturesSound s

end Sys2Proof.Machine
end

