-- ==== Sys2Proof/WellFormed.lean ====
section
/-! DEFINITION. Which commands fit the wire: each operand within the width its field has in the stream unit, the chain
message or the fixture bus character that carries it (R183, R184, R185). -/

namespace Sys2Proof

/-- A value that fits 1, 2 or 4 bytes (R184). -/
def fits1 (v : Nat) : Bool := v < 256
def fits2 (v : Nat) : Bool := v < 65536
def fits4 (v : Nat) : Bool := v < 4294967296

/-- The start and the count of a table write each take 2 bytes, and its body fits the envelope (R3, R184). -/
def fitsTable (start count : Nat) (elements : List Byte) : Bool :=
  fits2 start && fits2 count && decide (elements.length + 6 ≤ 8192)

/-- The operands fit the fields that carry them. -/
def Instr.wellFormed : Instr → Bool
  | .headerReceived streamId address length => fits2 streamId && fits1 address && fits2 length
  | .unitReceived _ payload _ => decide (4 ≤ payload.length) && decide (payload.length ≤ 8192)
  | .setIdentity _ address label => fits1 address && decide (label.length = 16)
  | .setFilter _ index value mask cls source =>
    fits1 index && fits2 value && fits2 mask && fits1 cls && fits1 source
  | .setFiltersInUse _ count => fits1 count
  | .setReference _ code => fits1 code
  | .setInternalRate _ ticks => fits4 ticks
  | .setPhaseOffset _ ticks => fits4 ticks
  | .setPwmGrid _ k => fits1 k
  | .setContactFunction _ input function => fits1 input && fits1 function
  | .writeTileEntries _ start count elements => fitsTable start count elements
  | .writeChainLengths _ start count elements => fitsTable start count elements
  | .writeRingFlags _ flags => fits1 flags
  | .writeCanvasSize _ width height => fits2 width && fits2 height
  | .writeWallCurve _ start count elements => fitsTable start count elements
  | .writeLightCurve _ start count elements => fitsTable start count elements
  | .writePatch _ start count elements => fitsTable start count elements
  | .writeSlotCounts _ start count elements => fitsTable start count elements
  | .readTable _ bank table start count => fits1 bank && fits1 table && fits2 start && fits2 count
  | .take _ request frame => fits1 request && fits4 frame
  | .hold _ scope => fits1 scope
  | .release _ scope => fits1 scope
  | .chainRetrain _ port => fits1 port
  | .chainDisable _ port => fits1 port
  | .chainEnable _ port => fits1 port
  | .setChainBudget _ chain budget step => fits1 chain && fits2 budget && fits2 step
  | .setSourcePriority _ source priority => fits1 source && fits1 priority
  | .setSourceTimeout _ source timeout => fits1 source && fits2 timeout
  | .writeCue _ number up down delay follow _ pairs =>
    fits2 number && fits2 up && fits2 down && fits2 delay && fits2 (follow.getD 0) &&
      fits1 pairs.length && pairs.all fun p => fits2 p.1 && fits2 p.2
  | .deleteCue _ number => fits2 number
  | .readCue _ number => fits2 number
  | .goTo _ number => fits2 number
  | .setPwmOutput _ output alignment polarity phase _ =>
    fits1 output && fits1 alignment && fits1 polarity && fits1 phase
  | .setFixturePort _ _ port _ rate divisor => fits1 port && fits1 rate && fits1 divisor
  | .queryFixture _ _ port address kind => fits1 port && fits1 address && fits1 kind
  | .setEventMask _ mask => fits2 mask
  | .queryStatus _ _ block => fits1 block
  | .clearStatus _ block mask => fits1 block && fits4 mask
  | .clearCounters _ block => fits1 block
  | .trainingComplete _ exchange => fits1 exchange.width
  | .censusAnswer _ hop => fits1 hop
  | .symbolError _ errors => fits1 errors
  | .powerOnReset _ | .lineReset _ | .linkUp | .linkDown | .huntByte _ | .managementUnitStart _ | .reportTransmitted => true
  | .clone _ | .cloneComplete | .validationEnd | .cancelTake _ => true
  | .go _ | .back _ | .halt _ | .resume _ | .clearPlayback _ | .flushInputs _ => true
  | .frameBoundary _ _ | .sourceSilenceTimeout _ | .fadeStart | .fadeComplete | .followGo | .autoHoldSet => true
  | .trainingTimeout _ | .recoveryFailure _ | .holdoffEnd _ | .periodicCensus _ | .fixtureRefresh _ => true
  | .holdoverEnd | .marksAcquisitionTimeout | .marksReferenceLost | .genlockPulse _ | .acquisitionTimeout => true
  | .referenceLost | .mappingUnitTake | .mappingUnitEnd | .partnerPresent _ | .partnerLost _ => true
  | .censusWindowEnd _ | .shifterFrameEnd _ | .fixtureCharacter _ _ _ _ | .fixtureFrameEnd _ | .replyWindowClose _ => true

end Sys2Proof
end

