-- ==== Sys2Proof/Certificates/Slice0/Obligations.lean ====
section
/-! DEFINITION. The statements for the provers. Each docstring names the rules of spec/ a statement is read from, and the
log entries for what in it is the model's choice. -/

open Sys2Proof Sys2Proof.Machine

/-! ## The queue of commands -/

/-- A step carries out the command at the front of the queue on the state with the queue's rest, and an empty queue leaves
the block as it is. The queue is the model's own (log entry 1). -/
def Obligations.StepRunsFrontCommand : Prop :=
  (∀ (s : State) (c : Instr) (rest : List Instr), step (s.setPending (c :: rest)) = exec c (s.setPending rest)) ∧
    ∀ s : State, s.pending = [] → step s = .next s

/-- Every command of every state ends in a next state, and leaves the commands that wait behind it in place: the feeder
has no fault and refuses no command (section 11.2 answers failures with result codes). The queue of waiting commands is the
model's own (log entry 1), and that a reset leaves it is log entry 8's. -/
def Obligations.EveryCommandCompletes : Prop :=
  ∀ (c : Instr) (s : State), ∃ t, exec c s = .next t ∧ t.pending = s.pending

/-- A management command without room for its answer changes nothing until room stands (from R174; the row that stands for
the command outside the lane is the model's, log entry 2). -/
def Obligations.CommandsWaitForRoom : Prop :=
  ∀ (c : Instr) (s : State), isManagement c = true → 31 < s.mgmt.queue.length + (reservations s).length →
    exec c s = .next s

/-! ## Section 1: program link, unit filter, intake lanes -/

/-- The link's changes of state, with what the framer, the flags and the report being sent make of them (R1, R5, R179). The
model's: that a report stands cut off whenever the queue is not empty (log entry 14); that a change into the state in which
the link stands does nothing, and that a held 0xC5 is dropped at the loss (log entry 19). -/
def Obligations.LinkChangesState : Prop :=
  (∀ s : State, s.intake.link = .down →
    exec .linkUp s = .next ((s.setIntake { s.intake with link := .up, framer := .hunt false }).setMgmt
      { s.mgmt with
        cut := false
        counters := { s.mgmt.counters with
          reportsResent := if s.mgmt.cut = true ∧ s.mgmt.queue ≠ [] then bump s.mgmt.counters.reportsResent
            else s.mgmt.counters.reportsResent } })) ∧
  (∀ s : State, s.intake.link = .up → exec .linkUp s = .next s) ∧
  (∀ s : State, s.intake.link = .down → exec .linkDown s = .next s) ∧
  ∀ s : State, s.intake.link = .up →
    exec .linkDown s = .next ((s.setIntake { s.intake with
      link := .down, framer := .hunt false, linkLost := true
      counters := { s.intake.counters with
        linkLosses := bump s.intake.counters.linkLosses
        abortedUnits := match s.intake.framer with
          | .hunt _ => s.intake.counters.abortedUnits
          | .header => bump s.intake.counters.abortedUnits
          | .body _ _ _ => bump s.intake.counters.abortedUnits } }).setMgmt
      { s.mgmt with cut := decide (s.mgmt.queue ≠ []) })

/-- What a byte in HUNT and the five bytes in HEADER do while the link is up, and that LINK_DOWN receives none (from R1,
R2, R3). -/
def Obligations.FramerFindsAndMeasuresUnits : Prop :=
  (∀ (s : State) (b : Byte), s.intake.link = .up → s.intake.framer = .hunt false →
    exec (.huntByte b) s = .next (s.setIntake (
      if b = 0xC5 then { s.intake with framer := .hunt true }
      else { s.intake with
        counters := { s.intake.counters with skippedBytes := bump s.intake.counters.skippedBytes } }))) ∧
  (∀ (s : State) (b : Byte), s.intake.link = .up → s.intake.framer = .hunt true →
    exec (.huntByte b) s = .next (s.setIntake (
      if b = 0x3A then { s.intake with framer := .header }
      else if b = 0xC5 then { s.intake with
        counters := { s.intake.counters with skippedBytes := bump s.intake.counters.skippedBytes } }
      else { s.intake with
        framer := .hunt false
        counters := { s.intake.counters with skippedBytes := bump (bump s.intake.counters.skippedBytes) } }))) ∧
  (∀ (s : State) (streamId address length : Nat), s.intake.link = .up → s.intake.framer = .header →
    exec (.headerReceived streamId address length) s = .next (s.setIntake (
      if 4 ≤ length ∧ length ≤ 8192 then { s.intake with framer := .body streamId address length }
      else { s.intake with
        framer := .hunt false
        counters := { s.intake.counters with lengthErrors := bump s.intake.counters.lengthErrors } }))) ∧
  ∀ (s : State) (b : Byte) (streamId address length : Nat), s.intake.link = .down →
    exec (.huntByte b) s = .next s ∧ exec (.headerReceived streamId address length) s = .next s

/-- The entry that decides is the first of those in use that equals the stream ID in every bit its mask selects; stream
ID 0 always goes to the management lane (from R8). -/
def Obligations.FirstMatchingEntryDecides : Prop :=
  ∀ (x : Intake) (streamId : BitVec 16),
    (∀ e, decidingEntry x streamId = some e ↔
      ∃ i, i < x.inUse ∧ (entryZero :: x.entries.data)[i]? = some e ∧
        (∀ b, e.mask.getLsbD b = true → streamId.getLsbD b = e.value.getLsbD b) ∧
        ∀ j f, j < i → (entryZero :: x.entries.data)[j]? = some f →
          ∃ b, f.mask.getLsbD b = true ∧ streamId.getLsbD b ≠ f.value.getLsbD b) ∧
    (1 ≤ x.inUse → decidingEntry x 0 = some entryZero ∧ entryZero.cls = .management)

/-- A complete unit that is damaged, not addressed, unmatched, filtered or of the wrong length is discarded and counted
once, and the framer hunts again; the right lengths are those of Table 1-3 (from R4, R6, R8, R11). -/
def Obligations.DiscardedUnitsAreCounted : Prop :=
  ∀ (s : State) (t streamId address length : Nat) (payload : List Byte) (crc : BitVec 32),
    s.intake.link = .up → s.intake.framer = .body streamId address length → payload.length = length →
    let x : Intake := { s.intake with framer := .hunt false }
    let k := s.intake.counters
    let dropped : IntakeCounters → Prop := fun k' =>
      exec (.unitReceived t payload crc) s = .next ((s.setNow (max s.now t)).setIntake { x with counters := k' })
    let good := crc = crc32 (covered streamId address length payload)
    let addressed := address = 0 ∨ address = s.intake.unitAddress.toNat ∨ s.intake.locked = false
    let pixels := wordAt payload 6
    let levels := wordAt payload 2
    let fits := fun cls : UnitClass =>
      (cls = .management ∧ 4 ≤ length ∧ length ≤ 8192) ∨
        (cls = .picture ∧ 1 ≤ pixels ∧ pixels ≤ 2040 ∧ length = 8 + 4 * pixels) ∨
        (cls = .level ∧ 1 ≤ levels ∧ levels ≤ 512 ∧ length = 4 + 2 * levels) ∨ (cls = .timeMark ∧ length = 8)
    (¬good → dropped { k with crcErrors := bump k.crcErrors }) ∧
    (good → ¬addressed → dropped { k with notAddressed := bump k.notAddressed }) ∧
    (good → addressed → decidingEntry s.intake (BitVec.ofNat 16 streamId) = none →
      dropped { k with unmatched := bump k.unmatched }) ∧
    ∀ e, good → addressed → decidingEntry s.intake (BitVec.ofNat 16 streamId) = some e →
      (e.cls = .discard → dropped { k with filtered := bump k.filtered }) ∧
      (e.cls ≠ .discard → ¬fits e.cls →
        dropped { k with classLengthErrors := bump k.classLengthErrors })

/-- Each class of unit reaches its lane: a management unit joins the lane or overflows a full one, a level unit writes its
source channel by channel, a time mark fills the slot with its arrival tick (from R12, R14, R15; the engine's stall is
settled as R174 gives). -/
def Obligations.UnitsReachTheirLanes : Prop :=
  ∀ (s : State) (t : Nat) (payload : List Byte) (crc : BitVec 32) (e : FilterEntry), Classified s payload crc e →
    let x : Intake := { s.intake with framer := .hunt false }
    let k := s.intake.counters
    let s' := s.setNow (max s.now t)
    (e.cls = .management → 4 ≤ payload.length → payload.length ≤ 8192 → s.intake.lane.length < 8 →
      exec (.unitReceived t payload crc) s = .next ((s'.setIntake { x with
        lane := s.intake.lane ++ [⟨payload.getD 0 0, payload.getD 1 0, payload.drop 2⟩]
        counters := { k with managementUnits := bump k.managementUnits } }).setMgmt { s.mgmt with
          stalled := !hasRoom s
          counters := { s.mgmt.counters with
            stalls := bumpIf (!s.mgmt.stalled && !hasRoom s) s.mgmt.counters.stalls } })) ∧
    (e.cls = .management → 4 ≤ payload.length → payload.length ≤ 8192 → 8 ≤ s.intake.lane.length →
      exec (.unitReceived t payload crc) s = .next (s'.setIntake { x with
        laneOverflow := true
        counters := { k with laneOverflows := bump k.laneOverflows } })) ∧
    (e.cls = .timeMark → payload.length = 8 →
      exec (.unitReceived t payload crc) s = .next (s'.setIntake { x with
        slot := some ⟨BitVec.ofNat 32 (longAt payload 0), longAt payload 4, max s.now t⟩
        counters := { k with
          timeMarks := bump k.timeMarks
          marksReplaced := if s.intake.slot = none then k.marksReplaced else bump k.marksReplaced } })) ∧
    ∀ (source : Fin 3), e.cls = .level → e.source = source.succ → 1 ≤ wordAt payload 2 → wordAt payload 2 ≤ 512 →
      payload.length = 4 + 2 * wordAt payload 2 →
      ∃ y : Source,
        exec (.unitReceived t payload crc) s = .next ((s'.setIntake { x with
          counters := { k with levelUnits := bump k.levelUnits } }).setSource source { s.source source with
            image := y.image, cover := y.cover, live := true, silence := 0, unitSeen := true
            levelUnits := bump (s.source source).levelUnits }) ∧
        ∀ ch : Fin 512,
          if wordAt payload 0 ≤ ch.val ∧ ch.val < wordAt payload 0 + wordAt payload 2 then
            y.cover.get ch = true ∧
              y.image.get ch = BitVec.ofNat 16 (wordAt payload (4 + 2 * (ch.val - wordAt payload 0)))
          else
            y.cover.get ch = (s.source source).cover.get ch ∧ y.image.get ch = (s.source source).image.get ch

/-- The identity is written once: Set Identity in the order of its tests, each answered (from R7; a label of another length
than 16 is no Set Identity body and is refused before them, R175). -/
def Obligations.IdentityIsWrittenOnce : Prop :=
  ∀ (s : State) (tag : Byte) (address : Nat) (label : List Byte), hasRoom s = true → label.length = 16 → address ≤ 255 →
    let c := Instr.setIdentity tag address label
    let printable := ∀ b ∈ label, 0x20 ≤ b.toNat ∧ b.toNat ≤ 0x7E
    (s.intake.locked = true → Answers (exec c s) s (.answer tag Code.setIdentity .idLocked [])) ∧
    (s.intake.locked = false → (address = 0 ∨ ¬printable) →
      Answers (exec c s) s (.answer tag Code.setIdentity .outOfRange [])) ∧
    (s.intake.locked = false → address ≠ 0 → printable →
      ∃ stored : Tab 16 Byte, stored.data = label ∧
        Answers (exec c s)
          (s.setIntake { s.intake with unitAddress := BitVec.ofNat 8 address, locked := true, label := stored })
          (.answer tag Code.setIdentity .ok (BitVec.ofNat 8 address :: label)))

/-- Set Filter writes one entry whole, or is refused; Set Filters In Use stores a count from 1 to 16 and leaves the entries
(from R9, R10). -/
def Obligations.FilterCommandsStore : Prop :=
  (∀ (s : State) (tag : Byte) (index value mask cls source : Nat), hasRoom s = true →
    let c := Instr.setFilter tag index value mask cls source
    (index = 0 ∨ 15 < index ∨ 4 < cls ∨ (cls = UnitClass.level.code ∧ (source = 0 ∨ 3 < source)) →
      Answers (exec c s) s (.answer tag Code.setFilter .outOfRange [])) ∧
    ∀ (i : Fin 15) (k : UnitClass), index = i.val + 1 → cls = k.code →
      (k = .level → 1 ≤ source ∧ source ≤ 3) →
      let stored : FilterEntry :=
        ⟨BitVec.ofNat 16 value, BitVec.ofNat 16 mask, k, if k = .level then Fin.ofNat 4 source else 0⟩
      Answers (exec c s) (s.setIntake { s.intake with entries := s.intake.entries.set i stored })
        (.answer tag Code.setFilter .ok [])) ∧
  ∀ (s : State) (tag : Byte) (count : Nat), hasRoom s = true →
    (1 ≤ count → count ≤ 16 → Answers (exec (.setFiltersInUse tag count) s)
      (s.setIntake { s.intake with inUse := count }) (.answer tag Code.setFiltersInUse .ok [])) ∧
    (count = 0 ∨ 16 < count → Answers (exec (.setFiltersInUse tag count) s) s
      (.answer tag Code.setFiltersInUse .outOfRange []))

/-! ## Section 2: frame timing, reference lock, contact inputs -/

/-- Set Reference restarts the lock machine in FREE with the reference it names, whatever it was doing; INTERNAL brings its
rate into force; and a change of the lock machine is reported just where the lock state changes, or phase settled changes in
LOCKED (from R21, R37; that REFERENCE_STATE joins the queue before the answer of Set Reference is log entry 30's). -/
def Obligations.ReferenceRestartsLock : Prop :=
  (∀ (s : State) (after : Timing),
    let body := u8 after.reference.code ++ u8 s.timing.lock.code ++ u8 after.lock.code ++ flag after.settled ++
      u32 after.period
    ((s.timing.lock ≠ after.lock ∨ (after.lock = .locked ∧ s.timing.settled ≠ after.settled)) →
      changeTiming after s = (s.setTiming after).setMgmt (s.mgmt.offer .referenceState body)) ∧
    (s.timing.lock = after.lock → (after.lock = .locked → s.timing.settled = after.settled) →
      changeTiming after s = s.setTiming after)) ∧
  ∀ (s : State) (tag : Byte) (r : Reference), hasRoom s = true →
    let period := if r = .internal then s.timing.internalRate else s.timing.period
    let s' := s.setTiming { s.timing with
      reference := r, lock := .free, settled := false, phaseError := 0, period := period
      lastPulse := none, run := ⟨0, 0, 0⟩, firstMark := none, lastMark := none, runMarks := 0, secondEstimate := 0
      markWait := 0, holdoverCount := 0 }
    let after :=
      if s.timing.lock = .free then s'
      else offer .referenceState
        (u8 r.code ++ u8 s.timing.lock.code ++ u8 LockState.free.code ++ flag false ++ u32 period) s'
    Answers (exec (.setReference tag r.code) s) after (.answer tag Code.setReference .ok (u8 r.code ++ u32 period)) ∧
    ∀ code, 3 ≤ code → Answers (exec (.setReference tag code) s) s (.answer tag Code.setReference .outOfRange [])

/-- R22: Set Internal Rate clamps and stores the rate, which is the period in force at once under INTERNAL and the interval's
length from the next boundary, and waits under GENLOCK or MARKS until INTERNAL is selected. -/
def Obligations.InternalRateIsClampedAndKept : Prop :=
  (∀ (s : State) (tag : Byte) (ticks : Nat), hasRoom s = true →
    let rate := max 1000000 (min 4500000 ticks)
    Answers (exec (.setInternalRate tag ticks) s)
      (s.setTiming { s.timing with
        internalRate := rate, period := if s.timing.reference = .internal then rate else s.timing.period })
      (.answer tag Code.setInternalRate .ok (u32 rate))) ∧
  (∀ (s t : State) (gp : Tab 4 Bool) (order : CommitOrder), s.timing.reference = .internal → s.timing.lock = .free →
    exec (.frameBoundary gp order) s = .next t →
      t.timing.length = s.timing.period ∧ t.timing.nextBoundary = s.timing.nextBoundary + s.timing.period) ∧
  ∀ (s t : State) (tag : Byte), hasRoom s = true → exec (.setReference tag 0) s = .next t →
    t.timing.reference = .internal ∧ t.timing.period = s.timing.internalRate

/-- R34: Set PWM Grid clamps and stores K; the running interval keeps its grid, and the next boundary makes its grid from
the new K; either reset leaves K at 4. -/
def Obligations.PwmGridTakesItsPeriods : Prop :=
  (∀ (s : State) (tag : Byte) (k : Nat), hasRoom s = true →
    let stored := if k = 0 then 1 else if 16 < k then 16 else k
    Answers (exec (.setPwmGrid tag k) s) (s.setTiming { s.timing with k := stored })
      (.answer tag Code.setPwmGrid .ok (u8 stored))) ∧
  (∀ (s t : State) (gp : Tab 4 Bool) (order : CommitOrder), exec (.frameBoundary gp order) s = .next t →
    t.timing.k = s.timing.k ∧ t.timing.grid.k = s.timing.k) ∧
  ∀ (s t : State) (gp : Tab 4 Bool),
    exec (.powerOnReset gp) s = .next t ∨ exec (.lineReset gp) s = .next t → t.timing.k = 4

/-- Set Phase Offset clamps to period − 1; Set Contact Function stores one function of one input or is refused (from R23,
R36). -/
def Obligations.OffsetAndFunctionsAreStored : Prop :=
  (∀ (s : State) (tag : Byte) (ticks : Nat), hasRoom s = true →
    let offset := min ticks (s.timing.period - 1)
    Answers (exec (.setPhaseOffset tag ticks) s) (s.setTiming { s.timing with phaseOffset := offset })
      (.answer tag Code.setPhaseOffset .ok (u32 offset))) ∧
  (∀ (s : State) (tag : Byte) (input : Fin 4) (f : ContactFunction), hasRoom s = true →
    Answers (exec (.setContactFunction tag input.val f.code) s)
      (s.setTiming { s.timing with functions := s.timing.functions.set input f })
      (.answer tag Code.setContactFunction .ok [])) ∧
  ∀ (s : State) (tag : Byte) (input function : Nat), hasRoom s = true → (3 < input ∨ 3 < function) →
    Answers (exec (.setContactFunction tag input function) s) s (.answer tag Code.setContactFunction .outOfRange [])

/-- What a genlock pulse does by the lock state: it starts an acquisition run, ends, extends or completes it at four near
intervals, and tracks a lock's period and phase; an interval out of range is counted and ignored; under another reference a
pulse does nothing (from R23, R24, R26, R28). That the pulse which locks offers one REFERENCE_STATE, with phase settled as it
stands after the measurement, is log entry 13's (R37). -/
def Obligations.GenlockPulsesAcquireAndTrack : Prop :=
  ∀ (s : State) (tick : Nat),
    let t := s.timing
    let s' := s.setNow (max s.now tick)
    let answered : Timing → Prop := fun t' => exec (.genlockPulse tick) s = .next (changeTiming t' s')
    (t.reference ≠ .genlock → exec (.genlockPulse tick) s = .next s') ∧
    (t.reference = .genlock → t.lock = .free ∨ t.lock = .holdover → answered { t with
      lock := .acquiring, settled := false, phaseError := 0, lastPulse := some tick, run := ⟨0, 0, 0⟩ }) ∧
    (∀ p, t.reference = .genlock → t.lock = .acquiring → t.lastPulse = some p →
      let interval := tick - p
      let inRange := 1000000 ≤ interval ∧ interval ≤ 4500000
      let near := t.run.count = 0 ∨ ((interval : Int) - t.run.first).natAbs ≤ t.period / 1024
      let run : PulseRun := ⟨if t.run.count = 0 then interval else t.run.first, t.run.count + 1, t.run.sum + interval⟩
      (¬(inRange ∧ near) → answered { t with
        lastPulse := some tick, run := ⟨0, 0, 0⟩
        counters := { t.counters with invalidReferences := bump t.counters.invalidReferences } }) ∧
      (inRange → near → t.run.count ≠ 3 → answered { t with lastPulse := some tick, run := run }) ∧
      (inRange → near → t.run.count = 3 → 4000000 ≤ run.sum → run.sum < 18000004 →
        ∃ e : Int, PhaseOf e t.nextBoundary (tick + min t.phaseOffset (run.sum / 4 - 1)) (run.sum / 4) ∧
          answered { t with
            lock := .locked, run := run, lastPulse := some tick, period := run.sum / 4
            phaseError := e, settled := decide (e.natAbs ≤ 100)
            counters := { t.counters with locks := bump t.counters.locks } })) ∧
    ∀ p, t.reference = .genlock → t.lock = .locked → t.lastPulse = some p → InRange t.period →
      let interval := tick - p
      (¬(1000000 ≤ interval ∧ interval ≤ 4500000) → answered { t with
        counters := { t.counters with invalidReferences := bump t.counters.invalidReferences } }) ∧
      (1000000 ≤ interval → interval ≤ 4500000 →
        ∃ (e : Int) (period : Nat), (period : Int) = t.period + Int.tdiv ((interval : Int) - t.period) 16 ∧
          PhaseOf e t.nextBoundary (tick + min t.phaseOffset (period - 1)) period ∧
          answered { t with
            lastPulse := some tick, period := period, phaseError := e, settled := decide (e.natAbs ≤ 100) })

/-- What a lost reference does: a genlock acquisition 4,500,000 ticks after its last pulse, a genlock lock floor(3 × period
/ 2) ticks after its own, a mark acquisition and a mark lock at the hundredth boundary without a mark, and HOLDOVER at its
250th boundary (from R25, R28, R29, R30, R31; a boundary's count stands one short as the boundary comes, log entry 9). -/
def Obligations.LostReferencesTimeOut : Prop :=
  ∀ s : State,
    let t := s.timing
    let free : Timing := { t with
      lock := .free, settled := false, phaseError := 0
      lastPulse := none, run := ⟨0, 0, 0⟩, firstMark := none, lastMark := none, runMarks := 0, secondEstimate := 0
      counters := { t.counters with acquisitionTimeouts := bump t.counters.acquisitionTimeouts } }
    let holdover : Timing := { t with
      lock := .holdover, settled := false, phaseError := 0, holdoverCount := 0, referenceLost := true
      counters := { t.counters with holdoverEntries := bump t.counters.holdoverEntries } }
    (∀ p, t.reference = .genlock → t.lock = .acquiring → t.lastPulse = some p →
      exec .acquisitionTimeout s = .next (changeTiming free (s.setNow (max s.now (p + 4500000))))) ∧
    (∀ p, t.reference = .genlock → t.lock = .locked → t.lastPulse = some p →
      exec .referenceLost s = .next (changeTiming holdover (s.setNow (max s.now (p + 3 * t.period / 2))))) ∧
    (t.reference = .marks → t.lock = .acquiring → t.markWait = 99 →
      exec .marksAcquisitionTimeout s = .next (changeTiming free s)) ∧
    (t.reference = .marks → t.lock = .locked → t.markWait = 99 →
      exec .marksReferenceLost s = .next (changeTiming holdover s)) ∧
    (t.lock = .holdover → t.holdoverCount = 249 →
      exec .holdoverEnd s = .next (changeTiming { t with lock := .free, settled := false, phaseError := 0 } s))

/-- A boundary numbers the next interval, fixes its length from the period and the phase step, schedules the boundary after it
and makes its grid. A waiting time mark that names the boundary, or an earlier one, is taken: it numbers the interval, is
counted, and is told of where it renumbers; under MARKS it starts, extends, breaks off or completes an acquisition run, or
tracks a lock's period and phase. A boundary that brings the lock machine no mark counts its waiting on: under MARKS the
hundredth ends an acquisition or a lock, and the 250th in HOLDOVER ends it (from R19, R27, R29, R30, R31, R32, R33, R35; the
period that limits the phase step at a boundary that takes a mark, the window of a mark in LOCKED, and that the hundredth
boundary in LOCKED without a mark begins HOLDOVER with the plain period and no phase step, are the three choices of log entry
12). -/
def Obligations.BoundaryBeginsInterval : Prop :=
  ∀ (s : State) (gp : Tab 4 Bool) (order : CommitOrder), InRange s.timing.period →
    let x := s.timing
    let tb := x.nextBoundary
    let limit : Int := (x.period / 256 : Nat)
    let stepOf := fun t : Timing => if t.lock = .locked then max (-limit) (min t.phaseError limit) else 0
    let begun := fun t : Timing =>
      let length := ((x.period : Int) - stepOf t).toNat
      { t with
        length := length, nextBoundary := tb + length, phaseError := t.phaseError - stepOf t
        settled := if t.lock = .locked then decide ((t.phaseError - stepOf t).natAbs ≤ 100) else t.settled
        grid := gridOf length t.k, samples := gp }
    let becomes := fun t : Timing => ∃ u, exec (.frameBoundary gp order) s = .next u ∧ u.timing = begun t
    let waits := fun t : Timing =>
      let free : Timing := { t with
        lock := .free, settled := false, phaseError := 0
        lastPulse := none, run := ⟨0, 0, 0⟩, firstMark := none, lastMark := none, runMarks := 0, secondEstimate := 0
        counters := { t.counters with acquisitionTimeouts := bump t.counters.acquisitionTimeouts } }
      let holdover : Timing := { t with
        lock := .holdover, settled := false, phaseError := 0, holdoverCount := 0, referenceLost := true
        counters := { t.counters with holdoverEntries := bump t.counters.holdoverEntries } }
      (x.reference = .marks → x.lock = .acquiring → 99 ≤ x.markWait → becomes free) ∧
      (x.reference = .marks → x.lock = .locked → 99 ≤ x.markWait → becomes holdover) ∧
      (x.reference = .marks → x.lock = .acquiring ∨ x.lock = .locked → x.markWait < 99 →
        becomes { t with markWait := x.markWait + 1 }) ∧
      (x.lock = .holdover → 249 ≤ x.holdoverCount → becomes { t with lock := .free, settled := false, phaseError := 0 }) ∧
      (x.lock = .holdover → x.holdoverCount < 249 → becomes { t with holdoverCount := x.holdoverCount + 1 }) ∧
      (x.lock = .free ∨ (x.reference ≠ .marks ∧ x.lock ≠ .holdover) → becomes t)
    (takenMark s = none → waits { x with frame := x.frame + 1 }) ∧
    (∃ t, exec (.frameBoundary gp order) s = .next t ∧
      t.now = max s.now tb ∧ t.timing.samples = gp ∧ t.timing.nextBoundary = tb + t.timing.length ∧
      t.timing.grid = gridOf t.timing.length x.k ∧
      (s.intake.slot = none → t.timing.frame = x.frame + 1 ∧ t.timing.period = x.period ∧
        (t.timing.lock ≠ .locked → t.timing.length = x.period) ∧
        (t.timing.lock = .locked → t.timing = begun { x with frame := x.frame + 1, markWait := t.timing.markWait })) ∧
      ∀ m, s.intake.slot = some m → x.lock = .free → x.reference ≠ .marks →
        let instant := m.arrival + m.delay
        (instant ≤ tb + x.period / 2 → t.intake.slot = none ∧
          t.timing.frame = if instant + x.length / 2 < tb then m.frame + 1 else m.frame) ∧
        (tb + x.period / 2 < instant → t.intake.slot = some m ∧ t.timing.frame = x.frame + 1)) ∧
    ∀ m,
      let instant := m.arrival + m.delay
      let late : Bool := decide (instant + x.length / 2 < tb)
      let number := if late then m.frame + 1 else m.frame
      let renumbers : Bool := decide (number ≠ x.frame + 1)
      let counters := { x.counters with
        marksTaken := bump x.counters.marksTaken
        lateMarks := if late then bump x.counters.lateMarks else x.counters.lateMarks
        renumberings := if renumbers then bump x.counters.renumberings else x.counters.renumberings }
      let counted : Timing := { x with frame := number, counters := counters }
      (s.intake.slot = some m → (takenMark s = some m ↔ instant ≤ tb + ((x.period : Int) - stepOf x).toNat / 2)) ∧
      (takenMark s = some m →
        (∃ u, exec (.frameBoundary gp order) s = .next u ∧ u.intake.slot = none ∧ u.timing.frame = number ∧
          u.timing.counters.marksTaken = counters.marksTaken ∧ u.timing.counters.lateMarks = counters.lateMarks ∧
          u.timing.counters.renumberings = counters.renumberings ∧
          (renumbers = true → s.mgmt.mask.getLsbD EventKind.renumbered.code = true → s.mgmt.queue.length < 12 →
            ∃ more, u.mgmt.queue =
              s.mgmt.queue ++ [.event .renumbered (u32 (x.frame + 1).toNat ++ u32 number.toNat)] ++ more)) ∧
        (x.reference ≠ .marks → waits counted) ∧
        (x.reference = .marks →
          let began := fun c : TimingCounters => becomes { counted with
            lock := .acquiring, settled := false, phaseError := 0
            firstMark := some m, lastMark := some m, runMarks := 1, secondEstimate := 0, markWait := 0, counters := c }
          let invalid := { counters with invalidReferences := bump counters.invalidReferences }
          (x.lock = .free ∨ x.lock = .holdover → began counters) ∧
          ∀ last, x.lastMark = some last →
            let frames := (m.frame - last.frame).toInt
            let estimate : Int := ((instant : Int) - (last.arrival + last.delay : Nat)) / frames
            let valid := 1 ≤ frames ∧ 1000000 ≤ estimate ∧ estimate ≤ 4500000
            let near := (estimate - x.secondEstimate).natAbs ≤ x.period / 1024
            (x.lock = .acquiring → ¬valid → began invalid) ∧
            (x.lock = .acquiring → valid → x.runMarks ≤ 1 → becomes { counted with
              lastMark := some m, runMarks := 2, secondEstimate := estimate, markWait := 0 }) ∧
            (x.lock = .acquiring → valid → 1 < x.runMarks → ¬near → began invalid) ∧
            (∀ first, x.lock = .acquiring → valid → 1 < x.runMarks → near → x.firstMark = some first →
              let whole : Int :=
                ((instant : Int) - (first.arrival + first.delay : Nat)) / (m.frame - first.frame).toInt
              1000000 ≤ whole → whole ≤ 4500000 → ∃ (e : Int) (period : Nat), (period : Int) = whole ∧
                PhaseOf e tb instant period ∧ becomes { counted with
                  lock := .locked, lastMark := some m, runMarks := 3, markWait := 0
                  period := period, phaseError := e, settled := decide (e.natAbs ≤ 100)
                  counters := { counters with locks := bump counters.locks } }) ∧
            (x.lock = .locked → ¬valid → becomes { counted with
              lastMark := some m, markWait := 0, counters := invalid }) ∧
            (x.lock = .locked → valid → ∃ (e : Int) (period : Nat),
              (period : Int) = x.period + Int.tdiv (estimate - x.period) 16 ∧ PhaseOf e tb instant period ∧
              becomes { counted with
                lastMark := some m, markWait := 0
                period := period, phaseError := e, settled := decide (e.natAbs ≤ 100) })))

/-- The grid of an interval divides its length: the smallest power of two as prescale that brings N to at most 65535, N from
32768 to 65535, and a residual below one step of every period (from R33). -/
def Obligations.PwmGridDividesTheInterval : Prop :=
  ∀ length k : Nat, 996094 ≤ length → length ≤ 4517578 → 1 ≤ k → k ≤ 16 →
    GridSound (gridOf length k) length ∧
    ∀ p, p ∈ [1, 2, 4, 8, 16, 32, 64, 128] → p < (gridOf length k).p → 65535 < length / (k * p)

/-- What waits for a boundary comes into force there: settings, priorities, the light hold, pending Disables, the commit of
a take that is due; what the boundary clears is clear; an output not held shows its staged entry against the new N, a value as
its duty, a pair on its even and odd output as warm and cool part of one duty, no value as idle; and an ACTIVE port sends what
it still held and then its present marker, normal where the frame presented reached its tiles whole by it, or in a ring by one
of the two ports with neither broken (from R35, R54, R73, R75, R86, R91, R106, R112, R113, R132, R135, R159, R160, R161,
R171). -/
def Obligations.BoundaryBringsRequestsIntoForce : Prop :=
  ∀ (s : State) (gp : Tab 4 Bool) (order : CommitOrder),
    ∃ t, exec (.frameBoundary gp order) s = .next t ∧
      (∀ o, (t.drive.get o).requested = none ∧
        (t.drive.get o).inForce = (s.drive.get o).requested.getD (s.drive.get o).inForce ∧
        let duty := fun v : Nat => (v * t.timing.grid.n + 32767) / 65535
        let even := (s.drive.get (evenOutput o)).staged
        (s.canvas.lightOperator = true → (t.drive.get o).shown = (s.drive.get o).shown) ∧
        (s.canvas.lightOperator = false →
          (∀ intensity mix, even = .pair intensity mix →
            let warm := (duty intensity * (65535 - mix) + 32767) / 65535
            (t.drive.get o).shown = if o.val % 2 = 0 then .warm (duty intensity) warm else .cool (duty intensity) warm) ∧
          ((∀ intensity mix, even ≠ .pair intensity mix) →
            (∀ v, (s.drive.get o).staged = .value v → (t.drive.get o).shown = .duty (duty v)) ∧
            ((s.drive.get o).staged = .none → (t.drive.get o).shown = .idle)))) ∧
      (∀ k, (t.source k).request = none ∧ (t.source k).unitSeen = false ∧
        (t.source k).priority = (s.source k).request.getD (s.source k).priority) ∧
      t.merge.request0 = none ∧ t.merge.priority0 = s.merge.request0.getD s.merge.priority0 ∧
      (t.canvas.contact = true ↔ ∃ i, s.timing.functions.get i = .hold ∧ gp.get i = true) ∧
      t.canvas.lightHold = s.canvas.lightOperator ∧ isOpenRecord t = false ∧ t.canvas.assignedNow = false ∧
      (∀ p, (t.port p).disable = none ∧ (t.port p).unsent = [] ∧ (t.port p).broken = false ∧
        ((s.port p).disable ≠ none → (t.port p).state = .disabled)) ∧
      (∀ p, (t.fixturePort p).fifo = []) ∧
      (∀ r, s.banks.take = .pending r → 0 ≤ frameDiff t.timing.frame (r.frame - 1) → t.banks.aActive = !s.banks.aActive) ∧
      ((∀ r, s.banks.take = .pending r → frameDiff t.timing.frame (r.frame - 1) < 0) → t.banks.aActive = s.banks.aActive) ∧
      ∀ p,
        let whole := fun q : Fin 8 =>
          (s.port q).latch.choice ≠ none ∧ (s.port q).latch.pixelData = true ∧ (s.port q).broken = false
        let normal := isOpenRecord s = true ∧
          ((isRing t.activeBank p = false ∧ whole p) ∨
            (isRing t.activeBank p = true ∧ (whole (primaryOf p) ∨ whole (returnOf p)) ∧
              (s.port (primaryOf p)).broken = false ∧ (s.port (returnOf p)).broken = false))
        let k := (s.port p).counters
        let k' := (t.port p).counters
        ((s.port p).state ≠ .active → (t.port p).marker = none ∧
          k'.normalMarkers = k.normalMarkers ∧ k'.repeatMarkers = k.repeatMarkers) ∧
        ((s.port p).state = .active → normal → (t.port p).marker = some false ∧
          k'.normalMarkers = bump k.normalMarkers ∧ k'.repeatMarkers = k.repeatMarkers) ∧
        ((s.port p).state = .active → ¬normal → (t.port p).marker = some true ∧
          k'.normalMarkers = k.normalMarkers ∧ k'.repeatMarkers = bump k.repeatMarkers) ∧
        ∀ w, (s.port p).state = .active → (s.port p).width = some w → ∃ before after again half,
          (again = true ↔ ¬normal) ∧ (half = true ↔ ∃ d, (s.port p).latch.choice = some (d, .half)) ∧
          t.sent = before ++ ((s.port p).unsent.map fun g => .chain p w (.segment g)) ++
            [.chain p w (.present t.timing.frame again half)] ++ after

/-! ## Section 3: table banks and takes -/

/-- A table write that the stage lock and the Clone allow, whose elements fill its count inside the table, writes exactly the
elements it names into the staged bank and is answered with table, start and count; the active bank and every other table
stand (from R42; element layouts from Table 12-3). Start 0 and count 1 in the answers of Write Ring Flags and Write Canvas
Size are log entry 18's. -/
def Obligations.TableWritesStore : Prop :=
  ∀ (s : State) (tag : Byte) (start count : Nat) (elements : List Byte), hasRoom s = true → s.banks.take = .idle →
    s.banks.clone = none → 1 ≤ count →
    let stored := fun (c : Instr) (code : Byte) (table start count : Nat) (b : Bank) =>
      Answers (exec c s) (s.setBanks (if s.banks.aActive then { s.banks with bankB := b } else { s.banks with bankA := b }))
        (.answer tag code .ok (u8 table ++ u16 start ++ u16 count))
    let old := s.stagedBank
    let named := fun i : Nat => start ≤ i ∧ i < start + count
    (count ≤ 128 → start + count ≤ 256 → elements.length = count * 20 →
      ∃ tiles, stored (.writeTileEntries tag start count elements) Code.writeTileEntries 0 start count
          { old with tiles := tiles } ∧
        ∀ i, tiles.get i = if named i.val then tileOfBytes ((elements.drop ((i.val - start) * 20)).take 20)
          else old.tiles.get i) ∧
    (start + count ≤ 8 → elements.length = count →
      ∃ lengths, stored (.writeChainLengths tag start count elements) Code.writeChainLengths 1 start count
          { old with lengths := lengths } ∧
        ∀ i, lengths.get i = if named i.val then BitVec.ofNat 6 (byteAt elements (i.val - start))
          else old.lengths.get i) ∧
    (start + count ≤ 1024 → elements.length = count * 2 →
      ∃ curve, stored (.writeWallCurve tag start count elements) Code.writeWallCurve 4 start count
          { old with wallCurve := curve } ∧
        ∀ i, curve.get i = if named i.val then BitVec.ofNat 16 (wordAt elements ((i.val - start) * 2))
          else old.wallCurve.get i) ∧
    (start + count ≤ 1024 → elements.length = count * 2 →
      ∃ curve, stored (.writeLightCurve tag start count elements) Code.writeLightCurve 5 start count
          { old with lightCurve := curve } ∧
        ∀ i, curve.get i = if named i.val then BitVec.ofNat 16 (wordAt elements ((i.val - start) * 2))
          else old.lightCurve.get i) ∧
    (start + count ≤ 512 → elements.length = count * 9 →
      ∃ patch, stored (.writePatch tag start count elements) Code.writePatch 6 start count { old with patch := patch } ∧
        ∀ i, patch.get i = if named i.val then patchOfBytes ((elements.drop ((i.val - start) * 9)).take 9)
          else old.patch.get i) ∧
    (start + count ≤ 2 → elements.length = count * 2 →
      ∃ counts, stored (.writeSlotCounts tag start count elements) Code.writeSlotCounts 7 start count
          { old with slotCounts := counts } ∧
        ∀ i, counts.get i = if named i.val then BitVec.ofNat 9 (wordAt elements ((i.val - start) * 2))
          else old.slotCounts.get i) ∧
    (∀ flags, ∃ rings, stored (.writeRingFlags tag flags) Code.writeRingFlags 2 0 1 { old with rings := rings } ∧
      ∀ k, rings.get k = flags.testBit k.val) ∧
    ∀ width height, stored (.writeCanvasSize tag width height) Code.writeCanvasSize 3 0 1
      { old with canvasW := BitVec.ofNat 14 width, canvasH := BitVec.ofNat 13 height }

/-- A table write is turned away whole, in this order: MALFORMED where its elements do not fill its count, STAGE_LOCKED while
a take stands, BANK_BUSY during a Clone, OUT_OF_RANGE where it leaves its table; Write Ring Flags and Write Canvas Size, whose
values all pass, by a take and by a Clone alone (from R42, R47, R175, Table 3-3). -/
def Obligations.TableWritesAreRefused : Prop :=
  ∀ (s : State) (tag : Byte) (start count : Nat) (elements : List Byte), hasRoom s = true →
    (∀ w ∈ [(Instr.writeTileEntries tag start count elements, Code.writeTileEntries, 256, 128, 20),
        (.writeChainLengths tag start count elements, Code.writeChainLengths, 8, 8, 1),
        (.writeWallCurve tag start count elements, Code.writeWallCurve, 1024, 1024, 2),
        (.writeLightCurve tag start count elements, Code.writeLightCurve, 1024, 1024, 2),
        (.writePatch tag start count elements, Code.writePatch, 512, 512, 9),
        (.writeSlotCounts tag start count elements, Code.writeSlotCounts, 2, 2, 2)],
      let refused := fun r => Answers (exec w.1 s) s (.answer tag w.2.1 r [])
      let fits := elements.length = count * w.2.2.2.2
      (¬fits → Answers (exec w.1 s)
        (s.setMgmt { s.mgmt with
          counters := { s.mgmt.counters with malformedUnits := bump s.mgmt.counters.malformedUnits } })
        (.answer tag w.2.1 .malformed [])) ∧
      (fits → s.banks.take ≠ .idle → refused .stageLocked) ∧
      (fits → s.banks.take = .idle → s.banks.clone ≠ none → refused .bankBusy) ∧
      (fits → s.banks.take = .idle → s.banks.clone = none →
        w.2.2.1 ≤ start ∨ count = 0 ∨ w.2.2.2.1 < count ∨ w.2.2.1 < start + count → refused .outOfRange)) ∧
    ∀ flags width height,
      ∀ w ∈ [(Instr.writeRingFlags tag flags, Code.writeRingFlags),
          (.writeCanvasSize tag width height, Code.writeCanvasSize)],
        (s.banks.take ≠ .idle → Answers (exec w.1 s) s (.answer tag w.2 .stageLocked [])) ∧
        (s.banks.take = .idle → s.banks.clone ≠ none → Answers (exec w.1 s) s (.answer tag w.2 .bankBusy []))

/-- What is stored of a tile entry or a patch entry is what its bytes on the wire give back (Table 12-3, R43). -/
def Obligations.StoredEntriesSurviveTheWire : Prop :=
  (∀ e : TileEntry, e.bytes.length = 20 ∧ tileOfBytes e.bytes = e) ∧
    ∀ e : PatchEntry, e.bytes.length = 9 ∧ patchOfBytes e.bytes = e

/-- Read Table answers with the letter of the bank it read, the run and the stored values, and changes nothing but the
queue; it is refused in the order of its rule. The values of a run are those of its elements in ascending index, each laid out
as in a table write; the ring flags are the bits of one byte, and the canvas size is W and then H (from R42, R43, R184). -/
def Obligations.ReadTableShowsTheBank : Prop :=
  (∀ (b : Bank) (start count : Nat),
    let run := fun n : Nat => (List.finRange n).filter fun i => decide (start ≤ i.val) && decide (i.val < start + count)
    let shown := fun table : Nat => tableBytes b table start count
    shown 0 = ((run 256).flatMap fun i => (b.tiles.get i).bytes) ∧
    shown 1 = ((run 8).flatMap fun i => u8 (b.lengths.get i).toNat) ∧
    (∃ flags : Byte, shown 2 = [flags] ∧ flags.toNat < 16 ∧ ∀ k : Fin 4, flags.getLsbD k.val = b.rings.get k) ∧
    shown 3 = u16 b.canvasW.toNat ++ u16 b.canvasH.toNat ∧
    shown 4 = ((run 1024).flatMap fun i => u16 (b.wallCurve.get i).toNat) ∧
    shown 5 = ((run 1024).flatMap fun i => u16 (b.lightCurve.get i).toNat) ∧
    shown 6 = ((run 512).flatMap fun i => (b.patch.get i).bytes) ∧
    shown 7 = (run 2).flatMap fun i => u16 (b.slotCounts.get i).toNat) ∧
  ∀ (s : State) (tag : Byte) (bank table start count : Nat), hasRoom s = true →
    let c := Instr.readTable tag bank table start count
    let sizes := [(0, 256, 128), (1, 8, 8), (4, 1024, 1024), (5, 1024, 1024), (6, 512, 512), (7, 2, 2)]
    let inRange := table = 2 ∨ table = 3 ∨ ∃ z ∈ sizes, table = z.1 ∧ start < z.2.1 ∧ 1 ≤ count ∧ count ≤ z.2.2 ∧
      start + count ≤ z.2.1
    let run := if table = 2 ∨ table = 3 then (0, 1) else (start, count)
    (bank = 1 → s.banks.clone ≠ none → Answers (exec c s) s (.answer tag Code.readTable .bankBusy [])) ∧
    (¬(bank = 1 ∧ s.banks.clone ≠ none) → (1 < bank ∨ ¬inRange) →
      Answers (exec c s) s (.answer tag Code.readTable .outOfRange [])) ∧
    (bank = 0 → inRange → Answers (exec c s) s (.answer tag Code.readTable .ok
      (u8 (if s.banks.aActive then 0 else 1) ++ u8 table ++ u16 run.1 ++ u16 run.2 ++
        tableBytes s.activeBank table run.1 run.2))) ∧
    (bank = 1 → s.banks.clone = none → inRange → Answers (exec c s) s (.answer tag Code.readTable .ok
      (u8 (if s.banks.aActive then 1 else 0) ++ u8 table ++ u16 run.1 ++ u16 run.2 ++
        tableBytes s.stagedBank table run.1 run.2)))

/-- Clone reserves its answer and takes nothing else; when it ends, the staged bank is the active bank's copy and the answer
takes the reserved room; it is refused under a take and during another Clone (from R44, R176). -/
def Obligations.CloneCopiesTheActiveBank : Prop :=
  ∀ (s : State) (tag : Byte),
    (hasRoom s = true → s.banks.take = .idle → s.banks.clone = none →
      Reserves (exec (.clone tag) s) (s.setBanks { s.banks with clone := some tag })) ∧
    (hasRoom s = true → s.banks.take ≠ .idle →
      Answers (exec (.clone tag) s) s (.answer tag Code.clone .stageLocked [])) ∧
    (hasRoom s = true → s.banks.take = .idle → s.banks.clone ≠ none →
      Answers (exec (.clone tag) s) s (.answer tag Code.clone .busy [])) ∧
    (s.banks.clone = some tag →
      AnswersReserved (exec .cloneComplete s)
        (s.setBanks { s.banks with
          clone := none
          bankA := if s.banks.aActive then s.banks.bankA else s.banks.bankB
          bankB := if s.banks.aActive then s.banks.bankA else s.banks.bankB
          counters := { s.banks.counters with clones := bump s.banks.counters.clones } })
        (.answer tag Code.clone .ok (if s.banks.aActive then u8 0 ++ u8 1 else u8 1 ++ u8 0)))

/-- Take and Cancel Take in the order of their tests: a take for a frame 2 to 65536 ahead, or "next", is accepted and
locks the stage; a cancelled take leaves IDLE and its frame in the answer (from R46, R47, R57). -/
def Obligations.TakesAreAcceptedAndCancelled : Prop :=
  ∀ (s : State) (tag : Byte) (request frame : Nat), hasRoom s = true →
    let f : FrameNo := if request = 1 then s.timing.frame + 2 else BitVec.ofNat 32 frame
    let ahead := (f - s.timing.frame).toInt
    let refused := fun r => Answers (exec (.take tag request frame) s) s (.answer tag Code.take r [])
    let free := s.banks.take = .idle ∧ s.banks.clone = none
    (s.banks.take ≠ .idle → refused .busy) ∧
    (s.banks.take = .idle → s.banks.clone ≠ none → refused .bankBusy) ∧
    (free → 1 < request → refused .outOfRange) ∧
    (free → request = 0 → ahead ≤ 1 → refused .tooLate) ∧
    (free → request = 0 → 65536 < ahead → refused .outOfRange) ∧
    (free → request = 1 ∨ (request = 0 ∧ 2 ≤ ahead ∧ ahead ≤ 65536) →
      Answers (exec (.take tag request frame) s)
        (s.setBanks { s.banks with
          take := .validating ⟨f, .command tag⟩
          counters := { s.banks.counters with takesAccepted := bump s.banks.counters.takesAccepted } })
        (.answer tag Code.take .ok (u32 f.toNat))) ∧
    (s.banks.take = .idle → Answers (exec (.cancelTake tag) s) s (.answer tag Code.cancelTake .nothingPending [])) ∧
    ∀ r, s.banks.take = .validating r ∨ s.banks.take = .pending r →
      Answers (exec (.cancelTake tag) s)
        (s.setBanks { s.banks with
          take := .idle, last := .cancelled
          counters := { s.banks.counters with takesCancelled := bump s.banks.counters.takesCancelled } })
        (.answer tag Code.cancelTake .ok (u32 r.frame.toNat))

/-- Validation ends PENDING or IDLE with TAKE_FAILED; a PENDING take commits at the first boundary from F − 1 on, exchanging
the banks and reporting TAKE_DONE; a request of a contact or a cue is accepted or fails; the contact inputs whose samples rise
at a boundary request takes in ascending number, and the first of them is the take that stands after a boundary that found
none (from R35, R48, R54, R55, R56, R58, R60). The codes of the failed check and of its table in TAKE_FAILED are log entry
18's. -/
def Obligations.TakesValidateAndCommit : Prop :=
  ∀ s : State,
    (∀ r, s.banks.take = .validating r → validate s.stagedBank = none →
      exec .validationEnd s = .next (s.setBanks { s.banks with take := .pending r })) ∧
    (∀ r f, s.banks.take = .validating r → validate s.stagedBank = some f →
      exec .validationEnd s = .next (offer .takeFailed
        (originBytes r.origin ++ u32 r.frame.toNat ++ (u8 0 ++ u8 f.check.code ++ u8 f.check.table ++ u16 f.index))
        (s.setBanks { s.banks with
          take := .idle, last := .failed (.validation f), takeFailed := true
          counters := { s.banks.counters with validationsFailed := bump s.banks.counters.validationsFailed } }))) ∧
    (∀ r, s.banks.take = .pending r →
      let m := s.timing.frame
      let late := decide (0 < (m + 1 - r.frame).toInt)
      (0 ≤ (m - (r.frame - 1)).toInt →
        takeBoundary s = offer .takeDone
          (originBytes r.origin ++ u32 r.frame.toNat ++ u32 (m + 1).toNat ++ flag late ++
            u8 (if s.banks.aActive then 1 else 0))
          (s.setBanks { s.banks with
            aActive := !s.banks.aActive, take := .idle, last := .committed (m + 1) late
            lateTake := s.banks.lateTake || late
            counters := { s.banks.counters with
              takesCommitted := bump s.banks.counters.takesCommitted
              lateTakes := bumpIf late s.banks.counters.lateTakes } })) ∧
      ((m - (r.frame - 1)).toInt < 0 → takeBoundary s = s)) ∧
    (∀ (f : FrameNo) (origin : TakeOrigin),
      (s.banks.take = .idle → s.banks.clone = none →
        (requestTake f origin s).banks.take = .validating ⟨f, origin⟩ ∧ (requestTake f origin s).mgmt = s.mgmt) ∧
      (s.banks.take ≠ .idle →
        (requestTake f origin s).banks.take = s.banks.take ∧
          (requestTake f origin s).mgmt = s.mgmt.offer .takeFailed (originBytes origin ++ u32 f.toNat ++ u8 1)) ∧
      (s.banks.take = .idle → s.banks.clone ≠ none →
        (requestTake f origin s).banks.take = .idle ∧
          (requestTake f origin s).mgmt = s.mgmt.offer .takeFailed (originBytes origin ++ u32 f.toNat ++ u8 2))) ∧
    ∀ gp : Tab 4 Bool,
      let askers := (List.finRange 4).filter fun i =>
        decide (s.timing.functions.get i = .take) && gp.get i && !s.timing.samples.get i
      let failing := fun (reason : Nat) (m : Mgmt) (i : Fin 4) =>
        m.offer .takeFailed (originBytes (.contact i) ++ u32 (s.timing.frame + 2).toNat ++ u8 reason)
      let t := contactTakes gp s
      (askers = [] → t = s) ∧
      (s.banks.take ≠ .idle → t.banks.take = s.banks.take ∧ t.mgmt = askers.foldl (failing 1) s.mgmt) ∧
      (s.banks.take = .idle → s.banks.clone ≠ none → t.banks.take = .idle ∧ t.mgmt = askers.foldl (failing 2) s.mgmt) ∧
      ∀ i rest, s.banks.take = .idle → s.banks.clone = none → askers = i :: rest →
        t.banks.take = .validating ⟨s.timing.frame + 2, .contact i⟩ ∧ t.mgmt = rest.foldl (failing 1) s.mgmt ∧
        (s.cue.state = .idle → (∀ j, s.timing.functions.get j ≠ .go) → ∀ order : CommitOrder,
          ∃ u, exec (.frameBoundary gp order) s = .next u ∧
            u.banks.take = .validating ⟨u.timing.frame + 2, .contact i⟩)

/-- R52: the curves are examined wall first and then light, and each fails at its first entry below the one before it;
equal neighbours pass, whatever the first and last entries hold. -/
def Obligations.CurvesMustNotFall : Prop :=
  let falls := fun (t : Tab 1024 Level) (i : Fin 1024) => ∃ j : Fin 1024, j.val + 1 = i.val ∧ (t.get i).toNat < (t.get j).toNat
  let firstFall := fun (t : Tab 1024 Level) (i : Fin 1024) => falls t i ∧ ∀ j, j < i → ¬falls t j
  let rises := fun t : Tab 1024 Level => ∀ i, ¬falls t i
  ∀ b : Bank,
    (∀ check t, (rises t → checkCurve check t = none) ∧ ∀ i, firstFall t i → checkCurve check t = some ⟨check, i.val⟩) ∧
    ((checkCanvas b).isNone → (checkLengths b).isNone → (checkSlots b).isNone → (checkTiles b).isNone →
      (checkRings b).isNone →
      (∀ i, firstFall b.wallCurve i → validate b = some ⟨.wallCurve, i.val⟩) ∧
      (∀ i, rises b.wallCurve → firstFall b.lightCurve i → validate b = some ⟨.lightCurve, i.val⟩) ∧
      (rises b.wallCurve → rises b.lightCurve → validate b = checkPatch b))

/-- A bank passes validation just where it meets every test of Table 3-7; then no two valid tile entries share chain and
position, and no two patch entries share a target (from R49, R50, R51, R52, R53, R55). -/
def Obligations.ValidationAdmitsSoundBanks : Prop :=
  ∀ b : Bank,
    (validate b = none ↔
      (1 ≤ b.canvasW.toNat ∧ b.canvasW.toNat ≤ 8192 ∧ 1 ≤ b.canvasH.toNat ∧ b.canvasH.toNat ≤ 4096) ∧
      (∀ c, (b.lengths.get c).toNat ≤ 32) ∧ (∀ p, (b.slotCounts.get p).toNat ≤ 384) ∧
      (∀ i, (b.tiles.get i).valid = true →
        let e := b.tiles.get i
        let turned := e.rotation.val % 2 = 1
        (1 ≤ e.w.toNat ∧ e.w.toNat ≤ 256 ∧ 1 ≤ e.h.toNat ∧ e.h.toNat ≤ 256) ∧
        e.x.toNat + (if turned then e.h.toNat else e.w.toNat) ≤ b.canvasW.toNat ∧
        e.y.toNat + (if turned then e.w.toNat else e.h.toNat) ≤ b.canvasH.toNat ∧
        e.position.val < (b.lengths.get e.chain).toNat ∧
        e.gainR.toNat ≤ 4096 ∧ e.gainG.toNat ≤ 4096 ∧ e.gainB.toNat ≤ 4096 ∧
        ∀ j, j ≠ i → (b.tiles.get j).valid = true → (b.tiles.get j).chain = e.chain →
          (b.tiles.get j).position ≠ e.position) ∧
      (∀ (k : Fin 4) (c : Fin 8), c.val = 2 * k.val + 1 → b.rings.get k = true →
        b.lengths.get c = 0 ∧ ∀ i, (b.tiles.get i).valid = true → (b.tiles.get i).chain ≠ c) ∧
      (∀ i j : Fin 1024, i.val + 1 = j.val → (b.wallCurve.get i).toNat ≤ (b.wallCurve.get j).toNat ∧
        (b.lightCurve.get i).toNat ≤ (b.lightCurve.get j).toNat) ∧
      ∀ i, let e := b.patch.get i
        e.kind.val ≤ 5 ∧ e.curve.val ≤ 2 ∧ e.trim.toNat ≤ 4096 ∧
        (e.kind = 2 → e.slot.toNat < (b.slotCounts.get e.port).toNat) ∧
        (e.kind = 3 → e.slot.toNat + 1 < (b.slotCounts.get e.port).toNat) ∧ (e.kind = 4 → e.mask ≠ 0) ∧
        ∀ j, j ≠ i → SameTarget e (b.patch.get j) = false)

/-! ## Section 4: the Level Path -/

/-- R64: the chain master of a chain is floor((m + 8) / 16) of the merged level of the channel whose wall-master mask names
it, and 4096 where no mask does; every boundary fixes it for its interval from its own look and the bank active at it. In an
active bank at most one mask names a chain (R53). -/
def Obligations.ChainMasterFollowsItsChannel : Prop :=
  ∀ (s : State) (c : Fin 8),
    let names := fun ch : Fin 512 =>
      (s.activeBank.patch.get ch).kind = 4 ∧ (s.activeBank.patch.get ch).mask.getLsbD c.val = true
    (∀ ch, validate s.activeBank = none → names ch → wallMasterChannel s.activeBank c = some ch ∧
      chainMaster s c = ((s.merge.look.get ch).level.toNat + 8) / 16) ∧
    ((∀ ch, ¬names ch) → wallMasterChannel s.activeBank c = none ∧ chainMaster s c = 4096) ∧
    ∀ (t : State) (gp : Tab 4 Bool) (order : CommitOrder), exec (.frameBoundary gp order) s = .next t →
      (t.level.gains.get c).master = chainMaster t c

/-- R70: the default light curve gives y = m up to 65,504 and m − 1 above it, 65,534 at full level; a table that holds 65535
in entry 1023 gives 65535 throughout the last segment. -/
def Obligations.DefaultLightCurve : Prop :=
  (∀ b : Bank, (∀ i, (b.lightCurve.get i).toNat = 64 * i.val) →
    (∀ m, m ≤ 65504 → tableCurve b m = m) ∧ (∀ m, 65505 ≤ m → m ≤ 65535 → tableCurve b m = m - 1) ∧
      tableCurve b 65535 = 65534) ∧
  ∀ b : Bank, b.lightCurve.get ⟨1023, by decide⟩ = 65535 → ∀ m, 65472 ≤ m → m ≤ 65535 → tableCurve b m = 65535

/-- The Level Path stage by stage: a wall code is read in the wall curve and scaled by tile gain, chain master and limiter
gain, each rounded half up, and reduced to its depth; a level passes the curve its entry names, the trim and the grand master,
and becomes a duty, a warm part or a slot value. No stage brightens: each gain leaves at most what it was given, unity leaves
it, samples fit their depth, duties fit N with full level giving N, and a pair's parts add up to its duty. And what a boundary's
evaluation hands on: GM, to each output the light value of the channel that drives it, to the even output of a pair its
intensity and mix, and into each fixture slot the bytes of the channel patched there, 0 into a slot no channel occupies (from
R65, R67, R68, R69, R71, R73, R74, R75). -/
def Obligations.LevelPathNeverBrightens : Prop :=
  let scaled := fun value gain : Nat => (value * gain + 2048) / 4096
  (∀ (b : Bank) (gain : Nat) (g : WallGain) (code : BitVec 10),
    (∀ i : Fin 1024, i.val = code.toNat → wallCurveValue b code = (b.wallCurve.get i).toNat) ∧
    wallTileValue b gain code = scaled (wallCurveValue b code) gain ∧
    wallMasterValue b gain g code = scaled (wallTileValue b gain code) g.master ∧
    wallLimitedValue b gain g code = scaled (wallMasterValue b gain g code) g.limiter) ∧
  (∀ w, reduceDepth 16 w = w ∧
    ∀ d ∈ [12, 10, 8], reduceDepth d w = min ((w + 2 ^ (15 - d)) / 2 ^ (16 - d)) (2 ^ d - 1)) ∧
  (∀ (b : Bank) (e : PatchEntry) (m gm : Nat),
    (e.curve = 0 → curveValue b e m = m) ∧ (e.curve = 1 → curveValue b e m = (m * m + 32767) / 65535) ∧
    (∀ (i : Fin 1024) (f next : Nat), e.curve = 2 → f < 64 → m = 64 * i.val + f →
      (i.val = 1023 → next = 65535) → (∀ j : Fin 1024, j.val = i.val + 1 → next = (b.lightCurve.get j).toNat) →
      (b.lightCurve.get i).toNat ≤ next →
      curveValue b e m = (b.lightCurve.get i).toNat + ((next - (b.lightCurve.get i).toNat) * f + 32) / 64) ∧
    lightValue b gm e m = scaled (scaled (curveValue b e m) e.trim.toNat) gm ∧
    (e.trim = 4096 → lightValue b 4096 e m = curveValue b e m)) ∧
  (∀ v n x : Nat, dutyOf v n = (v * n + 32767) / 65535 ∧ warmDuty n x = (n * (65535 - x) + 32767) / 65535 ∧
    slot8Value v = (v * 255 + 32767) / 65535) ∧
  (∀ (b : Bank) (gain : Nat) (g : WallGain) (code : BitVec 10), gain ≤ 4096 → g.master ≤ 4096 → g.limiter ≤ 4096 →
    (wallLimitedValue b gain g code ≤ wallMasterValue b gain g code ∧
      wallMasterValue b gain g code ≤ wallTileValue b gain code ∧ wallTileValue b gain code ≤ wallCurveValue b code ∧
      wallCurveValue b code ≤ 65535 ∧ wallLimitedValue b 4096 ⟨4096, 4096⟩ code = wallCurveValue b code) ∧
    (∀ depth ∈ [8, 10, 12, 16], ∀ w ≤ 65535, reduceDepth depth w < 2 ^ depth ∧
      reduceDepth depth 65535 = 2 ^ depth - 1 ∧ ∀ w' ≤ w, reduceDepth depth w' ≤ reduceDepth depth w) ∧
    (∀ (e : PatchEntry) (m : Nat), m ≤ 65535 → e.trim.toNat ≤ 4096 →
      (∀ i j : Fin 1024, i ≤ j → (b.lightCurve.get i).toNat ≤ (b.lightCurve.get j).toNat) →
      lightValue b gain e m ≤ curveValue b e m ∧ curveValue b e m ≤ 65535) ∧
    ∀ v n x : Nat, v ≤ 65535 → x ≤ 65535 → dutyOf v n ≤ n ∧ dutyOf 65535 n = n ∧ dutyOf 0 n = 0 ∧
      warmDuty (dutyOf v n) x ≤ dutyOf v n ∧ warmDuty (dutyOf v n) 0 = dutyOf v n ∧
      warmDuty (dutyOf v n) 65535 = 0 ∧ slot8Value v ≤ 255 ∧ slot8Value 65535 = 255) ∧
  ∀ (s : State) (gp : Tab 4 Bool) (order : CommitOrder),
    ∃ t, exec (.frameBoundary gp order) s = .next t ∧ (validate t.activeBank = none →
      let entry := fun ch : Fin 512 => t.activeBank.patch.get ch
      let level := fun ch : Fin 512 => (t.merge.look.get ch).level.toNat
      let value := fun ch : Fin 512 => lightValue t.activeBank t.level.grandMaster (entry ch) (level ch)
      let drives := fun (o : Fin 16) (ch : Fin 512) => (entry ch).kind = 1 ∧ (entry ch).pwm = o
      (∀ ch, (entry ch).kind = 5 → t.level.grandMaster = (level ch + 8) / 16) ∧
      ((∀ ch, (entry ch).kind ≠ 5) → t.level.grandMaster = 4096) ∧
      (∀ o, (t.drive.get (evenOutput o)).inForce.pair = false →
        (∀ ch, drives o ch → (t.drive.get o).staged = .value (value ch)) ∧
        ((∀ ch, ¬drives o ch) → (t.drive.get o).staged = .none)) ∧
      (∀ o, (t.drive.get (evenOutput o)).inForce.pair = true →
        (o.val % 2 = 1 → (t.drive.get o).staged = .none) ∧
        (o.val % 2 = 0 → ∃ intensity mix, (t.drive.get o).staged = .pair intensity mix ∧
          (∀ ch, drives o ch → intensity = value ch) ∧ ((∀ ch, ¬drives o ch) → intensity = 0) ∧
          (∀ ch, drives (oddOutput o) ch → mix = level ch) ∧ ((∀ ch, ¬drives (oddOutput o) ch) → mix = 0))) ∧
      ∀ p, let slots := (t.fixturePort p).slots
        slots.length = (t.activeBank.slotCounts.get p).toNat ∧
        ∀ slot, slot < slots.length →
          let on := fun (kind : Fin 8) (first : Nat) (ch : Fin 512) =>
            (entry ch).kind = kind ∧ (entry ch).port = p ∧ (entry ch).slot.toNat = first
          (∀ ch, on 2 slot ch → slots[slot]? = some (BitVec.ofNat 8 ((value ch * 255 + 32767) / 65535))) ∧
          (∀ ch, on 3 slot ch → slots[slot]? = some (BitVec.ofNat 8 (value ch / 256))) ∧
          (∀ ch first, first + 1 = slot → on 3 first ch → slots[slot]? = some (BitVec.ofNat 8 (value ch))) ∧
          ((∀ ch, ¬on 2 slot ch ∧ ¬on 3 slot ch ∧ ∀ first, first + 1 = slot → ¬on 3 first ch) →
            slots[slot]? = some 0))

/-! ## Section 5: canvas intake, tile mapping, holds -/

/-- Hold and Release act on the causes their scope names and answer with the causes as they stand; an operator hold gives up
the OPEN frame, with the units of it that wait or are being mapped; the wall's events are offered as it goes between held and
not held; the auto cause is set at the second boundary without an assigned frame. A boundary brings the light hold, the auto
cause and the contact cause into force, and the hold events it offers are theirs, of which those join the queue that the mask
selects and that find room (from R83, R87, R88, R89, R90, R91, R92, R177; the row's own boundary count, log entry 9; that the
event of a Hold or a Release joins the queue before its answer, log entry 30; that at one boundary the light hold acts before
the auto cause and that before the contact cause, which decides the events of the wall where both change, log entry 7; the flag bytes of the wall causes in the answers, log
entry 18). -/
def Obligations.HoldsFollowTheirCauses : Prop :=
  ∀ (s : State) (tag : Byte),
    let c := s.canvas
    let body := fun c : Canvas => flag c.operator ++ flag c.contact ++ flag c.auto ++ flag c.lightOperator
    let event := fun cause : Nat => u8 0 ++ u8 cause ++ u32 s.timing.frame.toNat
    (hasRoom s = true → ∀ scope, 3 ≤ scope →
      Answers (exec (.hold tag scope) s) s (.answer tag Code.hold .outOfRange []) ∧
      Answers (exec (.release tag scope) s) s (.answer tag Code.release .outOfRange [])) ∧
    (hasRoom s = true →
      Answers (exec (.hold tag 1) s) (s.setCanvas { c with lightOperator := true })
        (.answer tag Code.hold .ok (body { c with lightOperator := true })) ∧
      Answers (exec (.release tag 1) s) (s.setCanvas { c with lightOperator := false })
        (.answer tag Code.release .ok (body { c with lightOperator := false }))) ∧
    (hasRoom s = true → ∀ light : Bool,
      let free := { c with operator := false, lightOperator := c.lightOperator && !light }
      let released := s.setCanvas free
      Answers (exec (.release tag (if light then 2 else 0)) s)
        (if c.operator = true ∧ c.contact = false ∧ c.auto = false then offer .holdLeft (event 0) released else released)
        (.answer tag Code.release .ok (body free)) ∧
      let caught := { c with operator := true, lightOperator := c.lightOperator || light }
      ∃ held, Answers (exec (.hold tag (if light then 2 else 0)) s) held (.answer tag Code.hold .ok (body caught)) ∧
        isOpenRecord held = (isOpenRecord s && c.operator) ∧
        (c.operator = true ∨ isOpenRecord s = false → held = if wallHeld c then s.setCanvas caught
          else offer .holdEntered (event 0) (s.setCanvas caught)) ∧
        ∀ r, c.operator = false → c.record = some r → r.state = .isOpen →
          let mapping := c.engine.any fun job => job.unit.mark.isMapping
          let told := if wallHeld c then s else offer .holdEntered (event 0) s
          held = ((told.setCanvas { caught with
              record := some { r with state := .abandoned }
              engine := if mapping then none else c.engine
              counters := { c.counters with
                framesAbandoned := bump c.counters.framesAbandoned
                unassignedUnits := if mapping then bump c.counters.unassignedUnits else c.counters.unassignedUnits } }).setIntake
            { s.intake with buffer := s.intake.buffer.map fun u =>
                if u.mark.isMapping then { u with mark := .unassigned } else u }).setLimiter
            { s.limiter with accumulation := none }) ∧
    (c.assignedNow = false → c.auto = false → 1 ≤ c.autoCount →
      let s' := s.setCanvas { c with auto := true, autoCount := 2 }
      exec .autoHoldSet s = .next (if wallHeld c then s' else offer .holdEntered (event 2) s')) ∧
    ∀ (gp : Tab 4 Bool) (order : CommitOrder), ∃ (t : State) (new : List Report),
      exec (.frameBoundary gp order) s = .next t ∧ t.mgmt.queue = s.mgmt.queue ++ new ∧
      let due := !c.assignedNow && decide (1 ≤ c.autoCount)
      let auto := c.auto || due
      let on := decide (∃ i, s.timing.functions.get i = .hold ∧ gp.get i = true)
      let told := fun (scope cause : Nat) (entered : Bool) =>
        [Report.event (if entered then .holdEntered else .holdLeft) (u8 scope ++ u8 cause ++ u32 t.timing.frame.toNat)]
      let light := if c.lightHold = c.lightOperator then [] else told 1 0 c.lightOperator
      let own := if due ∧ wallHeld c = false then told 0 2 true else []
      let before := c.operator || c.contact || auto
      let after := c.operator || on || auto
      let contact := if before = after then [] else told 0 1 after
      t.canvas.operator = c.operator ∧ t.canvas.contact = on ∧ t.canvas.auto = auto ∧
      t.canvas.lightHold = c.lightOperator ∧ t.canvas.lightOperator = c.lightOperator ∧
      t.canvas.autoCount = (if c.assignedNow then c.autoCount else min 2 (c.autoCount + 1)) ∧
      (new.filter Report.isHold).Sublist (light ++ own ++ contact) ∧
      (s.mgmt.selects .holdEntered = true → s.mgmt.selects .holdLeft = true → t.mgmt.eventsLost = false →
        new.filter Report.isHold = light ++ own ++ contact)

/-- What the frame tracker makes of a picture unit with room in the buffer: of the OPEN frame it is tested against canvas and
order and marked for mapping with its kept pixels, of another record it is marked for discard; a unit with a new number
begins a frame, OPEN in the running interval or UNASSIGNED under a hold, and is tested as its first unit; without room it is a
loss, which damages the OPEN frame of its number or begins a frame that is damaged (from R13, R78, R79, R80, R81, R82). -/
def Obligations.PictureUnitsAreTracked : Prop :=
  ∀ (s : State) (tick : Nat) (payload : List Byte) (crc : BitVec 32) (e : FilterEntry), Classified s payload crc e →
    e.cls = .picture → 1 ≤ wordAt payload 6 → wordAt payload 6 ≤ 2040 → payload.length = 8 + 4 * wordAt payload 6 →
    let u := pictureOfPayload payload
    let c := s.canvas
    let wide := s.activeBank.canvasW.toNat
    let high := s.activeBank.canvasH.toNat
    let stop := u.first + wordAt payload 6
    let s' := s.setNow (max s.now tick)
    let lost := { s.intake with
      framer := .hunt false
      counters := { s.intake.counters with bufferOverflows := bump s.intake.counters.bufferOverflows } }
    let joined := fun (mark : UnitMark) (canvas : Canvas) =>
      exec (.unitReceived tick payload crc) s = .next ((s'.setCanvas canvas).setIntake { s.intake with
        framer := .hunt false, buffer := s.intake.buffer ++ [⟨u, mark⟩]
        counters := { s.intake.counters with pictureUnits := bump s.intake.counters.pictureUnits } })
    let held := c.operator = true ∨ c.contact = true
    let begun := fun t : State =>
      t.canvas.auto = false ∧ t.canvas.autoCount = 0 ∧ t.canvas.assignedNow = true ∧
      t.limiter.accumulation = some (s.activeBank.tiles.map fun x => ⟨0, 0, x.rated.toNat⟩) ∧
      t.canvas.counters.framesAssigned = bump c.counters.framesAssigned ∧
      t.canvas.counters.framesSuperseded =
        (if isOpenRecord s then bump c.counters.framesSuperseded else c.counters.framesSuperseded) ∧
      t.mgmt = if c.auto then s.mgmt.offer .holdLeft (u8 0 ++ u8 2 ++ u32 s.timing.frame.toNat) else s.mgmt
    u.pixels.length = wordAt payload 6 ∧
    (∀ r, s.intake.buffer.length < 8 → c.record = some r → r.number = u.frame →
      (r.state = .closed → joined .discard { c with
        counters := { c.counters with lateUnits := bump c.counters.lateUnits } }) ∧
      (r.state = .abandoned ∨ r.state = .unassigned → joined .discard { c with
        counters := { c.counters with unassignedUnits := bump c.counters.unassignedUnits } }) ∧
      (r.state = .isOpen → high ≤ u.line ∨ wide ≤ u.first → joined .discard { c with
        counters := { c.counters with outsideCanvasUnits := bump c.counters.outsideCanvasUnits } }) ∧
      (r.state = .isOpen → u.line < high → u.first < wide →
        (∃ l, r.lastLine = some l ∧ (u.line < l ∨ (u.line = l ∧ u.first < r.lastEnd))) → joined .discard { c with
        counters := { c.counters with outOfOrderUnits := bump c.counters.outOfOrderUnits } }) ∧
      (r.state = .isOpen → u.line < high → u.first < wide →
        (∀ l, r.lastLine = some l → l < u.line ∨ (u.line = l ∧ r.lastEnd ≤ u.first)) →
        joined (.mapping (min stop wide - u.first)) { c with
          record := some { r with lastLine := some u.line, lastEnd := stop }
          counters := { c.counters with
            clippedUnits := if wide < stop then bump c.counters.clippedUnits else c.counters.clippedUnits } })) ∧
    (s.intake.buffer.length < 8 → beginsFrame s u.frame = true → isOpenRecord s = false → held →
      joined .discard { c with
        record := some ⟨u.frame, .unassigned, none, none, 0, [], false⟩
        counters := { c.counters with unassignedUnits := bump c.counters.unassignedUnits } }) ∧
    (s.intake.buffer.length < 8 → beginsFrame s u.frame = true → ¬held → u.line < high → u.first < wide →
      ∃ t, exec (.unitReceived tick payload crc) s = .next t ∧
        t.canvas.record = some ⟨u.frame, .isOpen, some s.timing.frame, some u.line, stop, [], false⟩ ∧
        t.intake.buffer.getLast? = some ⟨u, .mapping (min stop wide - u.first)⟩ ∧
        t.intake.buffer.length = s.intake.buffer.length + 1 ∧ begun t) ∧
    (s.intake.buffer.length < 8 → beginsFrame s u.frame = true → ¬held → high ≤ u.line ∨ wide ≤ u.first →
      ∃ t, exec (.unitReceived tick payload crc) s = .next t ∧
        t.canvas.record = some ⟨u.frame, .isOpen, some s.timing.frame, none, 0, [], false⟩ ∧
        t.intake.buffer.getLast? = some ⟨u, .discard⟩ ∧
        t.intake.buffer.length = s.intake.buffer.length + 1 ∧ begun t ∧
        t.canvas.counters.outsideCanvasUnits = bump c.counters.outsideCanvasUnits) ∧
    (∀ r, 8 ≤ s.intake.buffer.length → c.record = some r → r.number = u.frame →
      exec (.unitReceived tick payload crc) s = .next ((s'.setCanvas { c with
        record := some { r with damaged := r.damaged || decide (r.state = .isOpen) } }).setIntake lost)) ∧
    (8 ≤ s.intake.buffer.length → beginsFrame s u.frame = true → isOpenRecord s = false → held →
      exec (.unitReceived tick payload crc) s = .next ((s'.setCanvas { c with
        record := some ⟨u.frame, .unassigned, none, none, 0, [], false⟩ }).setIntake lost)) ∧
    (8 ≤ s.intake.buffer.length → beginsFrame s u.frame = true → ¬held →
      ∃ t, exec (.unitReceived tick payload crc) s = .next t ∧
        t.canvas.record = some ⟨u.frame, .isOpen, some s.timing.frame, none, 0, [], true⟩ ∧
        t.intake.buffer.length = s.intake.buffer.length ∧ t.intake.counters = lost.counters ∧ begun t)

/-- The mapping engine takes the head unit for 8 ticks, or 8 + ceil(p / 8) of them with p kept pixels; a unit it maps hands
its segments in order to their ports and every pixel's value to its entry's sum, a first part of them, whose amount is free
(log entries 6 and 23), as it is taken and the rest at the end of those ticks; a unit it discards is counted there. At its end
a mapped unit maps its line; at the boundary an OPEN frame is presented, damaged where it is marked so or a line is missing: it
is closed and counted, its waiting units are marked late, and the one being mapped ends there as late; another record stands
(from R66, R83, R84, R85, R86, R112, R121). -/
def Obligations.MappingHandsOnTheFrame : Prop :=
  ∀ s : State,
    let values := fun x : Piece => (x.entry, x.values)
    (∀ u rest, s.canvas.engine = none → s.intake.buffer = u :: rest →
      ((∀ kept, u.mark ≠ .mapping kept) → exec .mappingUnitTake s =
        .next ((s.setIntake { s.intake with buffer := rest }).setCanvas
          { s.canvas with engine := some ⟨u, s.now + 8, 0, 0⟩ })) ∧
      ∀ kept, u.mark = .mapping kept →
        let pieces := piecesOf s u.picture kept
        ∃ (t : State) (ticks handed begun : Nat), exec .mappingUnitTake s = .next t ∧
          8 * (ticks - 8) < kept + 8 ∧ kept ≤ 8 * (ticks - 8) ∧ 8 ≤ ticks ∧
          t.intake = { s.intake with buffer := rest } ∧ t.now = s.now ∧
          t.canvas = { s.canvas with engine := some ⟨u, s.now + ticks, handed, begun⟩ } ∧
          handed ≤ pieces.length ∧ begun ≤ ((pieces[handed]?).elim 0 fun x => x.values.length) ∧
          HandedOn s t (pieces.take handed) ((pieces.take handed).map values ++
            (pieces[handed]?).elim [] fun x => [(x.entry, x.values.take begun)])) ∧
    (∀ u due handed begun, s.canvas.engine = some ⟨u, due, handed, begun⟩ →
      let idle := { s.canvas with engine := none }
      let k := s.canvas.counters
      let ends := fun c : Canvas => exec .mappingUnitEnd s = .next ((s.setNow (max s.now due)).setCanvas c)
      (u.mark = .discard → ends idle) ∧
      (u.mark = .late → ends { idle with counters := { k with lateUnits := bump k.lateUnits } }) ∧
      (u.mark = .unassigned → ends { idle with counters := { k with unassignedUnits := bump k.unassignedUnits } }) ∧
      ∀ kept r, u.mark = .mapping kept → s.canvas.record = some r → r.state = .isOpen →
        let pieces := piecesOf s u.picture kept
        ∃ (t : State) (lines : List Nat), exec .mappingUnitEnd s = .next t ∧
          t.now = max s.now due ∧ t.canvas = { idle with record := some { r with lines := lines } } ∧
          (∀ y, y ∈ lines ↔ y = u.picture.line ∨ y ∈ r.lines) ∧
          HandedOn s t (pieces.drop handed) (match pieces.drop handed with
            | [] => []
            | x :: rest => (x.entry, x.values.drop begun) :: rest.map values)) ∧
    (∀ r, s.canvas.record = some r → r.state = .isOpen →
      let hurt := r.damaged = true ∨ ∃ y, y < s.activeBank.canvasH.toNat ∧ y ∉ r.lines
      (presentFrame s).canvas.record = some { r with state := .closed } ∧
      (presentFrame s).canvas.notice = some ⟨r.number, r.assigned.getD 0⟩ ∧
      (presentFrame s).canvas.counters.framesPresented = bump s.canvas.counters.framesPresented ∧
      (hurt → (presentFrame s).canvas.frameDamaged = true ∧
        (presentFrame s).canvas.counters.framesDamaged = bump s.canvas.counters.framesDamaged) ∧
      (¬hurt → (presentFrame s).canvas.frameDamaged = s.canvas.frameDamaged ∧
        (presentFrame s).canvas.counters.framesDamaged = s.canvas.counters.framesDamaged)) ∧
    (isOpenRecord s = false → presentFrame s = s.setCanvas { s.canvas with notice := none }) ∧
    ∀ (gp : Tab 4 Bool) (order : CommitOrder), ∃ t, exec (.frameBoundary gp order) s = .next t ∧
      let c := s.canvas
      (isOpenRecord s = false → t.canvas.record = c.record ∧ t.canvas.notice = none ∧ t.canvas.engine = c.engine ∧
        t.canvas.frameDamaged = c.frameDamaged ∧ t.canvas.counters = c.counters ∧ t.intake.buffer = s.intake.buffer) ∧
      ∀ r, c.record = some r → r.state = .isOpen →
        let hurt := r.damaged = true ∨ ∃ y, y < s.activeBank.canvasH.toNat ∧ y ∉ r.lines
        let late := c.engine.any fun job => job.unit.mark.isMapping
        let presents := fun damaged : Bool =>
          t.canvas.frameDamaged = (c.frameDamaged || damaged) ∧ t.canvas.counters = { c.counters with
            framesPresented := bump c.counters.framesPresented
            framesDamaged := if damaged then bump c.counters.framesDamaged else c.counters.framesDamaged
            lateUnits := if late then bump c.counters.lateUnits else c.counters.lateUnits }
        t.canvas.record = some { r with state := .closed } ∧ t.canvas.notice = some ⟨r.number, r.assigned.getD 0⟩ ∧
        t.canvas.engine = (if late then none else c.engine) ∧ t.limiter.accumulation = none ∧
        t.intake.buffer = (s.intake.buffer.map fun u => if u.mark.isMapping then { u with mark := .late } else u) ∧
        (hurt → presents true) ∧ (¬hurt → presents false)

/-- Every segment lies inside its tile at the tile's rotation: its index below the tile's rows or columns, its run inside
the other side, three samples for each pixel, each within the depth; and it stands for the overlap of the unit's kept pixels
with the footprint. Its index is the row or column of the line, its start the smallest column or row among its pixels, and its
samples are those of its pixels in falling order of x at 180° and 90° and in rising order at 0° and 270°; it goes to the port
that feeds the tile, at its position there and the depth of that port. An entry gives a segment just where it is valid, its
tile is fed, its footprint holds the line and a kept pixel lies in its columns, one segment and no more; and a unit's segments
are those of its entries in ascending index (from R84, R85, R65, R66, R67, Table 5-4). -/
def Obligations.SegmentsStayInTheirTile : Prop :=
  (∀ (s : State) (u : PictureUnit) (kept : Nat),
    (∀ i : Fin 256,
      let e := s.activeBank.tiles.get i
      let turned := e.rotation.val % 2 = 1
      let width := if turned then e.h.toNat else e.w.toNat
      let height := if turned then e.w.toNat else e.h.toNat
      (∃ x, pieceFor s u kept i = some x) ↔
        e.valid = true ∧
        (∃ p, (s.port p).latch.pixelData = true ∧ ∃ r ∈ (s.port p).latch.reached, r.entry = i) ∧
        e.y.toNat ≤ u.line ∧ u.line < e.y.toNat + height ∧
        ∃ column, u.first ≤ column ∧ column < u.first + kept ∧ e.x.toNat ≤ column ∧ column < e.x.toNat + width) ∧
    (∀ x, x ∈ piecesOf s u kept ↔ ∃ i, pieceFor s u kept i = some x) ∧
    (piecesOf s u kept).Pairwise fun x y => x.entry < y.entry) ∧
  ∀ (s : State) (u : PictureUnit) (kept : Nat) (i : Fin 256) (x : Piece),
    pieceFor s u kept i = some x →
    (∀ c, (s.level.gains.get c).master ≤ 4096 ∧ (s.level.gains.get c).limiter ≤ 4096) →
    validate s.activeBank = none → x.segment.depth ∈ [8, 10, 12, 16] →
    let e := s.activeBank.tiles.get i
    let g := x.segment
    x.entry = i ∧ e.valid = true ∧ 1 ≤ g.count ∧
    (g.column = true ↔ e.rotation.val % 2 = 1) ∧
    (g.column = false → g.index < e.h.toNat ∧ g.start + g.count ≤ e.w.toNat) ∧
    (g.column = true → g.index < e.w.toNat ∧ g.start + g.count ≤ e.h.toNat) ∧
    g.samples.length = 3 * g.count ∧ x.values.length = g.count ∧ (∀ v ∈ g.samples, v < 2 ^ g.depth) ∧
    g.count + max u.first e.x.toNat = min (u.first + kept) (e.x.toNat + footprintW e) ∧
    (∃ r ∈ fedTiles (s.port x.port).latch, r.entry = i ∧ r.position = g.position) ∧
    (∀ d rate, (s.port x.port).latch.choice = some (d, rate) → g.depth = d) ∧
    let low := max u.first e.x.toNat
    let high := min (u.first + kept) (e.x.toNat + footprintW e)
    let v := u.line - e.y.toNat
    (e.rotation = 0 → g.index = v ∧ g.start = low - e.x.toNat) ∧
    (e.rotation = 1 → g.index = v ∧ g.start + (high - e.x.toNat) = e.h.toNat) ∧
    (e.rotation = 2 → g.index + v + 1 = e.h.toNat ∧ g.start + (high - e.x.toNat) = e.w.toNat) ∧
    (e.rotation = 3 → g.index + v + 1 = e.w.toNat ∧ g.start = low - e.x.toNat) ∧
    ∀ k, k < g.count →
      let column := if e.rotation = 1 ∨ e.rotation = 2 then high - 1 - k else low + k
      ∀ q, u.pixels[column - u.first]? = some q →
        let gains := s.level.gains.get e.chain
        let at16 := fun (gain : BitVec 13) (code : BitVec 10) => wallLimitedValue s.activeBank gain.toNat gains code
        let master := fun (gain : BitVec 13) (code : BitVec 10) => wallMasterValue s.activeBank gain.toNat gains code
        (g.samples.drop (3 * k)).take 3 =
          [reduceDepth g.depth (at16 e.gainR q.red), reduceDepth g.depth (at16 e.gainG q.green),
            reduceDepth g.depth (at16 e.gainB q.blue)] ∧
        x.values[k]? = some (master e.gainR q.red, master e.gainG q.green, master e.gainB q.blue)

/-! ## Section 6: chain ports -/

/-- A port is brought up and down: the partner's signal starts training at 4 lanes, an accepted exchange opens the census
window at its tick, the window's end sets the census to the unbroken run of hops and makes the port ACTIVE, and a lost partner
takes it down; an ACTIVE port then breaks its frame, with some first segments of those it held sent, a free number (log entry
6), and the rest dropped and counted. The window's end offers CENSUS_CHANGED where the census changes; a port that becomes
ACTIVE offers CHAIN_STATE, notes a narrowed width and sends its pending cap (from R97, R98, R100, R101, R104, R112, R114, R115,
R185; one pattern for each offer, a census from the hops of a window in whatever order they came, and CENSUS_CHANGED before the
CHAIN_STATE of the same tick are log entry 24's). -/
def Obligations.PortsTrainAndCount : Prop :=
  ∀ (s : State) (p : Fin 8),
    let x := s.port p
    let event := fun (before after : PortState) (width : Option Lanes) (cause : Nat) =>
      u8 p.val ++ u8 before.code ++ u8 after.code ++ lanesBytes width ++ u8 cause
    (x.state = .down → x.holdoff = none → exec (.partnerPresent p) s = .next
      (offer .chainState (event .down .training x.width 0) ((s.setPort p { x with
        partner := true, state := .training, offer := some .four, count := 0, window := none, holdoff := none }).setSent
          (s.sent ++ [.chain p .four (.pattern .four)])))) ∧
    (x.state ≠ .down ∨ x.holdoff ≠ none → exec (.partnerPresent p) s = .next (s.setPort p { x with partner := true })) ∧
    (x.state = .training ∨ x.state = .recovery → exec (.partnerLost p) s = .next
      (offer .chainState (event x.state .down x.width 1) (s.setPort p { x with
        partner := false, state := .down, offer := none, count := 0, window := none }))) ∧
    (x.state = .active → ∃ k, k ≤ x.unsent.length ∧ exec (.partnerLost p) s = .next
      (offer .chainState (event .active .down x.width 1) (((s.setPort p { x with
        partner := false, state := .down, offer := none, count := 0, window := none, broken := true, unsent := []
        counters := { x.counters with
          droppedSegments := bumpBy (x.unsent.length - k) x.counters.droppedSegments
          framesBroken := if x.broken then x.counters.framesBroken else bump x.counters.framesBroken } }).setDraws
            (s.draws + 1)).setSent
          (s.sent ++ x.width.elim [] fun w => (x.unsent.take k).map fun g => .chain p w (.segment g))))) ∧
    (x.state = .down ∨ x.state = .disabled → exec (.partnerLost p) s = .next (s.setPort p { x with partner := false })) ∧
    (∀ (t : Nat) (w offered : Lanes), x.state = .training ∨ x.state = .recovery → x.window = none →
      x.offer = some offered → w.toNat ≤ offered.toNat → exec (.trainingComplete p ⟨t, w.toNat⟩) s =
        .next (((s.setNow (max s.now t)).setPort p { x with
          width := some w, window := some ⟨max s.now t, []⟩ }).setSent (s.sent ++ [.chain p w .token]))) ∧
    (∀ t width, x.state ≠ .disabled →
      (x.state ≠ .training ∧ x.state ≠ .recovery) ∨ x.window ≠ none ∨ width ∉ [1, 2, 4] ∨
        (∀ offered, x.offer = some offered → offered.toNat < width) →
      exec (.trainingComplete p ⟨t, width⟩) s = .next ((s.setNow (max s.now t)).setPort p { x with
        counters := { x.counters with badExchanges := bump x.counters.badExchanges } })) ∧
    (∀ t width, x.state = .disabled →
      exec (.trainingComplete p ⟨t, width⟩) s = .next (s.setNow (max s.now t))) ∧
    (∀ hop, x.window = none → exec (.censusAnswer p hop) s = .next s) ∧
    (∀ hop run, x.window = some run → exec (.censusAnswer p hop) s = .next (s.setPort p { x with
      window := some { run with hops := run.hops ++ [hop] } })) ∧
    (∀ b : Byte,
      (∃ m, readReturn [0x81, b] = some m ∧ exec (.censusAnswer p b.toNat) s = .next (receiveReturn p m s)) ∧
      (∃ m, readReturn [0x82, b] = some m ∧
        ∀ t, exec (.trainingComplete p ⟨t, b.toNat⟩) s = .next (receiveReturn p m (s.setNow (max s.now t)))) ∧
      (∃ m, readReturn [0x83, b] = some m ∧ exec (.symbolError p b.toNat) s = .next (receiveReturn p m s)) ∧
      ∀ kind : Byte, kind ∉ [0x81, 0x82, 0x83] → readReturn [kind, b] = none) ∧
    ∀ run, x.window = some run → ∃ result : Nat,
      (∀ h, h < result → h ∈ run.hops) ∧ result ≤ 32 ∧ (result = 32 ∨ result ∉ run.hops) ∧
      let e := (s.activeBank.lengths.get (if isRing s.activeBank p then primaryOf p else p)).toNat
      let counted : Port := { x with
        window := none, census := result, surplus := result - e, censusCount := 0
        presenceChanged := x.presenceChanged || decide (result ≠ x.census)
        counters := { x.counters with censusRuns := bump x.counters.censusRuns } }
      let events := if result = x.census then s.mgmt
        else s.mgmt.offer .censusChanged (u8 p.val ++ u8 x.census ++ u8 result ++ u8 e ++ u8 (result - e))
      let lanes := fun w : Option Lanes => w.elim 0 Lanes.toNat
      let entered : Port := { counted with
        state := .active, offer := none, count := 0, errors := 0, cap := none
        retrain := false, retrainDone := x.retrainDone || x.retrain
        widthNarrowed := x.widthNarrowed || decide (x.state = .recovery ∧ lanes x.width < lanes x.entryWidth) }
      let changed := events.offer .chainState (event x.state .active x.width (if x.state = .recovery then 7 else 2))
      let ends := fun (port : Port) (mgmt : Mgmt) (sent : List Emission) => exec (.censusWindowEnd p) s =
        .next ((((s.setNow (max s.now (run.sent + 100000))).setPort p port).setMgmt mgmt).setSent sent)
      (x.state ≠ .training → x.state ≠ .recovery → ends counted events s.sent) ∧
      (x.state = .training ∨ x.state = .recovery → x.cap = none → ends entered changed s.sent) ∧
      ∀ watts w, x.state = .training ∨ x.state = .recovery → x.cap = some watts → x.width = some w →
        ends { entered with counters := { entered.counters with capsSent := bump x.counters.capsSent } } changed
          (s.sent ++ [.chain p w (.cap watts)])

/-- A port's boundaries run out: training and recovery at the tenth without an exchange, the holdoff at its end, the census
at the fiftieth in ACTIVE; and eight symbol errors of an interval are an error burst. Each boundary before counts on: an offer
steps narrower and its pattern goes out, a holdoff runs down, and an ACTIVE port sends what it held, its marker, its pending cap
and the token that is due, in this order, while another port keeps its cap (from R97, R98, R99, R102, R103, R104, R106, R112, R114,
R115; the rows' own boundary counts, log entry 9; the cause "partner present" of the TRAINING that follows a failed recovery,
and one pattern for each offer, log entry 24; how many segments were sent as an error burst breaks the frame, log entry 6). -/
def Obligations.PortTimersRunOut : Prop :=
  ∀ (s : State) (p : Fin 8),
    let x := s.port p
    let event := fun (before after : PortState) (cause : Nat) =>
      u8 p.val ++ u8 before.code ++ u8 after.code ++ lanesBytes x.width ++ u8 cause
    (x.state = .training → x.window = none → x.count = 9 → exec (.trainingTimeout p) s = .next
      ((s.setMgmt (s.mgmt.offer .chainState (event .training .down 3))).setPort p { x with
        state := .down, offer := none, count := 0, window := none, holdoff := some 25
        counters := { x.counters with trainingFailures := bump x.counters.trainingFailures } })) ∧
    (x.state = .recovery → x.window = none → x.count = 9 → x.partner = false → exec (.recoveryFailure p) s = .next
      ((s.setMgmt (s.mgmt.offer .chainState (event .recovery .down 8))).setPort p { x with
        state := .down, offer := none, count := 0, window := none
        counters := { x.counters with recoveryFailures := bump x.counters.recoveryFailures } })) ∧
    (x.state = .recovery → x.window = none → x.count = 9 → x.partner = true → x.holdoff = none →
      exec (.recoveryFailure p) s = .next (offer .chainState (event .down .training 0)
        (offer .chainState (event .recovery .down 8) ((s.setPort p { x with
          state := .training, offer := some .four, count := 0, window := none
          counters := { x.counters with recoveryFailures := bump x.counters.recoveryFailures } }).setSent
            (s.sent ++ [.chain p .four (.pattern .four)]))))) ∧
    (x.state = .down → x.holdoff = some 1 → x.partner = true → exec (.holdoffEnd p) s = .next
      (offer .chainState (event .down .training 4) ((s.setPort p { x with
        state := .training, offer := some .four, count := 0, window := none, holdoff := none }).setSent
          (s.sent ++ [.chain p .four (.pattern .four)])))) ∧
    (x.state = .down → x.holdoff = some 1 → x.partner = false → exec (.holdoffEnd p) s = .next
      (s.setPort p { x with holdoff := none })) ∧
    (∀ w, x.state = .active → x.window = none → x.censusCount = 49 → x.width = some w →
      exec (.periodicCensus p) s = .next ((s.setPort p { x with
        censusCount := 50, window := some ⟨s.now, []⟩ }).setSent (s.sent ++ [.chain p w .token]))) ∧
    (∀ errors, x.state ≠ .active → exec (.symbolError p errors) s = .next s) ∧
    (∀ errors, x.state = .active → x.errors + errors < 8 → exec (.symbolError p errors) s = .next
      (s.setPort p { x with errors := x.errors + errors })) ∧
    (∀ errors, x.state = .active → 8 ≤ x.errors + errors → ∃ t, exec (.symbolError p errors) s = .next t ∧
      EntersRecovery s p { x with errors := x.errors + errors } 5 t) ∧
    ∀ (gp : Tab 4 Bool) (order : CommitOrder), ∃ (t : State) (new : List Emission),
      exec (.frameBoundary gp order) s = .next t ∧ t.sent = s.sent ++ new ∧
      let y := t.port p
      let mine := new.filter (Emission.isOfPort p)
      let offering := x.state = .training ∨ x.state = .recovery
      (x.state ≠ .active ∨ x.disable ≠ none → y.cap = x.cap ∧ y.counters.capsSent = x.counters.capsSent) ∧
      (x.disable = none →
        (∀ w, offering → x.window = none → x.count < 9 → x.offer = some w →
          let narrower := match w with
            | .four => Lanes.two
            | .two => .one
            | .one => .one
          y.state = x.state ∧ y.count = x.count + 1 ∧ y.offer = some narrower ∧ y.window = none ∧
          mine = [.chain p narrower (.pattern narrower)]) ∧
        (offering → x.window ≠ none → y.state = x.state ∧ y.count = x.count ∧ y.offer = x.offer ∧ y.window = x.window ∧
          mine = []) ∧
        (x.state = .training → x.window = none → 9 ≤ x.count → y.state = .down ∧ y.offer = none ∧ y.holdoff = some 25 ∧
          y.counters.trainingFailures = bump x.counters.trainingFailures ∧ mine = []) ∧
        (x.state = .recovery → x.window = none → 9 ≤ x.count → x.holdoff = none →
          y.counters.recoveryFailures = bump x.counters.recoveryFailures ∧ y.holdoff = none ∧
          (x.partner = false → y.state = .down ∧ y.offer = none ∧ mine = []) ∧
          (x.partner = true → y.state = .training ∧ y.offer = some .four ∧ y.count = 0 ∧
            mine = [.chain p .four (.pattern .four)])) ∧
        (∀ k, x.state = .down → x.holdoff = some (k + 2) → y.state = .down ∧ y.holdoff = some (k + 1) ∧ mine = []) ∧
        (x.state = .down → x.holdoff = some 1 → y.holdoff = none ∧
          (x.partner = false → y.state = .down ∧ mine = []) ∧
          (x.partner = true → y.state = .training ∧ y.offer = some .four ∧ y.count = 0 ∧
            mine = [.chain p .four (.pattern .four)])) ∧
        ∀ w, x.state = .active → x.width = some w →
          let token := x.window = none ∧ 49 ≤ x.censusCount
          y.cap = none ∧
          y.counters.capsSent = (if x.cap = none then x.counters.capsSent else bump x.counters.capsSent) ∧
          y.censusCount = x.censusCount + 1 ∧ y.window = (if token then some ⟨t.now, []⟩ else x.window) ∧
          ∃ again half, mine = (x.unsent.map fun g => .chain p w (.segment g)) ++
            [.chain p w (.present t.timing.frame again half)] ++ (x.cap.elim [] fun watts => [.chain p w (.cap watts)]) ++
            (if token then [.chain p w .token] else []))

/-- Chain Retrain, Chain Disable and Chain Enable by the port's state: a Disable of an ACTIVE port is deferred to the next
boundary, of any other answered at once; a Retrain of an ACTIVE port sends it into RECOVERY, offering its width, counted, with
the frame broken, some first segments of those it held sent, a free number (log entry 6), and the rest dropped and counted (from
R104, R105, R106, R107, R112, R115, R176; that a command's event comes before its answer is log entry 30's, and the cause
"partner present" of the TRAINING that follows an Enable and one pattern for each offer log entry 24's). -/
def Obligations.ChainCommandsActOnState : Prop :=
  ∀ (s : State) (tag : Byte), hasRoom s = true →
    (∀ port, 8 ≤ port →
      Answers (exec (.chainRetrain tag port) s) s (.answer tag Code.chainRetrain .outOfRange []) ∧
      Answers (exec (.chainDisable tag port) s) s (.answer tag Code.chainDisable .outOfRange []) ∧
      Answers (exec (.chainEnable tag port) s) s (.answer tag Code.chainEnable .outOfRange [])) ∧
    ∀ p : Fin 8,
      let x := s.port p
      let event := fun (before after : PortState) (cause : Nat) =>
        u8 p.val ++ u8 before.code ++ u8 after.code ++ lanesBytes x.width ++ u8 cause
      (x.state = .down ∨ x.state = .disabled →
        Answers (exec (.chainRetrain tag p.val) s) s (.answer tag Code.chainRetrain .wrongState [])) ∧
      (x.state = .training ∨ x.state = .recovery →
        Answers (exec (.chainRetrain tag p.val) s) (s.setPort p { x with retrain := true })
          (.answer tag Code.chainRetrain .ok [])) ∧
      (x.state = .active → ∃ target, Answers (exec (.chainRetrain tag p.val) s) target
          (.answer tag Code.chainRetrain .ok []) ∧ EntersRecovery s p { x with retrain := true } 6 target) ∧
      (x.disable ≠ none → Answers (exec (.chainDisable tag p.val) s) s (.answer tag Code.chainDisable .busy [])) ∧
      (x.disable = none → x.state = .active →
        Reserves (exec (.chainDisable tag p.val) s) (s.setPort p { x with disable := some tag })) ∧
      (x.disable = none → x.state = .down ∨ x.state = .training ∨ x.state = .recovery →
        Answers (exec (.chainDisable tag p.val) s)
          (offer .chainState (event x.state .disabled 9) (s.setPort p { x with
            state := .disabled, offer := none, count := 0, window := none, holdoff := none }))
          (.answer tag Code.chainDisable .ok [])) ∧
      (x.disable = none → x.state = .disabled →
        Answers (exec (.chainDisable tag p.val) s) s (.answer tag Code.chainDisable .ok [])) ∧
      (x.state ≠ .disabled →
        Answers (exec (.chainEnable tag p.val) s) s (.answer tag Code.chainEnable .ok [])) ∧
      (x.state = .disabled → x.partner = false →
        Answers (exec (.chainEnable tag p.val) s)
          (offer .chainState (event .disabled .down 10) (s.setPort p { x with
            state := .down, offer := none, count := 0, window := none })) (.answer tag Code.chainEnable .ok [])) ∧
      (x.state = .disabled → x.partner = true → x.holdoff = none →
        Answers (exec (.chainEnable tag p.val) s)
          (offer .chainState (event .down .training 0) (offer .chainState (event .disabled .down 10)
            ((s.setPort p { x with state := .training, offer := some .four, count := 0, window := none }).setSent
              (s.sent ++ [.chain p .four (.pattern .four)]))))
          (.answer tag Code.chainEnable .ok []))

/-- No tile is fed twice, and every tile is reached that should be: a valid entry is reached by at most one port, within that
port's census in force; without a ring by its own port at its own position just where the census in force is above it; in a ring
by the primary from its end just where the primary's census is above it, else by the return port from the other end where that
one's census reaches it, else by none; the depth chosen carries the reached pixels; and at every boundary each ACTIVE port
latches the tiles it reaches, their pixels, the depth and rate for its width and the interval, and whether it carries pixel data
in it, any other port nothing (from R108, R109, R110, R111). -/
def Obligations.PortsReachEachTileOnce : Prop :=
  (∀ (b : Bank) (ports : Tab 8 Port) (e : TileEntry) (k : Fin 4), e.chain.val / 2 = k.val →
    let census := fun p : Fin 8 =>
      if (ports.get p).state = .active ∧ (ports.get p).disable = none then (ports.get p).census else 0
    let position := e.position.val
    (e.valid = false → reachOf b ports e = none) ∧
    (e.valid = true → b.rings.get k = false →
      (position < census e.chain → reachOf b ports e = some (e.chain, position)) ∧
      (census e.chain ≤ position → reachOf b ports e = none)) ∧
    ∀ p q : Fin 8, e.valid = true → b.rings.get k = true → e.chain = p → p.val = 2 * k.val → q.val = 2 * k.val + 1 →
      let tiles := (b.lengths.get p).toNat
      (position < census p → reachOf b ports e = some (p, position)) ∧
      (census p ≤ position → tiles ≤ position + census q → reachOf b ports e = some (q, tiles - 1 - position)) ∧
      (census p ≤ position → position + census q < tiles → reachOf b ports e = none)) ∧
  (∀ (b : Bank) (ports : Tab 8 Port) (e : TileEntry) (p : Fin 8) (position : Nat),
    reachOf b ports e = some (p, position) → e.position.val < (b.lengths.get e.chain).toNat →
    e.valid = true ∧ position < censusInForce (ports.get p) ∧
    (isRing b e.chain = false → p = e.chain ∧ position = e.position.val) ∧
    (isRing b e.chain = true → e.chain.val % 2 = 0 →
      (p.val = e.chain.val ∧ position = e.position.val) ∨
      (p.val = e.chain.val + 1 ∧ position + e.position.val + 1 = (b.lengths.get e.chain).toNat ∧
        censusInForce (ports.get e.chain) ≤ e.position.val))) ∧
  (∀ (b : Bank) (ports : Tab 8 Port) (p q : Fin 8) (x y : ReachedTile),
    x ∈ reachedBy b ports p → y ∈ reachedBy b ports q → x.entry = y.entry → p = q ∧ x = y) ∧
  (∀ pixels c : Nat,
    let choice := chooseDepth pixels c
    choice.1 ∈ [16, 12, 10, 8] ∧
    (choice.2 = .full → 3 * choice.1 * pixels ≤ c ∧ ∀ d ∈ [16, 12, 10, 8], choice.1 < d → c < 3 * d * pixels) ∧
    (choice.2 = .half → choice.1 = 8 ∧ c < 24 * pixels ∧ 24 * pixels ≤ 2 * c) ∧
    (choice.2 = .overbooked → choice.1 = 8 ∧ 2 * c < 24 * pixels)) ∧
  ∀ (s : State) (gp : Tab 4 Bool) (order : CommitOrder),
    ∃ t, exec (.frameBoundary gp order) s = .next t ∧ ∀ p,
      let b := t.activeBank
      let x := t.port p
      let l := x.latch
      fedTiles l = (if l.pixelData then l.reached else []) ∧
      (x.state ≠ .active → l = ⟨none, false, 0, [], 0⟩) ∧
      (∀ w, x.state = .active → x.width = some w →
        l.choice = some (chooseDepth l.pixels (20 * w.toNat * t.timing.length * 15 / 16)) ∧ l.inForce = x.census) ∧
      (x.state = .active →
        (l.reached.Pairwise fun a b => a.entry < b.entry) ∧
        (∀ r, r ∈ l.reached ↔
          reachOf b t.ports (b.tiles.get r.entry) = some (p, r.position) ∧ r.chain = (b.tiles.get r.entry).chain) ∧
        l.pixels = (l.reached.map fun r => (b.tiles.get r.entry).w.toNat * (b.tiles.get r.entry).h.toNat).sum ∧
        (l.pixelData = true ↔
          ∃ d, l.choice = some (d, .full) ∨ (l.choice = some (d, .half) ∧ t.timing.frame.toNat % 2 = 0))) ∧
      (x.unfed = b.tiles.data.countP fun e => e.valid && decide (e.chain = p) && (reachOf b t.ports e).isNone) ∧
      x.counters.overbookedIntervals =
        if (l.choice.map Prod.snd) = some .overbooked then bump (s.port p).counters.overbookedIntervals
        else (s.port p).counters.overbookedIntervals

/-! ## Section 7: the power limiter -/

/-- Set Chain Budget stores its budget and clamped step, turns the limiter off at once with a budget of 0, and hands the cap
to the ports of the chain; the target of a presented frame brings its demand to the budget, never below 256; the gain falls
to it at once and rises to it by at most the step; and a boundary updates just the chains with a normal marker, from the
demands of the tiles fed in the interval that ends, LIMITER_ACTIVE and LIMITER_CLEAR told where a gain leaves or reaches 4096
(from R119, R120, R121, R122, R123, R124, R125, R126, R127; that the LIMITER_CLEAR of a command comes before its answer is log
entry 30's, the layout of the event bodies, with one presence byte before demand and frame number together and one before the
boundary number, log entry 18's, and the ascending order of the fed tiles log entry 17's). -/
def Obligations.LimiterKeepsTheBudget : Prop :=
  (∀ (s : State) (tag : Byte) (budget step : Nat), hasRoom s = true →
    (∀ chain, 8 ≤ chain → Answers (exec (.setChainBudget tag chain budget step) s) s
      (.answer tag Code.setChainBudget .outOfRange [])) ∧
    ∀ c : Fin 8,
      let kept := if step = 0 then 1 else if 4096 < step then 4096 else step
      let x := s.chain c
      let after : ChainLimiter := if budget = 0 then
          { x with budget := 0, step := kept, gain := 4096, target := 4096, unattainable := false }
        else { x with budget := budget, step := kept }
      let demand := opt (fun d : Nat × FrameNo => u16 d.1 ++ u32 d.2.toNat) x.demand
      Answers (exec (.setChainBudget tag c.val budget step) s)
        (((s.setChain c after).setPorts (s.ports.mapFin fun p y =>
          if (isRing s.activeBank c = false ∧ p = c) ∨
              (isRing s.activeBank c = true ∧ c.val % 2 = 0 ∧ (p.val = c.val ∨ p.val = c.val + 1)) then
            { y with cap := some budget } else y)).setMgmt
          (if budget = 0 ∧ x.gain < 4096 then
            s.mgmt.offer .limiterClear (u8 c.val ++ u16 4096 ++ u16 4096 ++ demand ++ u16 0 ++ u8 0)
          else s.mgmt))
        (.answer tag Code.setChainBudget .ok (u8 c.val ++ u16 budget ++ u16 kept))) ∧
  (∀ (tiles : List Nat) (interval : FrameNo) (x : ChainLimiter), x.gain ≤ 4096 →
    let demand := tiles.sum
    let y := updateRecord tiles interval x
    (x.budget = 0 ∨ demand ≤ x.budget → y.target = 4096 ∧ y.unattainable = false) ∧
    (x.budget ≠ 0 → x.budget < demand → y.target = max 256 (4096 * x.budget / demand) ∧
      (256 < y.target → demand * y.target ≤ 4096 * x.budget) ∧
      (y.unattainable = true ↔ 4096 * x.budget / demand < 256)) ∧
    (y.target < x.gain → y.gain = y.target) ∧ (x.gain ≤ y.target → y.gain = min y.target (x.gain + x.step)) ∧
    y.demand = some (demand, interval) ∧ y.tiles = some tiles ∧ y.budget = x.budget ∧ y.step = x.step) ∧
  (∀ (s : State) (gp : Tab 4 Bool) (order : CommitOrder), ∃ t, exec (.frameBoundary gp order) s = .next t ∧ ∀ c,
    let shows := fun p : Fin 8 => (t.port p).marker = some false
    let presented := isOpenRecord s = true ∧ ((isRing t.activeBank c = false ∧ shows c) ∨
      (isRing t.activeBank c = true ∧ c.val % 2 = 0 ∧ (shows c ∨ ∃ q, q.val = c.val + 1 ∧ shows q)))
    (¬presented → t.chain c = s.chain c) ∧
    (isOpenRecord s = true → t.limiter.accumulation = none) ∧
    ∀ r a, s.canvas.record = some r → s.limiter.accumulation = some a → presented →
      ∃ fed : List (Fin 256), (fed.Pairwise (· < ·)) ∧
        (∀ i, i ∈ fed ↔ ∃ p, ∃ x ∈ fedTiles (s.port p).latch, x.entry = i ∧ x.chain = c) ∧
        t.chain c = updateRecord (fed.map fun i => (a.get i).sum / (a.get i).count * (a.get i).rated / 765)
          (r.assigned.getD 0) (s.chain c)) ∧
  ∀ (s : State) (c : Fin 8) (n : Notice), s.canvas.notice = some n → isPresented s c = true →
    let x := s.chain c
    let y := updateRecord (tileDemands s c) n.interval x
    let body := u8 c.val ++ u16 y.gain ++ u16 y.target ++ (u8 1 ++ (u16 (tileDemands s c).sum ++ u32 n.interval.toNat)) ++
      u16 y.budget ++ (u8 1 ++ u32 s.timing.frame.toNat)
    (x.gain = 4096 → y.gain < 4096 → updateChain c s = offer .limiterActive body (s.setChain c y)) ∧
    (x.gain < 4096 → y.gain = 4096 → updateChain c s = offer .limiterClear body (s.setChain c y)) ∧
    ((x.gain < 4096 ↔ y.gain < 4096) → x.gain ≤ 4096 → y.gain ≤ 4096 → updateChain c s = s.setChain c y)

/-! ## Section 8: lighting merge -/

/-- Set Source Priority waits for the next boundary, whose number it answers; Set Source Timeout is clamped and stored at
once; a LIVE source that has missed its timeout goes SILENT. A boundary tests every source so and puts its requested priority
in force (from R132, R133, R135; the row SOURCE_SILENCE_TIMEOUT does this one consequence of a boundary by itself, log entry
9). -/
def Obligations.SourcesAreSetAndFallSilent : Prop :=
  (∀ (s : State) (tag : Byte) (source priority : Nat), hasRoom s = true →
    let done := u8 source ++ u8 priority ++ u32 (s.timing.frame + 1).toNat
    (3 < source ∨ 7 < priority → Answers (exec (.setSourcePriority tag source priority) s) s
      (.answer tag Code.setSourcePriority .outOfRange [])) ∧
    (source = 0 → priority ≤ 7 → Answers (exec (.setSourcePriority tag source priority) s)
      (s.setMerge { s.merge with request0 := some priority }) (.answer tag Code.setSourcePriority .ok done)) ∧
    ∀ k : Fin 3, source = k.val + 1 → priority ≤ 7 → Answers (exec (.setSourcePriority tag source priority) s)
      (s.setSource k { s.source k with request := some priority }) (.answer tag Code.setSourcePriority .ok done)) ∧
  (∀ (s : State) (tag : Byte) (source timeout : Nat), hasRoom s = true →
    let kept := if timeout = 0 then 1 else if 1000 < timeout then 1000 else timeout
    (source = 0 ∨ 3 < source → Answers (exec (.setSourceTimeout tag source timeout) s) s
      (.answer tag Code.setSourceTimeout .outOfRange [])) ∧
    ∀ k : Fin 3, source = k.val + 1 → Answers (exec (.setSourceTimeout tag source timeout) s)
      (s.setSource k { s.source k with timeout := kept })
      (.answer tag Code.setSourceTimeout .ok (u8 source ++ u16 kept))) ∧
  ∀ (s : State) (k : Fin 3),
    let x := s.source k
    let missed := x.live = true ∧ x.unitSeen = false ∧ x.timeout ≤ x.silence + 1
    let silent := { x with
      live := false, silence := 0, cover := Tab.replicate 512 false, sourceLost := true, silences := bump x.silences }
    (missed → exec (.sourceSilenceTimeout k) s = .next (s.setSource k silent) ∧
      (silenceTests s).source k = { silent with unitSeen := false }) ∧
    (¬missed → (silenceTests s).source k = { x with
      unitSeen := false
      silence := if x.live = true ∧ x.unitSeen = false then x.silence + 1 else x.silence }) ∧
    ∀ (gp : Tab 4 Bool) (order : CommitOrder), ∃ t, exec (.frameBoundary gp order) s = .next t ∧
      (missed → t.source k = { silent with
        unitSeen := false, priority := x.request.getD x.priority, request := none }) ∧
      (¬missed → t.source k = { x with
        unitSeen := false, priority := x.request.getD x.priority, request := none
        silence := if x.live = true ∧ x.unitSeen = false then x.silence + 1 else x.silence })

/-- The merged level of a channel is the highest among the LIVE covering sources of the highest priority, decided by the
lowest-numbered of those that hold it; without one the channel holds its level. The entry level is the same merge without S0.
A boundary leaves the look that this merge makes of the sources, their priorities and the cue as they stand there; the cue is
taken to cover nothing in IDLE, as `CueSound` has it (from R134, R136, R137, R138). -/
def Obligations.HighestOfHighestPriorityWins : Prop :=
  (∀ (s : State) (gp : Tab 4 Bool) (order : CommitOrder),
    (s.cue.state = .idle → ∀ ch, s.cue.cover.get ch = none) →
    ∃ t, exec (.frameBoundary gp order) s = .next t ∧ ∀ ch,
      let old := s.merge.look.get ch
      let new := t.merge.look.get ch
      ((∀ source priority level, ¬Covers t ch source priority level) → new = ⟨old.level, none⟩) ∧
      ∀ source priority level, Covers t ch source priority level →
        ∃ winner top, new.decider = some winner ∧ Covers t ch winner top new.level ∧ priority ≤ top ∧
          (priority = top → level.toNat ≤ new.level.toNat ∧ (level = new.level → winner ≤ source))) ∧
  ∀ (s : State) (ch : Fin 512),
    let old := s.merge.look.get ch
    let new := (mergeLook s).merge.look.get ch
    ((∀ source priority level, ¬Covers s ch source priority level) → new = ⟨old.level, none⟩) ∧
    (∀ source priority level, Covers s ch source priority level →
      ∃ winner top, new.decider = some winner ∧ Covers s ch winner top new.level ∧ priority ≤ top ∧
        (priority = top → level.toNat ≤ new.level.toNat ∧ (level = new.level → winner ≤ source))) ∧
    ((∀ source priority level, source ≠ 0 → ¬Covers s ch source priority level) → entryLevel s ch = old.level) ∧
    ∀ source priority level, source ≠ 0 → Covers s ch source priority level →
      ∃ winner top, winner ≠ 0 ∧ Covers s ch winner top (entryLevel s ch) ∧ priority ≤ top ∧
        (priority = top → level.toNat ≤ (entryLevel s ch).toNat)

/-! ## Section 9: cue playback -/

/-- Write, Delete and Read Cue in the order of their tests: a record in range that is not live replaces or joins the sorted
list of at most 64; a live one is neither written nor deleted; a read answers a record, or for 0 the list's numbers (from
R145, R146, R147; the layout of a read record is log entry 15's). -/
def Obligations.CueListIsKept : Prop :=
  ∀ (s : State) (tag : Byte), hasRoom s = true → (s.cue.list.Pairwise fun a b => a.number < b.number) →
    (∀ r ∈ s.cue.list, 1 ≤ r.number) →
    let list := s.cue.list
    let isLive := fun number => s.cue.current = some number ∨ s.cue.target = some number
    (∀ (number up down delay : Nat) (follow : Option Nat) (link : Bool) (pairs : List (Nat × Nat)),
      let c := Instr.writeCue tag number up down delay follow link pairs
      let inRange := (1 ≤ number ∧ number ≤ 999) ∧ (1 ≤ pairs.length ∧ pairs.length ≤ 48) ∧
        (∀ x ∈ pairs, x.1 ≤ 511) ∧ (pairs.map Prod.fst).Pairwise (· < ·)
      let refused := fun r => Answers (exec c s) s (.answer tag Code.writeCue r [])
      let record : CueRecord := ⟨number, cuePairs pairs, up, down, delay, follow, link⟩
      let isIn := ∃ r ∈ list, r.number = number
      (¬inRange → refused .outOfRange) ∧ (inRange → isLive number → refused .cueLive) ∧
      (inRange → ¬isLive number → ¬isIn → 64 ≤ list.length → refused .listFull) ∧
      (inRange → ¬isLive number → isIn ∨ list.length < 64 →
        ∃ (list' : List CueRecord) (existed : Bool), (existed = true ↔ isIn) ∧
          Answers (exec c s) (s.setCue { s.cue with list := list' })
            (.answer tag Code.writeCue .ok (u16 number ++ flag existed ++ u8 list'.length)) ∧
          (list'.Pairwise fun a b => a.number < b.number) ∧
          ∀ r, r ∈ list' ↔ r = record ∨ (r ∈ list ∧ r.number ≠ number))) ∧
    (∀ number,
      (isLive number → Answers (exec (.deleteCue tag number) s) s (.answer tag Code.deleteCue .cueLive [])) ∧
      (¬isLive number → (∀ r ∈ list, r.number ≠ number) →
        Answers (exec (.deleteCue tag number) s) s (.answer tag Code.deleteCue .notFound [])) ∧
      (¬isLive number → ∀ r ∈ list, r.number = number → ∃ list', list'.length + 1 = list.length ∧
        (∀ x, x ∈ list' ↔ x ∈ list ∧ x ≠ r) ∧
        Answers (exec (.deleteCue tag number) s) (s.setCue { s.cue with list := list' })
          (.answer tag Code.deleteCue .ok (u8 list'.length)))) ∧
    (∀ r ∈ list, Answers (exec (.readCue tag r.number) s) s (.answer tag Code.readCue .ok (cueBytes r))) ∧
    Answers (exec (.readCue tag 0) s) s
      (.answer tag Code.readCue .ok (u8 list.length ++ list.flatMap fun r => u16 r.number)) ∧
    ∀ number, number ≠ 0 → (∀ r ∈ list, r.number ≠ number) →
      Answers (exec (.readCue tag number) s) s (.answer tag Code.readCue .notFound [])

/-- Go names the next record past the cue of reference, Go To the record of its number, Back the last one before it; an
accepted Go of any origin, command, follow or contact, makes it the target in DELAY with its fade start foretold, and a linked
cue requests its take; a refused command changes nothing, a refused follow or contact Go is counted. The contact Gos of a
boundary are those of the inputs with that function whose samples rise, in ascending number (from R35, R149, R150, R153, R156,
R157; the row FOLLOW_GO by itself is log entry 9's, that a TAKE_FAILED comes before the answer log entry 30's). -/
def Obligations.GosNameTheirCue : Prop :=
  ∀ (s : State) (tag : Byte), (s.cue.list.Pairwise fun a b => a.number < b.number) →
    let list := s.cue.list
    let reference := if s.cue.target = none then s.cue.current else s.cue.target
    let past := fun r : CueRecord => ∀ n, reference = some n → n < r.number
    let before := fun r : CueRecord => ∃ n, reference = some n ∧ r.number < n
    let foretold := fun r : CueRecord => s.timing.frame + 1 + BitVec.ofNat 32 r.delay
    let started := fun (r : CueRecord) (origin : GoOrigin) =>
      let s' := s.setCue { s.cue with
        state := .delay, target := some r.number, follow := none, delayLeft := r.delay, start := foretold r
        origin := origin, tookTake := r.link
        counters := { s.cue.counters with
          gosAccepted := bump s.cue.counters.gosAccepted
          fadesInterrupted :=
            if s.cue.target = none then s.cue.counters.fadesInterrupted else bump s.cue.counters.fadesInterrupted } }
      if r.link then requestTake (foretold r + 1) (.cue r.number) s' else s'
    let body := fun r : CueRecord => u16 r.number ++ u32 (foretold r).toNat ++ flag r.link
    (hasRoom s = true →
      (∀ r ∈ list, past r → (∀ x ∈ list, past x → r.number ≤ x.number) →
        Answers (exec (.go tag) s) (started r (.command tag)) (.answer tag Code.go .ok (body r))) ∧
      ((∀ r ∈ list, ¬past r) → Answers (exec (.go tag) s) s (.answer tag Code.go .endOfList [])) ∧
      (∀ r ∈ list, Answers (exec (.goTo tag r.number) s) (started r (.command tag))
        (.answer tag Code.goTo .ok (body r))) ∧
      (∀ number, (∀ r ∈ list, r.number ≠ number) →
        Answers (exec (.goTo tag number) s) s (.answer tag Code.goTo .notFound [])) ∧
      (∀ r ∈ list, before r → (∀ x ∈ list, before x → x.number ≤ r.number) →
        Answers (exec (.back tag) s) (started r .back) (.answer tag Code.back .ok (body r))) ∧
      ((∀ r ∈ list, ¬before r) → Answers (exec (.back tag) s) s (.answer tag Code.back .endOfList []))) ∧
    (∀ f, s.cue.state = .resting → s.cue.follow = some f → 0 ≤ (s.timing.frame - f).toInt →
      (∀ r ∈ list, past r → (∀ x ∈ list, past x → r.number ≤ x.number) →
        exec .followGo s = .next (started r .follow)) ∧
      ((∀ r ∈ list, ¬past r) → exec .followGo s = .next (s.setCue { s.cue with
        follow := none
        counters := { s.cue.counters with followsRefused := bump s.cue.counters.followsRefused } }))) ∧
    ∀ gp : Tab 4 Bool,
      let goes := fun i : Fin 4 =>
        s.timing.functions.get i = .go ∧ gp.get i = true ∧ s.timing.samples.get i = false
      let refused := { s.cue with counters := { s.cue.counters with
        contactGosRefused := bump s.cue.counters.contactGosRefused } }
      contactGos gp s = contactGoStep gp 3 (contactGoStep gp 2 (contactGoStep gp 1 (contactGoStep gp 0 s))) ∧
      (∀ i, ¬goes i → contactGoStep gp i s = s) ∧
      (∀ i, goes i →
        (∀ r ∈ list, past r → (∀ x ∈ list, past x → r.number ≤ x.number) →
          contactGoStep gp i s = started r (.contact i)) ∧
        ((∀ r ∈ list, ¬past r) → contactGoStep gp i s = s.setCue refused)) ∧
      ∀ (i : Fin 4) (order : CommitOrder), goes i → (∀ j, goes j → j = i) → s.cue.state = .idle →
        s.cue.current = none → s.cue.target = none → ∃ t, exec (.frameBoundary gp order) s = .next t ∧
          (list = [] → t.cue = refused) ∧
          ∀ r rest, list = r :: rest → t.cue = { s.cue with
            state := .delay, target := some r.number, follow := none, delayLeft := r.delay
            start := t.timing.frame + 1 + BitVec.ofNat 32 r.delay, origin := .contact i, tookTake := r.link
            counters := { s.cue.counters with gosAccepted := bump s.cue.counters.gosAccepted } }

/-- A fade starts at the end of its delay from the levels as they stand or the entry levels, runs every channel between its
start and its end level, holding the end level from its time on, and completes when all have reached it (from R151, R152,
R153, R157; the rows stand for their part of a boundary, log entry 9). A channel that newly enters the coverage with a time of 0
has its entry level at the fade start boundary (R138, R151) and its end level from the next, so that, where the two differ, its
fade completes there at the earliest: that R138 and R151 go before R152 for it, which they contradict, is log entry 32's. At the
fade start boundary the merged level of every channel that newly enters is its entry level, whatever the priority of S0 (from
R138, R151). A boundary without a contact Go counts the delay down, starts a fade from the entry levels of the sources as they
stand there, steps a fade and tests its completion, lets HALTED and IDLE stand, trims the coverage to the current cue after a
completion, and fires a follow that is due, at the completion boundary itself too (from R138, R149, R151, R152, R153, R154). -/
def Obligations.FadesRunBetweenTheirLevels : Prop :=
  (∀ (s : State) (number : Nat) (r : CueRecord), s.cue.state = .delay → s.cue.delayLeft = 0 →
    s.cue.target = some number → findCue s.cue.list number = some r →
    ∃ t, exec .fadeStart s = .next t ∧ t.cue.state = .fading ∧ t.cue.elapsed = 0 ∧ t.cue.target = some number ∧
      t.cue.current = s.cue.current ∧
      t.mgmt = s.mgmt.offer .cueStarted (u16 r.number ++ opt u16 s.cue.current ++ u32 s.timing.frame.toNat ++
        goOriginBytes s.cue.origin ++ flag s.cue.tookTake) ∧
      ∀ ch,
        (s.cue.cover.get ch = none → cueLevel r ch = none → t.cue.fade.get ch = none ∧ t.cue.cover.get ch = none) ∧
        (s.cue.cover.get ch ≠ none ∨ cueLevel r ch ≠ none → ∃ a b : Level,
          (s.cue.cover.get ch = some a ∨ (s.cue.cover.get ch = none ∧ a = entryLevel s ch)) ∧
          (cueLevel r ch = some b ∨ (cueLevel r ch = none ∧ b = 0)) ∧
          let time := if a.toNat ≤ b.toNat then r.up else r.down
          t.cue.fade.get ch = some ⟨a, b, time, (cueLevel r ch).isSome, (s.cue.cover.get ch).isNone⟩ ∧
          t.cue.cover.get ch = some
            (if time = 0 ∧ s.cue.cover.get ch ≠ none then b else a))) ∧
  (∀ (f : FadeChannel) (e : Nat),
    min f.start.toNat f.stop.toNat ≤ (fadeLevel e f).toNat ∧ (fadeLevel e f).toNat ≤ max f.start.toNat f.stop.toNat ∧
    (f.time ≤ e → 0 < e ∨ f.entered = false → fadeLevel e f = f.stop) ∧
    (0 < f.time ∨ f.entered = true → fadeLevel 0 f = f.start) ∧
    (e < f.time → ((fadeLevel e f).toNat : Int) - f.start.toNat =
      Int.tdiv (((f.stop.toNat : Int) - f.start.toNat) * e) f.time)) ∧
  (∀ s : State, s.cue.state = .fading →
    let ended := ∀ ch f, s.cue.fade.get ch = some f → fadeLevel s.cue.elapsed f = f.stop
    let follow := (s.cue.target.bind (findCue s.cue.list)).bind CueRecord.follow
    let boundary := follow.map fun f => s.timing.frame + BitVec.ofNat 32 f
    (¬ended → exec .fadeComplete s = .next s) ∧
    (ended → exec .fadeComplete s = .next (offer .cueComplete
      (u16 (s.cue.target.getD 0) ++ u32 s.timing.frame.toNat ++ opt (fun b : FrameNo => u32 b.toNat) boundary)
      (s.setCue { s.cue with
        state := .resting, current := s.cue.target, target := none, follow := boundary
        counters := { s.cue.counters with fadesCompleted := bump s.cue.counters.fadesCompleted } })))) ∧
  ∀ (s : State) (gp : Tab 4 Bool) (order : CommitOrder), (∀ i, s.timing.functions.get i ≠ .go) →
    ∃ t, exec (.frameBoundary gp order) s = .next t ∧
      let x := s.cue
      let n := t.timing.frame
      let merging := s.setMerge { s.merge with sources := t.merge.sources }
      let ended := fun c : Cue => ∀ ch f, c.fade.get ch = some f → fadeLevel c.elapsed f = f.stop
      let follow := (x.target.bind (findCue x.list)).bind CueRecord.follow
      let goes := fun c : Cue =>
        match c.list.find? fun r => (c.target.or c.current).all fun k => decide (k < r.number) with
        | some r => { c with
            state := .delay, target := some r.number, follow := none, delayLeft := r.delay
            start := n + 1 + BitVec.ofNat 32 r.delay, origin := .follow, tookTake := r.link
            counters := { c.counters with
              gosAccepted := bump c.counters.gosAccepted
              fadesInterrupted := if c.target = none then c.counters.fadesInterrupted
                else bump c.counters.fadesInterrupted } }
        | none => { c with
            follow := none, counters := { c.counters with followsRefused := bump c.counters.followsRefused } }
      let rests := fun c : Cue =>
        ((∃ f, c.follow = some f ∧ 0 ≤ (n - f).toInt) → t.cue = goes c) ∧
        ((∀ f, c.follow = some f → (n - f).toInt < 0) → t.cue = c)
      let steps := fun c : Cue =>
        (¬ended c → t.cue = c) ∧
        (ended c → rests { c with
          state := .resting, current := c.target, target := none
          follow := follow.map fun f => n + BitVec.ofNat 32 f
          counters := { c.counters with fadesCompleted := bump c.counters.fadesCompleted } })
      (x.state = .idle ∨ x.state = .haltedDelay ∨ x.state = .haltedFading → t.cue = x) ∧
      (∀ k, x.state = .delay → x.delayLeft = k + 1 → t.cue = { x with delayLeft := k }) ∧
      (∀ number r, x.state = .delay → x.delayLeft = 0 → x.target = some number → findCue x.list number = some r →
        ∃ (fade : Tab 512 (Option FadeChannel)) (cover : Tab 512 (Option Level)),
          (∀ ch,
            let was := x.cover.get ch
            let given := cueLevel r ch
            let a := was.getD (entryLevel merging ch)
            let b := given.getD 0
            (was = none → given = none → fade.get ch = none) ∧
            (was ≠ none ∨ given ≠ none → fade.get ch =
              some ⟨a, b, if a.toNat ≤ b.toNat then r.up else r.down, given.isSome, was.isNone⟩)) ∧
          (∀ ch, cover.get ch = (fade.get ch).map (fadeLevel 0)) ∧
          (∀ ch, x.cover.get ch = none → cueLevel r ch ≠ none →
            (t.merge.look.get ch).level = entryLevel merging ch) ∧
          steps { x with state := .fading, elapsed := 0, fade := fade, cover := cover }) ∧
      (x.state = .fading → ∃ cover : Tab 512 (Option Level),
        (∀ ch, cover.get ch = (x.fade.get ch).map (fadeLevel (x.elapsed + 1))) ∧
        steps { x with elapsed := x.elapsed + 1, cover := cover }) ∧
      (x.state = .resting →
        ((∀ ch, x.fade.get ch = none) → rests x) ∧
        ((∃ ch, x.fade.get ch ≠ none) → ∃ cover : Tab 512 (Option Level),
          (∀ ch, cover.get ch = (x.fade.get ch).bind fun f => if f.kept then some f.stop else none) ∧
          rests { x with fade := Tab.replicate 512 none, cover := cover }))

/-- Halt, Resume and Clear Playback by the playback state (from R154, R155, R157). -/
def Obligations.PlaybackHaltsResumesAndClears : Prop :=
  ∀ (s : State) (tag : Byte), hasRoom s = true →
    let into := fun p : PlayState => s.setCue { s.cue with state := p }
    let halt := fun (target : State) (r : Result) => Answers (exec (.halt tag) s) target (.answer tag Code.halt r [])
    let resume := fun (target : State) (r : Result) => Answers (exec (.resume tag) s) target (.answer tag Code.resume r [])
    (s.cue.state = .delay → halt (into .haltedDelay) .ok ∧ resume s .wrongState) ∧
    (s.cue.state = .fading → halt (into .haltedFading) .ok ∧ resume s .wrongState) ∧
    (s.cue.state = .haltedDelay → halt s .ok ∧ resume (into .delay) .ok) ∧
    (s.cue.state = .haltedFading → halt s .ok ∧ resume (into .fading) .ok) ∧
    (s.cue.state = .resting → s.cue.follow ≠ none →
      halt (s.setCue { s.cue with follow := none }) .ok ∧ resume s .wrongState) ∧
    (s.cue.state = .resting → s.cue.follow = none → halt s .wrongState ∧ resume s .wrongState) ∧
    (s.cue.state = .idle → halt s .wrongState ∧ resume s .wrongState ∧
      Answers (exec (.clearPlayback tag) s) s (.answer tag Code.clearPlayback .ok [])) ∧
    (s.cue.state ≠ .idle → Answers (exec (.clearPlayback tag) s) (s.setCue { s.cue with
        state := .idle, current := none, target := none, follow := none
        fade := Tab.replicate 512 none, cover := Tab.replicate 512 none
        counters := { s.cue.counters with
          fadesInterrupted :=
            if s.cue.target = none then s.cue.counters.fadesInterrupted else bump s.cue.counters.fadesInterrupted } })
      (.answer tag Code.clearPlayback .ok []))

/-! ## Section 10: direct drive and fixture bus ports -/

/-- Set PWM Output stores settings that wait for the next boundary, or is refused; an output is active on exactly the d
steps of its duty in every period, those that its alignment and phase give, and for the ticks they and the residual last, in
which the last step is held; the parts of a pair share one duty (from R159, R160, R161, R162, Table 10-1). -/
def Obligations.PwmOutputsShowTheirDuty : Prop :=
  (∀ (s : State) (tag : Byte) (output alignment polarity phase : Nat) (pair : Bool), hasRoom s = true →
    let c := Instr.setPwmOutput tag output alignment polarity phase pair
    let inRange := output ≤ 15 ∧ alignment ≤ 1 ∧ polarity ≤ 1 ∧ phase ≤ 15 ∧ (pair = true → output % 2 = 0)
    (¬inRange → Answers (exec c s) s (.answer tag Code.setPwmOutput .outOfRange [])) ∧
    ∀ o : Fin 16, output = o.val → inRange →
      Answers (exec c s)
        (s.setDrive (s.drive.set o { s.drive.get o with
          requested := some ⟨decide (alignment = 1), decide (polarity = 1), phase, pair⟩ }))
        (.answer tag Code.setPwmOutput .ok
          (u8 alignment ++ u8 polarity ++ u8 phase ++ flag pair ++ u32 (s.timing.frame + 1).toNat))) ∧
  (∀ (x : PwmSettings) (n d : Nat), 1 ≤ n → d ≤ n → x.phase ≤ 15 →
    ((List.range n).filter (isActiveStep x n d)).length = d ∧
    ∀ step, step < n →
      let o := x.phase * n / 16
      (x.centre = false → (isActiveStep x n d step = true ↔ (o ≤ step ∧ step < o + d) ∨ step + n < o + d)) ∧
      (x.centre = true → (isActiveStep x n d step = true ↔ (n - d) / 2 ≤ step ∧ step < (n - d) / 2 + d))) ∧
  (∀ (g : Grid) (x : PwmOutput) (length tick : Nat), GridSound g length →
    let level := fun step : Nat => isActiveStep x.inForce g.n (shownDuty g.n x.shown) step != x.inForce.activeLow
    (∀ j step, j < g.k → step < g.n → g.p * g.n * j + g.p * step ≤ tick → tick < g.p * g.n * j + g.p * (step + 1) →
      lineLevel g x tick = level step) ∧
    (g.p * g.n * g.k ≤ tick → tick < length → lineLevel g x tick = level (g.n - 1))) ∧
  (∀ (g : Grid) (x : PwmOutput) (length : Nat), GridSound g length → x.inForce.phase ≤ 15 →
    ((List.range length).filter fun tick => lineLevel g x tick != x.inForce.activeLow).length = activeTicks g x) ∧
  ∀ (n d total warm : Nat), shownDuty n (.duty d) = min d n ∧ shownDuty n .idle = 0 ∧
    shownDuty n (.warm total warm) + shownDuty n (.cool total warm) = min total n

/-- Set Fixture Port stores rate and divisor and switches the port; a port switched off drops its work, its outstanding query
is answered NO_REPLY first (that order, and the counters, are log entry 20's, and that a port in OFF keeps its refresh count
is log entry 17's), and a frame being sent ends at once in its lead-in and else with the character being shifted. Query Fixture is refused in the order of its tests, or reserves its answer
and is sent as soon as the shifter is idle (from R164, R166, R167, R176). -/
def Obligations.FixtureCommandsSwitchAndQuery : Prop :=
  ∀ (s : State) (tick : Nat) (tag : Byte), hasRoom s = true →
    let now := max s.now tick
    let s' := s.setNow now
    (∀ (port rate divisor : Nat) (enable : Bool), (1 < port ∨ 1 < rate ∨ divisor = 0 ∨ 4 < divisor) →
      Answers (exec (.setFixturePort tick tag port enable rate divisor) s) s'
        (.answer tag Code.setFixturePort .outOfRange [])) ∧
    (∀ (p : Fin 2) (rate : BitRate) (divisor : Nat), 1 ≤ divisor → divisor ≤ 4 →
      let x := s.fixturePort p
      let stored := { x with rate := rate, divisor := divisor, rxRate := if x.query = none then rate else x.rxRate }
      let off := { stored with refreshing := false, buffer := none, rx := none }
      let done := fun on : Bool => Report.answer tag Code.setFixturePort .ok (flag on ++ u8 rate.code ++ u8 divisor)
      let sets := fun (on : Bool) (target : State) =>
        Answers (exec (.setFixturePort tick tag p.val on rate.code divisor) s) target (done on)
      sets x.refreshing (s'.setFixturePort p stored) ∧
      (x.refreshing = false → sets true (s'.setFixturePort p { stored with
        refreshing := true, refreshCount := 1, rx := none })) ∧
      (x.refreshing = true → x.query = none → x.shifter = .idle → sets false (s'.setFixturePort p off)) ∧
      (∀ began sending slots, x.refreshing = true → x.query = none → x.shifter = .level began sending slots →
        (now < began + 11200 → sets false (s'.setFixturePort p { off with shifter := .idle })) ∧
        ∀ whole, began + 11200 + whole * (match sending with | .slow => 4400 | .fast => 2200) ≤ now →
          now < began + 11200 + (whole + 1) * (match sending with | .slow => 4400 | .fast => 2200) →
          let kept := (0x10 :: slots).take (whole + 1)
          sets false ((s'.setFixturePort p { off with shifter := .cutOff began sending kept }).setSent
            (s.sent ++ [.fixture p sending kept]))) ∧
      ∀ q, x.refreshing = true → x.query = some q → ∃ target, sets false target ∧
        target.mgmt = s.mgmt.answer q.tag Code.queryFixture .noReply [] ∧
        (target.fixturePort p).refreshing = false ∧ (target.fixturePort p).query = none ∧
        (target.fixturePort p).buffer = none ∧ (target.fixturePort p).rx = none ∧
        (target.fixturePort p).rxRate = rate ∧
        (x.shifter = .idle → (target.fixturePort p).shifter = .idle ∧ target.sent = s.sent) ∧
        ∀ began sending characters,
          (∃ slots, x.shifter = .level began sending slots ∧ characters = 0x10 :: slots) ∨
            (x.shifter = .query began sending ∧ characters = [0x20, BitVec.ofNat 8 q.address, q.kind.character]) →
          (now < began + 11200 → (target.fixturePort p).shifter = .idle ∧ target.sent = s.sent) ∧
          ∀ whole, began + 11200 + whole * (match sending with | .slow => 4400 | .fast => 2200) ≤ now →
            now < began + 11200 + (whole + 1) * (match sending with | .slow => 4400 | .fast => 2200) →
            (target.fixturePort p).shifter = .cutOff began sending (characters.take (whole + 1)) ∧
            target.sent = s.sent ++ [.fixture p sending (characters.take (whole + 1))]) ∧
    (∀ port address kind, (1 < port ∨ address = 0 ∨ 255 < address ∨ 2 < kind) →
      Answers (exec (.queryFixture tick tag port address kind) s) s'
        (.answer tag Code.queryFixture .outOfRange [])) ∧
    ∀ (p : Fin 2) (address : Nat) (kind : QueryKind), 1 ≤ address → address ≤ 255 →
      let x := s.fixturePort p
      let c := Instr.queryFixture tick tag p.val address kind.code
      (x.refreshing = false → Answers (exec c s) s' (.answer tag Code.queryFixture .wrongState [])) ∧
      (x.refreshing = true → x.query ≠ none → Answers (exec c s) s' (.answer tag Code.queryFixture .busy [])) ∧
      (x.refreshing = true → x.query = none → x.shifter ≠ .idle →
        Reserves (exec c s) (s'.setFixturePort p { x with query := some ⟨tag, address, kind, .waiting⟩ })) ∧
      (x.refreshing = true → x.query = none → x.shifter = .idle →
        Reserves (exec c s) (s'.setFixturePort p { x with
          query := some ⟨tag, address, kind, .sending⟩, shifter := .query now x.rate }))

/-- The shifter and the receiver of a fixture port: frames end at their tick and are counted, the next work is taken at once
with a waiting query first, a query opens its window of 200,000 ticks, the line shows the lead-in and the characters,
characters are stored with their errors, the reply ends its query OK or REPLY_BAD, other frames end in the FIFO, a window in
which no reply has begun ends NO_REPLY, and a refresh boundary latches a snapshot, which an idle shifter takes at once behind a
waiting query. A boundary counts the refresh of a port in REFRESHING, latches at its end the slot values of the boundary before
or, under the light hold, the last snapshot again, and drains both reply FIFOs, oldest first, into the FIXTURE_REPLY events that
the mask selects and that find room (from R165, R166, R167, R168, R169, R170, R171, R176, R177, R186; the refresh row's own
boundary count, log entry 9; that port 0 is drained before port 1, log entry 7; the end of a query whose window closes while a
frame is received, log entry 20; a character outside every frame, log entry 31; the level of a data bit, log entry 33; the count
of a REPLY_BAD body and its cut to 8186 characters, log entry 18). -/
def Obligations.FixturePortsSendAndReceive : Prop :=
  ∀ (s : State) (p : Fin 2),
    let x := s.fixturePort p
    let k := x.counters
    let ticks := fun rate : BitRate => match rate with
      | .slow => 4400
      | .fast => 2200
    (∀ began rate slots, x.shifter = .level began rate slots →
      let now := max s.now (began + 11200 + (slots.length + 1) * ticks rate)
      let sent := { x with shifter := .idle, counters := { k with framesSent := bump k.framesSent } }
      let ends := fun y : FixturePort => exec (.shifterFrameEnd p) s =
        .next (((s.setNow now).setFixturePort p y).setSent (s.sent ++ [.fixture p rate (0x10 :: slots)]))
      let free := ∀ q, x.query = some q → q.phase ≠ .waiting
      (free → x.buffer = none → ends sent) ∧
      (∀ next, free → x.buffer = some next → ends { sent with shifter := .level now x.rate next, buffer := none }) ∧
      (∀ q, x.query = some q → q.phase = .waiting → ends { sent with
        shifter := .query now x.rate, query := some { q with phase := .sending } }) ∧
      ∀ tick, let on := busLevel (began + tick) x
        (tick < 9600 → on = false) ∧ (9600 ≤ tick → tick < 11200 → on = true) ∧
        ∀ i c bit, (0x10 :: slots)[i]? = some c → bit < 11 →
          11200 + i * ticks rate + bit * (ticks rate / 11) ≤ tick →
          tick < 11200 + i * ticks rate + (bit + 1) * (ticks rate / 11) → some on = (characterBits c)[bit]?) ∧
    (∀ began rate q, x.shifter = .query began rate → x.query = some q →
      let now := max s.now (began + 11200 + 3 * ticks rate)
      let ends := fun y : FixturePort => exec (.shifterFrameEnd p) s = .next (((s.setNow now).setFixturePort p y).setSent
        (s.sent ++ [.fixture p rate [0x20, BitVec.ofNat 8 q.address, q.kind.character]]))
      let sent := { x with
        shifter := .idle, query := some { q with phase := .window (now + 200000) }
        counters := { k with queriesSent := bump k.queriesSent } }
      (x.buffer = none → ends sent) ∧
      ∀ next, x.buffer = some next → ends { sent with shifter := .level now x.rate next, buffer := none }) ∧
    (∀ began rate characters, x.shifter = .cutOff began rate characters →
      let now := max s.now (began + 11200 + characters.length * ticks rate)
      let ends := fun y : FixturePort => exec (.shifterFrameEnd p) s = .next ((s.setNow now).setFixturePort p y)
      let free := ∀ q, x.query = some q → q.phase ≠ .waiting
      (free → x.buffer = none → ends { x with shifter := .idle }) ∧
      (∀ next, free → x.buffer = some next → ends { x with shifter := .level now x.rate next, buffer := none }) ∧
      ∀ q, x.query = some q → q.phase = .waiting → ends { x with
        shifter := .query now x.rate, query := some { q with phase := .sending } }) ∧
    (∀ data parity stop gap,
      let bad := evenParity data != parity
      let seen := { x with
        parity := x.parity || bad, framing := x.framing || !stop
        counters := { k with receivedCharacters := bump k.receivedCharacters } }
      let c := Instr.fixtureCharacter p data parity ⟨stop, gap⟩
      (x.refreshing = false → exec c s = .next s) ∧
      (∀ f, x.refreshing = true → x.rx = some f → exec c s =
        .next (s.setFixturePort p { seen with rx := some { f with chars := f.chars ++ [⟨data, bad, !stop⟩] } })) ∧
      (x.refreshing = true → x.rx = none → gap = true → exec c s =
        .next (s.setFixturePort p { seen with rx := some ⟨[⟨data, bad, !stop⟩], inReplyWindow x⟩ })) ∧
      (x.refreshing = true → x.rx = none → gap = false → exec c s = .next (s.setFixturePort p seen))) ∧
    (∀ f, x.rx = some f →
      let data := f.chars.map RxChar.data
      let idle := { x with rx := none }
      let landed :=
        if f.chars.length < 4 ∨ 16 < f.chars.length then
          { idle with counters := { k with framesDiscarded := bump k.framesDiscarded } }
        else if x.fifo.length < 2 then { idle with
          fifo := x.fifo ++ [⟨data, f.chars.any RxChar.parityError, f.chars.any RxChar.framingError⟩]
          counters := { k with unsolicitedFrames := bump k.unsolicitedFrames } }
        else { idle with overrun := true, counters := { k with overrunFrames := bump k.overrunFrames } }
      (x.query = none ∨ f.inWindow = false → exec (.fixtureFrameEnd p) s = .next (s.setFixturePort p landed)) ∧
      ∀ q, x.query = some q → f.inWindow = true →
        let good := fun values extra : List Byte => 1 ≤ values.length ∧ values.length ≤ 12 ∧
          data = replyStart q ++ u8 values.length ++ values ++
            [replyChecksum (replyStart q ++ u8 values.length ++ values)] ++ extra ∧
          ∀ c ∈ f.chars.take (5 + values.length), c.parityError = false ∧ c.framingError = false
        (data.take 3 ≠ replyStart q → q.phase ≠ .closing →
          exec (.fixtureFrameEnd p) s = .next (s.setFixturePort p landed)) ∧
        (data.take 3 ≠ replyStart q → q.phase = .closing →
          AnswersReserved (exec (.fixtureFrameEnd p) s) (s.setFixturePort p { landed with
              query := none, rxRate := x.rate
              counters := { landed.counters with noReplies := bump k.noReplies } })
            (.answer q.tag Code.queryFixture .noReply [])) ∧
        (∀ values extra, good values extra → AnswersReserved (exec (.fixtureFrameEnd p) s) (s.setFixturePort p { idle with
            query := none, rxRate := x.rate, counters := { k with repliesGood := bump k.repliesGood } })
          (.answer q.tag Code.queryFixture .ok (u8 values.length ++ values))) ∧
        (data.take 3 = replyStart q → (∀ values extra, ¬good values extra) →
          AnswersReserved (exec (.fixtureFrameEnd p) s) (s.setFixturePort p { idle with
              query := none, rxRate := x.rate, counters := { k with repliesBad := bump k.repliesBad } })
            (.answer q.tag Code.queryFixture .replyBad (u16 (data.take 8186).length ++ data.take 8186)))) ∧
    (∀ q closes, x.query = some q → q.phase = .window closes →
      let begun := ∃ f, x.rx = some f ∧ f.inWindow = true ∧
        (f.chars.map RxChar.data).take 3 = (replyStart q).take f.chars.length
      let s' := s.setNow (max s.now closes)
      (begun → exec (.replyWindowClose p) s =
        .next (s'.setFixturePort p { x with query := some { q with phase := .closing } })) ∧
      (¬begun → AnswersReserved (exec (.replyWindowClose p) s) (s'.setFixturePort p { x with
          query := none, rxRate := x.rate, rx := x.rx.map fun f => { f with inWindow := false }
          counters := { k with noReplies := bump k.noReplies } })
        (.answer q.tag Code.queryFixture .noReply []))) ∧
    (x.refreshing = true → x.refreshCount ≤ 1 → ∃ y : FixturePort,
      exec (.fixtureRefresh p) s = .next (s.setFixturePort p y) ∧ y.refreshCount = x.divisor ∧
      y.counters.lateFrames = (if x.buffer = none then k.lateFrames else bump k.lateFrames) ∧
      y.lastSnapshot = some (if s.canvas.lightHold then x.lastSnapshot.getD [] else x.slots) ∧
      (x.shifter ≠ .idle → y.buffer = y.lastSnapshot ∧ y.shifter = x.shifter) ∧
      (x.shifter = .idle → (∀ q, x.query = some q → q.phase ≠ .waiting) → y.buffer = none ∧ y.query = x.query ∧
        ∀ slots, y.lastSnapshot = some slots → y.shifter = .level s.now x.rate slots) ∧
      ∀ q, x.shifter = .idle → x.query = some q → q.phase = .waiting → y.buffer = y.lastSnapshot ∧
        y.shifter = .query s.now x.rate ∧ y.query = some { q with phase := .sending }) ∧
    (x.refreshing = false ∨ 1 < x.refreshCount → exec (.fixtureRefresh p) s = .next s) ∧
    ∀ (gp : Tab 4 Bool) (order : CommitOrder), ∃ (t : State) (new : List Report),
      exec (.frameBoundary gp order) s = .next t ∧ t.mgmt.queue = s.mgmt.queue ++ new ∧
      let stands := fun y : FixturePort => t.fixturePort p = { y with slots := (t.fixturePort p).slots, fifo := [] }
      let snapshot := if s.canvas.lightOperator then x.lastSnapshot.getD [] else x.slots
      let latched := { x with
        refreshCount := x.divisor, lastSnapshot := some snapshot, buffer := some snapshot
        counters := { k with lateFrames := if x.buffer = none then k.lateFrames else bump k.lateFrames } }
      let replies := (List.finRange 2).flatMap fun q => (s.fixturePort q).fifo.map fun e =>
        Report.event .fixtureReply
          (u8 q.val ++ u8 e.chars.length ++ e.chars ++ flag e.parity ++ flag e.framing ++ u32 t.timing.frame.toNat)
      (x.refreshing = false → stands x) ∧
      (x.refreshing = true → 1 < x.refreshCount → stands { x with refreshCount := x.refreshCount - 1 }) ∧
      (x.refreshing = true → x.refreshCount ≤ 1 →
        (x.shifter ≠ .idle → stands latched) ∧
        (x.shifter = .idle → (∀ q, x.query = some q → q.phase ≠ .waiting) →
          stands { latched with buffer := none, shifter := .level t.now x.rate snapshot }) ∧
        ∀ q, x.shifter = .idle → x.query = some q → q.phase = .waiting →
          stands { latched with shifter := .query t.now x.rate, query := some { q with phase := .sending } }) ∧
      (new.filter (Report.isEvent .fixtureReply)).Sublist replies ∧
      (s.mgmt.selects .fixtureReply = true → t.mgmt.eventsLost = false →
        new.filter (Report.isEvent .fixtureReply) = replies)

/-! ## Section 11: management commands, answers and status -/

/-- A report leaves the head of the queue over a link that is up, as a stream unit of stream ID 0 under the feeder's address;
the engine is then stalled just where a unit still waits without room, and counted just where it goes from idle to stalled; an
event is masked, joins a queue of fewer than 12 reports, or is lost; Set Event Mask stores thirteen bits (from R174, R177, R178,
R179, R183; that the unit carries the address that stands as its last CRC byte is sent is log entry 14's, that the row changes
nothing with an empty queue or the link down log entry 19's, and that the stall is settled at this step log entry 25's). -/
def Obligations.ReportsLeaveInOrder : Prop :=
  (∀ (s : State) (r : Report) (rest : List Report), s.intake.link = .up → s.mgmt.queue = r :: rest →
    let address := if s.intake.locked then s.intake.unitAddress.toNat else 0
    let covered := u16 0 ++ u8 address ++ u16 r.payload.length ++ r.payload
    ∃ t, exec .reportTransmitted s = .next t ∧ Stalls ((s.setSent (s.sent ++
        [.report ([0xC5, 0x3A] ++ covered ++ crcBytes (crc32 covered))])).setMgmt { s.mgmt with
      queue := rest, cut := false
      counters := { s.mgmt.counters with reportsTransmitted := bump s.mgmt.counters.reportsTransmitted } }) t) ∧
  (∀ s : State, s.intake.link = .down ∨ s.mgmt.queue = [] → exec .reportTransmitted s = .next s) ∧
  (∀ (s : State) (tag : Byte) (mask : Nat), hasRoom s = true →
    (mask < 8192 → Answers (exec (.setEventMask tag mask) s)
      (s.setMgmt { s.mgmt with mask := BitVec.ofNat 13 mask }) (.answer tag Code.setEventMask .ok (u16 mask))) ∧
    (8192 ≤ mask → Answers (exec (.setEventMask tag mask) s) s (.answer tag Code.setEventMask .outOfRange []))) ∧
  ∀ (m : Mgmt) (kind : EventKind) (body : List Byte),
    let k := m.counters
    (m.mask.getLsbD kind.code = false →
      m.offer kind body = { m with counters := { k with eventsMasked := bump k.eventsMasked } }) ∧
    (m.mask.getLsbD kind.code = true → m.queue.length < 12 → m.offer kind body = { m with
      queue := m.queue ++ [.event kind body], counters := { k with eventsAdmitted := bump k.eventsAdmitted } }) ∧
    (m.mask.getLsbD kind.code = true → 12 ≤ m.queue.length → m.offer kind body = { m with
      eventsLost := true, counters := { k with eventsLost := bump k.eventsLost } })

/-- Query Status answers a record of each of the twelve blocks, whose values are those of its rule in the rule's order, and
changes nothing; Clear Status clears the flags its mask names and no other; Clear Counters zeroes one block's counters and no
other's; Flush Inputs empties buffer, slot and sources and abandons an OPEN frame, and leaves all else as it stands (from R16, R17, R38, R61,
R76, R93, R94, R116, R117, R128, R142, R143, R158, R163, R172, R180, R181, R184; codes and widths that R184 does not settle
are log entries 16 and 17's). -/
def Obligations.StatusCommandsReadAndClear : Prop :=
  (∀ (s : State) (tick : Nat) (tag : Byte) (block : Nat), hasRoom s = true →
    let now := max s.now tick
    let s' := s.setNow now
    let frame := fun f : FrameNo => u32 f.toNat
    let counts := fun l : List Counter => l.flatMap fun c => u16 c.toNat
    let channel := fun ch : Option (Fin 512) => opt (fun i : Fin 512 => u16 i.val) ch
    let settings := fun x : PwmSettings => flag x.centre ++ flag x.activeLow ++ u8 x.phase ++ flag x.pair
    let a := s.intake
    let k0 := a.counters
    let intake := u8 a.link.code ++ u8 a.framer.code ++ [a.unitAddress] ++ flag (!a.locked) ++ a.label.data ++ u8 a.inUse ++
      (a.entries.data.flatMap fun e => u16 e.value.toNat ++ u16 e.mask.toNat ++ u8 e.cls.code ++ u8 e.source.val) ++
      u8 a.lane.length ++ u8 a.buffer.length ++ opt (fun m : TimeMark => frame m.frame) a.slot ++ flag a.linkLost ++
      flag a.laneOverflow ++ counts [k0.skippedBytes, k0.lengthErrors, k0.crcErrors, k0.abortedUnits, k0.linkLosses,
        k0.notAddressed, k0.unmatched, k0.filtered, k0.classLengthErrors, k0.managementUnits, k0.laneOverflows,
        k0.pictureUnits, k0.bufferOverflows, k0.levelUnits, k0.timeMarks, k0.marksReplaced]
    let t := s.timing
    let k1 := t.counters
    let grid := u8 t.grid.k ++ u8 t.grid.p ++ u16 t.grid.n
    let timing := frame t.frame ++ u8 t.reference.code ++ u8 t.lock.code ++ flag t.settled ++ u32 t.period ++ u32 t.length ++
      u32 (BitVec.ofInt 32 t.phaseError).toNat ++ u32 t.internalRate ++ u32 t.phaseOffset ++ grid ++
      ((List.finRange 4).flatMap fun i => u8 (t.functions.get i).code ++ flag (t.samples.get i)) ++ flag t.referenceLost ++
      counts [k1.invalidReferences, k1.acquisitionTimeouts, k1.locks, k1.holdoverEntries, k1.marksTaken, k1.lateMarks,
        k1.renumberings]
    let b := s.banks
    let k2 := b.counters
    let take := fun r : TakeRecord => frame r.frame ++ originBytes r.origin
    let bank := flag (!b.aActive) ++ flag b.clone.isSome ++
      (match b.take with
        | .idle => u8 0 ++ u8 0
        | .validating r => u8 1 ++ (u8 1 ++ take r)
        | .pending r => u8 2 ++ (u8 1 ++ take r)) ++
      (match b.last with
        | .none => u8 0
        | .committed effective late => u8 1 ++ frame effective ++ flag late
        | .failed (.validation f) => u8 2 ++ (u8 0 ++ u8 f.check.code ++ u8 f.check.table ++ u16 f.index)
        | .failed .alreadyPending => u8 2 ++ u8 1
        | .failed .bankBusy => u8 2 ++ u8 2
        | .cancelled => u8 3) ++
      flag b.lateTake ++ flag b.takeFailed ++ counts [k2.takesAccepted, k2.takesCommitted, k2.lateTakes,
        k2.validationsFailed, k2.requestsNotAccepted, k2.takesCancelled, k2.clones]
    let handed := fun x : PwmOutput => match x.staged with
      | .none => u8 0
      | .value v => u8 1 ++ u16 v ++ u8 0
      | .pair intensity mix => u8 1 ++ u16 intensity ++ u8 1 ++ u16 mix
    let level := ((List.finRange 8).flatMap fun c => channel (wallMasterChannel s.activeBank c) ++
        u16 (s.level.gains.get c).master ++ u16 (s.level.gains.get c).limiter) ++
      channel (grandMasterChannel s.activeBank) ++ u16 s.level.grandMaster ++ s.drive.data.flatMap handed
    let c := s.canvas
    let k4 := c.counters
    let canvas := opt (fun r : FrameRecord => u16 r.number.toNat ++ u8 r.state.code ++ opt frame r.assigned ++
        opt u16 r.lastLine ++ u16 r.lines.length ++ flag r.damaged) c.record ++ opt u16 (mappedLine c) ++
      flag c.operator ++ flag c.contact ++ flag c.auto ++ flag (c.operator || c.contact || c.auto) ++ u8 c.autoCount ++
      flag c.lightOperator ++ flag c.lightHold ++ flag c.frameDamaged ++ counts [k4.framesAssigned, k4.framesPresented,
        k4.framesDamaged, k4.framesSuperseded, k4.framesAbandoned, k4.lateUnits, k4.outOfOrderUnits, k4.outsideCanvasUnits,
        k4.clippedUnits, k4.unassignedUnits]
    let lanes := fun w : Option Lanes => opt (fun l : Lanes => u8 l.toNat) w
    let chain := (List.finRange 8).flatMap fun p =>
      let x := s.port p
      let l := x.latch
      let k := x.counters
      let isReturn := isRing s.activeBank p && decide (p.val % 2 = 1)
      u8 x.state.code ++ lanes x.width ++ opt (fun w : Lanes => u8 w.toNat ++ u8 x.count) x.offer ++ opt u8 x.holdoff ++
        u8 x.census ++ flag x.window.isSome ++ u8 x.surplus ++ u8 l.inForce ++ flag x.disable.isSome ++ flag x.retrain ++
        opt u16 x.cap ++ opt (fun d : Nat × Rate => u8 d.1 ++ u8 d.2.code) l.choice ++ flag l.pixelData ++ u32 l.pixels ++
        u8 (fedTiles l).length ++ flag x.broken ++ (if isReturn then u8 0 else u8 1 ++ u8 x.unfed) ++ u16 x.errors ++
        flag x.presenceChanged ++ flag x.widthNarrowed ++ flag x.retrainDone ++
        flag (decide ((l.choice.map Prod.snd) = some .overbooked)) ++ counts [k.trainingFailures, k.badExchanges,
          k.recoveries, k.recoveryFailures, k.censusRuns, k.overbookedIntervals, k.framesBroken, k.droppedSegments,
          k.normalMarkers, k.repeatMarkers, k.capsSent]
    let limiter := s.limiter.chains.data.flatMap fun x =>
      u16 x.budget ++ u16 x.step ++ u16 x.gain ++ u16 x.target ++ flag (decide (x.gain < 4096)) ++
        opt (fun d : Nat × FrameNo => u16 d.1 ++ frame d.2) x.demand ++
        opt (fun l : List Nat => u8 l.length ++ l.flatMap u16) x.tiles ++ flag x.unattainable ++
        counts [x.counters.updates, x.counters.attacks, x.counters.floored]
    let m := s.merge
    let silent := fun live : Bool => flag (!live)
    let merge := silent (decide (s.cue.state ≠ .idle)) ++ u8 m.priority0 ++ opt u8 m.request0 ++
      (m.sources.data.flatMap fun x => silent x.live ++ u8 x.priority ++ opt u8 x.request) ++
      (m.sources.data.flatMap fun x =>
        u16 x.timeout ++ u16 x.silence ++ u16 (x.cover.data.count true) ++ flag x.sourceLost) ++
      (m.look.data.flatMap fun e => u16 e.level.toNat ++ u8 ((e.decider.map Fin.val).getD 4)) ++
      m.sources.data.flatMap fun x => counts [x.levelUnits, x.silences]
    let q := s.cue
    let k8 := q.counters
    let cue := u8 q.state.code ++ (match q.state with
        | .haltedDelay => u8 1 ++ u8 1
        | .haltedFading => u8 1 ++ u8 2
        | .idle => u8 0
        | .delay => u8 0
        | .fading => u8 0
        | .resting => u8 0) ++
      opt u16 q.current ++ opt u16 q.target ++ opt u16 (if q.target = none then q.current else q.target) ++
      u16 q.delayLeft ++ frame q.start ++ u16 q.elapsed ++ u16 (q.fade.data.countP Option.isSome) ++
      u16 (q.cover.data.countP Option.isSome) ++ opt frame q.follow ++ u8 q.list.length ++
      (match q.origin with
        | .none => u8 0
        | .command g => u8 1 ++ (u8 0 ++ [g])
        | .contact i => u8 1 ++ (u8 1 ++ u8 i.val)
        | .follow => u8 1 ++ u8 2
        | .back => u8 1 ++ u8 3) ++
      counts [k8.gosAccepted, k8.contactGosRefused, k8.followsRefused, k8.fadesCompleted, k8.fadesInterrupted]
    let n := t.grid.n
    let shown := fun x : PwmOutput => match x.shown with
      | .idle => u8 0 ++ u8 0
      | .duty d => u8 1 ++ u16 (min d n) ++ u8 0 ++ (if c.lightHold then u8 1 ++ u16 d else u8 0)
      | .warm total w => u8 1 ++ u16 (min w (min total n)) ++ u8 1 ++ u16 (min total n) ++ u8 0 ++
        (if c.lightHold then u8 1 ++ u16 w else u8 0)
      | .cool total w => u8 1 ++ u16 (min total n - min w (min total n)) ++ u8 1 ++ u16 (min total n) ++ u8 1 ++
        (if c.lightHold then u8 1 ++ u16 (total - w) else u8 0)
    let staged := fun x : PwmOutput => match x.staged with
      | .none => u8 0
      | .value v => u8 1 ++ u16 v
      | .pair intensity mix => u8 2 ++ u16 intensity ++ u16 mix
    let drive := (s.drive.data.flatMap fun x => settings x.inForce ++ opt settings x.requested ++ shown x ++ staged x) ++ grid
    let fixture := s.fixture.data.flatMap fun x =>
      let k := x.counters
      flag x.refreshing ++ u8 x.rate.code ++ u8 x.divisor ++ u8 x.refreshCount ++
        opt (fun slots : List Byte => u16 slots.length) x.buffer ++
        (match x.shifter with
          | .idle => u8 0
          | .level _ _ slots => u8 1 ++ u16 slots.length
          | .query _ _ => u8 2
          | .cutOff _ _ _ => u8 0) ++
        opt (fun y : Query => u8 y.address ++ u8 y.kind.code ++ (match y.phase with
          | .waiting => u8 0
          | .sending => u8 1
          | .window closes => u8 2 ++ u32 (closes - now)
          | .closing => u8 2 ++ u32 0)) x.query ++
        u8 x.fifo.length ++ flag x.parity ++ flag x.framing ++ flag x.overrun ++ counts [k.framesSent, k.lateFrames,
          k.queriesSent, k.repliesGood, k.repliesBad, k.noReplies, k.receivedCharacters, k.unsolicitedFrames,
          k.framesDiscarded, k.overrunFrames]
    let g := s.mgmt
    let management := flag g.stalled ++ u8 g.queue.length ++
      (u8 (reservations s).length ++ (reservations s).flatMap fun r => [r.1, r.2]) ++ u16 g.mask.toNat ++
      flag g.eventsLost ++ counts [g.counters.stalls, g.counters.malformedUnits, g.counters.answersQueued,
        g.counters.eventsAdmitted, g.counters.eventsLost, g.counters.eventsMasked, g.counters.reportsTransmitted,
        g.counters.reportsResent]
    (∀ record, [intake, timing, bank, level, canvas, chain, limiter, merge, cue, drive, fixture, management][block]? =
      some record → Answers (exec (.queryStatus tick tag block) s) s' (.answer tag Code.queryStatus .ok record)) ∧
    (11 < block → Answers (exec (.queryStatus tick tag block) s) s' (.answer tag Code.queryStatus .outOfRange []))) ∧
  (∀ (s : State) (tag : Byte) (block mask : Nat), hasRoom s = true →
    let kept := fun (b k : Nat) (flag : Bool) => flag && !(decide (block = b) && mask.testBit k)
    (11 < block → Answers (exec (.clearStatus tag block mask) s) s (.answer tag Code.clearStatus .outOfRange []) ∧
      Answers (exec (.clearCounters tag block) s) s (.answer tag Code.clearCounters .outOfRange [])) ∧
    (block ≤ 11 → Answers (exec (.clearStatus tag block mask) s) { s with
        intake := { s.intake with
          linkLost := kept 0 0 s.intake.linkLost, laneOverflow := kept 0 1 s.intake.laneOverflow }
        timing := { s.timing with referenceLost := kept 1 0 s.timing.referenceLost }
        banks := { s.banks with lateTake := kept 2 0 s.banks.lateTake, takeFailed := kept 2 1 s.banks.takeFailed }
        canvas := { s.canvas with frameDamaged := kept 4 0 s.canvas.frameDamaged }
        ports := s.ports.mapFin fun p x => { x with
          presenceChanged := kept 5 (3 * p.val) x.presenceChanged
          widthNarrowed := kept 5 (3 * p.val + 1) x.widthNarrowed
          retrainDone := kept 5 (3 * p.val + 2) x.retrainDone }
        merge := { s.merge with sources := s.merge.sources.mapFin fun k x => { x with
          sourceLost := kept 7 k.val x.sourceLost } }
        fixture := s.fixture.mapFin fun p x => { x with
          parity := kept 10 (3 * p.val) x.parity, framing := kept 10 (3 * p.val + 1) x.framing
          overrun := kept 10 (3 * p.val + 2) x.overrun }
        mgmt := { s.mgmt with eventsLost := kept 11 0 s.mgmt.eventsLost } }
      (.answer tag Code.clearStatus .ok [])) ∧
    (block ≤ 11 → Answers (exec (.clearCounters tag block) s) { s with
        intake := { s.intake with counters := if block = 0 then IntakeCounters.zero else s.intake.counters }
        timing := { s.timing with counters := if block = 1 then TimingCounters.zero else s.timing.counters }
        banks := { s.banks with counters := if block = 2 then BankCounters.zero else s.banks.counters }
        canvas := { s.canvas with counters := if block = 4 then CanvasCounters.zero else s.canvas.counters }
        ports := s.ports.map fun x => { x with counters := if block = 5 then PortCounters.zero else x.counters }
        limiter := { s.limiter with chains := s.limiter.chains.map fun x => { x with
          counters := if block = 6 then LimiterCounters.zero else x.counters } }
        merge := { s.merge with sources := s.merge.sources.map fun x => { x with
          levelUnits := if block = 7 then 0 else x.levelUnits, silences := if block = 7 then 0 else x.silences } }
        cue := { s.cue with counters := if block = 8 then CueCounters.zero else s.cue.counters }
        fixture := s.fixture.map fun x => { x with
          counters := if block = 10 then FixtureCounters.zero else x.counters }
        mgmt := { s.mgmt with counters := if block = 11 then MgmtCounters.zero else s.mgmt.counters } }
      (.answer tag Code.clearCounters .ok []))) ∧
  ∀ (s : State) (tag : Byte), hasRoom s = true →
    let c := s.canvas
    let flushed := fun (canvas : Canvas) (limiter : Limiter) => Answers (exec (.flushInputs tag) s) { s with
        intake := { s.intake with buffer := [], slot := none }
        canvas := canvas
        limiter := limiter
        merge := { s.merge with sources := s.merge.sources.map fun x => { x with
          image := Tab.replicate 512 0, cover := Tab.replicate 512 false, live := false, silence := 0, unitSeen := false } } }
      (.answer tag Code.flushInputs .ok [])
    ((∀ r, c.record = some r → r.state ≠ .isOpen) → flushed c s.limiter) ∧
    ∀ r, c.record = some r → r.state = .isOpen →
      let mapping := c.engine.any fun job => job.unit.mark.isMapping
      flushed { c with
        record := some { r with state := .abandoned }
        engine := if mapping then none else c.engine
        counters := { c.counters with
          framesAbandoned := bump c.counters.framesAbandoned
          unassignedUnits := if mapping then bump c.counters.unassignedUnits else c.counters.unassignedUnits } }
        { s.limiter with accumulation := none }

/-- Every management unit gets exactly one answer: a unit that the engine starts, whatever its code and body, leaves the lane
and adds one to the answers queued and the answers reserved; a unit whose body holds the values of a command is decided as
that command; one whose code names no command, or whose body has not the length its command and its stated count require, is
answered MALFORMED; the engine without room leaves the unit where it is, stalled (from R174, R175, R176, R184; the row that
stands for a command outside the lane is log entry 2's, and the lengths by the sizes of R184 are log entry 26's; at which steps
the engine is found stalled is log entry 25's). -/
def Obligations.EveryUnitIsAnsweredOnce : Prop :=
  ∀ (s : State) (tick : Nat) (u : MgmtUnit) (rest : List MgmtUnit), s.intake.lane = u :: rest →
    (hasRoom s = true → ∃ t, exec (.managementUnitStart tick) s = .next t ∧ t.intake.lane = rest ∧
      t.now = max s.now tick ∧ answersIn t + (reservations t).length = answersIn s + (reservations s).length + 1) ∧
    (∀ (c : Instr) (code tag : Byte) (body : List Byte), hasRoom s = true → c.wellFormed = true →
      managementBody tick c = some (code, tag, body) → u = ⟨code, tag, filledBody body⟩ →
      exec (.managementUnitStart tick) s =
        exec c ((s.setNow (max s.now tick)).setIntake { s.intake with lane := rest })) ∧
    (hasRoom s = true →
      let code := u.code.toNat
      let malformed := Answers (exec (.managementUnitStart tick) s)
        (((s.setNow (max s.now tick)).setIntake { s.intake with lane := rest }).setMgmt { s.mgmt with
          counters := { s.mgmt.counters with malformedUnits := bump s.mgmt.counters.malformedUnits } })
        (.answer u.tag u.code .malformed [])
      (code = 0 ∨ 45 < code → malformed) ∧
      (∀ x ∈ [(1, 17), (2, 7), (3, 1), (4, 1), (5, 4), (6, 4), (7, 1), (8, 2), (11, 1), (12, 4), (17, 6), (18, 0), (19, 5),
          (20, 0), (21, 1), (22, 1), (23, 1), (24, 1), (25, 1), (26, 5), (27, 2), (28, 3), (30, 2), (31, 2), (32, 0),
          (33, 2), (34, 0), (35, 0), (36, 0), (37, 0), (38, 5), (39, 4), (40, 3), (41, 2), (42, 1), (43, 5), (44, 1),
          (45, 0)],
        code = x.1 → u.body.length ≠ max x.2 2 → malformed) ∧
      (∀ x ∈ [(9, 20), (10, 1), (13, 2), (14, 2), (15, 9), (16, 2)],
        code = x.1 → u.body.length ≠ 4 + wordAt u.body 2 * x.2 → malformed) ∧
      (code = 29 → u.body.length ≠ 13 + 4 * byteAt u.body 2 → malformed)) ∧
    (hasRoom s = false → exec (.managementUnitStart tick) s = .next ((s.setNow (max s.now tick)).setMgmt { s.mgmt with
      stalled := true
      counters := { s.mgmt.counters with
        stalls := if s.mgmt.stalled then s.mgmt.counters.stalls else bump s.mgmt.counters.stalls } }))

/-! ## Invariants and resets -/

/-- Either reset leaves every block at its defaults with the samples it took, the commands that wait and the free values in
place, the Report Queue empty but for the CHAIN_STATE events of the ports whose partner is present, which are in TRAINING and
offer four lanes, and every other port at its defaults; a line reset keeps the identity; the state after reset is sound and
holds the values of the reset tables (`State.AtDefaults`) (from
R7, R18, R35, R39, R41, R62, R95, R97, R117, R129, R144, R145, R148, R160, R173, R182; the values no rule gives, tick 0, refresh
count 1 and the slow receive rate among them, are log entry 5's, what stays is log entry 8's, the one pattern of an offer and
the cause of its event are log entry 24's, and that the ports act in ascending number is log entry 7's). -/
def Obligations.ResetsRestoreDefaults : Prop :=
  State.reset.Sound ∧ State.reset.AtDefaults ∧
  ∀ (s : State) (gp : Tab 4 Bool),
    let present := (List.finRange 8).filter fun p => (s.port p).partner
    let training : Port := { Port.reset with partner := true, state := .training, offer := some .four }
    let event := fun p : Fin 8 => Report.event .chainState
      (u8 p.val ++ u8 PortState.down.code ++ u8 PortState.training.code ++ u8 0 ++ u8 0)
    let defaults : State := { State.reset with
      timing := { Timing.reset with samples := gp }, draws := s.draws, pending := s.pending
      ports := s.ports.map fun x => if x.partner then training else Port.reset
      sent := present.map fun p => .chain p .four (.pattern .four)
      mgmt := { Mgmt.reset with
        queue := present.map event
        counters := { Mgmt.reset.counters with eventsAdmitted := BitVec.ofNat 16 present.length } } }
    exec (.powerOnReset gp) s = .next defaults ∧
    exec (.lineReset gp) s = .next { defaults with
      intake := { Intake.reset with
        unitAddress := s.intake.unitAddress, locked := s.intake.locked, label := s.intake.label } }

/-- Every step keeps the room rule and the engine's stall, the sizes of the lanes and FIFOs, and the intake's facts (from
R1, R3, R5, R7, R10, R12, R13, R170, R174, R179). -/
def Obligations.StepsKeepQueuesAndIntake : Prop :=
  ∀ s t : State, step s = .next t →
    (QueueSound s → QueueSound t) ∧ (LanesSound s → LanesSound t) ∧ (IntakeSound s → IntakeSound t)

/-- Every step keeps the active bank validated, with the staged bank of a PENDING take, and no Clone beside a take (from R40,
R44, R46, R47, R55). -/
def Obligations.StepsKeepBanksValidated : Prop :=
  ∀ s t : State, step s = .next t → BanksSound s → BanksSound t

/-- Every step keeps period, interval and grid in their ranges, INTERNAL free-running and no phase outside LOCKED (from
section 2.1, R19, R21, R22, R33, Table 2-2). -/
def Obligations.StepsKeepTimingInRange : Prop :=
  ∀ s t : State, step s = .next t → TimingSound s → TimingSound t

/-- Every step keeps the canvas: no frame OPEN under a hold, accumulation just while one is OPEN, and nothing marked for mapping
but units of the OPEN record's frame, by its number (from R78, R83, R87, R88, R121). -/
def Obligations.StepsKeepCanvasSound : Prop :=
  ∀ s t : State, step s = .next t → CanvasSound s → CanvasSound t

/-- Every step keeps every chain port's state and what it holds in it in agreement; and the fixture ports: a query being sent
by the shifter alone, no work waiting on an idle shifter, no work in OFF (from R97, R98, R100, R101, R104, R106, R164, R166,
R167, R169). -/
def Obligations.StepsKeepPortsSound : Prop :=
  ∀ s t : State, step s = .next t → (ChainSound s → ChainSound t) ∧ (FixturesSound s → FixturesSound t)

/-- Every step keeps limiter gains within targets, sources and priorities in their ranges, and the pairs of outputs in
agreement (from R119, R124, R125, R130, R132, R133, R135, R159, R160, R161). -/
def Obligations.StepsKeepLevelsSound : Prop :=
  ∀ s t : State, step s = .next t →
    (LimiterSound s → LimiterSound t) ∧ (MergeSound s → MergeSound t) ∧ (DriveSound s → DriveSound t)

/-- Every step keeps the cue list sorted, in range and within 64, and the current and target cues in it, as the playback
state has them (from R145, R146, R147, R148, R149, R153, R155). -/
def Obligations.StepsKeepCueListSound : Prop :=
  ∀ s t : State, step s = .next t → CueSound s → CueSound t
end

