-- ==== Sys2Proof/Laws/State.lean ====
section
/-! SUPPORT. What each one-block update of the state leaves: one lemma for each field of each update, true by rfl. -/

namespace Sys2Proof.Machine

/-! ### setNow -/

@[simp] theorem State.setNow_now (s : State) (x : Nat) : (s.setNow x).now = x := rfl
@[simp] theorem State.setNow_intake (s : State) (x : Nat) : (s.setNow x).intake = s.intake := rfl
@[simp] theorem State.setNow_timing (s : State) (x : Nat) : (s.setNow x).timing = s.timing := rfl
@[simp] theorem State.setNow_banks (s : State) (x : Nat) : (s.setNow x).banks = s.banks := rfl
@[simp] theorem State.setNow_level (s : State) (x : Nat) : (s.setNow x).level = s.level := rfl
@[simp] theorem State.setNow_canvas (s : State) (x : Nat) : (s.setNow x).canvas = s.canvas := rfl
@[simp] theorem State.setNow_ports (s : State) (x : Nat) : (s.setNow x).ports = s.ports := rfl
@[simp] theorem State.setNow_limiter (s : State) (x : Nat) : (s.setNow x).limiter = s.limiter := rfl
@[simp] theorem State.setNow_merge (s : State) (x : Nat) : (s.setNow x).merge = s.merge := rfl
@[simp] theorem State.setNow_cue (s : State) (x : Nat) : (s.setNow x).cue = s.cue := rfl
@[simp] theorem State.setNow_drive (s : State) (x : Nat) : (s.setNow x).drive = s.drive := rfl
@[simp] theorem State.setNow_fixture (s : State) (x : Nat) : (s.setNow x).fixture = s.fixture := rfl
@[simp] theorem State.setNow_mgmt (s : State) (x : Nat) : (s.setNow x).mgmt = s.mgmt := rfl
@[simp] theorem State.setNow_sent (s : State) (x : Nat) : (s.setNow x).sent = s.sent := rfl
@[simp] theorem State.setNow_draws (s : State) (x : Nat) : (s.setNow x).draws = s.draws := rfl
@[simp] theorem State.setNow_pending (s : State) (x : Nat) : (s.setNow x).pending = s.pending := rfl
@[simp] theorem State.setNow_setNow (s : State) (x y : Nat) : (s.setNow x).setNow y = s.setNow y := rfl
@[simp] theorem State.setNow_self (s : State) : s.setNow s.now = s := rfl

/-! ### setIntake -/

@[simp] theorem State.setIntake_now (s : State) (x : Intake) : (s.setIntake x).now = s.now := rfl
@[simp] theorem State.setIntake_intake (s : State) (x : Intake) : (s.setIntake x).intake = x := rfl
@[simp] theorem State.setIntake_timing (s : State) (x : Intake) : (s.setIntake x).timing = s.timing := rfl
@[simp] theorem State.setIntake_banks (s : State) (x : Intake) : (s.setIntake x).banks = s.banks := rfl
@[simp] theorem State.setIntake_level (s : State) (x : Intake) : (s.setIntake x).level = s.level := rfl
@[simp] theorem State.setIntake_canvas (s : State) (x : Intake) : (s.setIntake x).canvas = s.canvas := rfl
@[simp] theorem State.setIntake_ports (s : State) (x : Intake) : (s.setIntake x).ports = s.ports := rfl
@[simp] theorem State.setIntake_limiter (s : State) (x : Intake) : (s.setIntake x).limiter = s.limiter := rfl
@[simp] theorem State.setIntake_merge (s : State) (x : Intake) : (s.setIntake x).merge = s.merge := rfl
@[simp] theorem State.setIntake_cue (s : State) (x : Intake) : (s.setIntake x).cue = s.cue := rfl
@[simp] theorem State.setIntake_drive (s : State) (x : Intake) : (s.setIntake x).drive = s.drive := rfl
@[simp] theorem State.setIntake_fixture (s : State) (x : Intake) : (s.setIntake x).fixture = s.fixture := rfl
@[simp] theorem State.setIntake_mgmt (s : State) (x : Intake) : (s.setIntake x).mgmt = s.mgmt := rfl
@[simp] theorem State.setIntake_sent (s : State) (x : Intake) : (s.setIntake x).sent = s.sent := rfl
@[simp] theorem State.setIntake_draws (s : State) (x : Intake) : (s.setIntake x).draws = s.draws := rfl
@[simp] theorem State.setIntake_pending (s : State) (x : Intake) : (s.setIntake x).pending = s.pending := rfl
@[simp] theorem State.setIntake_setIntake (s : State) (x y : Intake) : (s.setIntake x).setIntake y = s.setIntake y := rfl
@[simp] theorem State.setIntake_self (s : State) : s.setIntake s.intake = s := rfl

/-! ### setTiming -/

@[simp] theorem State.setTiming_now (s : State) (x : Timing) : (s.setTiming x).now = s.now := rfl
@[simp] theorem State.setTiming_intake (s : State) (x : Timing) : (s.setTiming x).intake = s.intake := rfl
@[simp] theorem State.setTiming_timing (s : State) (x : Timing) : (s.setTiming x).timing = x := rfl
@[simp] theorem State.setTiming_banks (s : State) (x : Timing) : (s.setTiming x).banks = s.banks := rfl
@[simp] theorem State.setTiming_level (s : State) (x : Timing) : (s.setTiming x).level = s.level := rfl
@[simp] theorem State.setTiming_canvas (s : State) (x : Timing) : (s.setTiming x).canvas = s.canvas := rfl
@[simp] theorem State.setTiming_ports (s : State) (x : Timing) : (s.setTiming x).ports = s.ports := rfl
@[simp] theorem State.setTiming_limiter (s : State) (x : Timing) : (s.setTiming x).limiter = s.limiter := rfl
@[simp] theorem State.setTiming_merge (s : State) (x : Timing) : (s.setTiming x).merge = s.merge := rfl
@[simp] theorem State.setTiming_cue (s : State) (x : Timing) : (s.setTiming x).cue = s.cue := rfl
@[simp] theorem State.setTiming_drive (s : State) (x : Timing) : (s.setTiming x).drive = s.drive := rfl
@[simp] theorem State.setTiming_fixture (s : State) (x : Timing) : (s.setTiming x).fixture = s.fixture := rfl
@[simp] theorem State.setTiming_mgmt (s : State) (x : Timing) : (s.setTiming x).mgmt = s.mgmt := rfl
@[simp] theorem State.setTiming_sent (s : State) (x : Timing) : (s.setTiming x).sent = s.sent := rfl
@[simp] theorem State.setTiming_draws (s : State) (x : Timing) : (s.setTiming x).draws = s.draws := rfl
@[simp] theorem State.setTiming_pending (s : State) (x : Timing) : (s.setTiming x).pending = s.pending := rfl
@[simp] theorem State.setTiming_setTiming (s : State) (x y : Timing) : (s.setTiming x).setTiming y = s.setTiming y := rfl
@[simp] theorem State.setTiming_self (s : State) : s.setTiming s.timing = s := rfl

/-! ### setBanks -/

@[simp] theorem State.setBanks_now (s : State) (x : Banks) : (s.setBanks x).now = s.now := rfl
@[simp] theorem State.setBanks_intake (s : State) (x : Banks) : (s.setBanks x).intake = s.intake := rfl
@[simp] theorem State.setBanks_timing (s : State) (x : Banks) : (s.setBanks x).timing = s.timing := rfl
@[simp] theorem State.setBanks_banks (s : State) (x : Banks) : (s.setBanks x).banks = x := rfl
@[simp] theorem State.setBanks_level (s : State) (x : Banks) : (s.setBanks x).level = s.level := rfl
@[simp] theorem State.setBanks_canvas (s : State) (x : Banks) : (s.setBanks x).canvas = s.canvas := rfl
@[simp] theorem State.setBanks_ports (s : State) (x : Banks) : (s.setBanks x).ports = s.ports := rfl
@[simp] theorem State.setBanks_limiter (s : State) (x : Banks) : (s.setBanks x).limiter = s.limiter := rfl
@[simp] theorem State.setBanks_merge (s : State) (x : Banks) : (s.setBanks x).merge = s.merge := rfl
@[simp] theorem State.setBanks_cue (s : State) (x : Banks) : (s.setBanks x).cue = s.cue := rfl
@[simp] theorem State.setBanks_drive (s : State) (x : Banks) : (s.setBanks x).drive = s.drive := rfl
@[simp] theorem State.setBanks_fixture (s : State) (x : Banks) : (s.setBanks x).fixture = s.fixture := rfl
@[simp] theorem State.setBanks_mgmt (s : State) (x : Banks) : (s.setBanks x).mgmt = s.mgmt := rfl
@[simp] theorem State.setBanks_sent (s : State) (x : Banks) : (s.setBanks x).sent = s.sent := rfl
@[simp] theorem State.setBanks_draws (s : State) (x : Banks) : (s.setBanks x).draws = s.draws := rfl
@[simp] theorem State.setBanks_pending (s : State) (x : Banks) : (s.setBanks x).pending = s.pending := rfl
@[simp] theorem State.setBanks_setBanks (s : State) (x y : Banks) : (s.setBanks x).setBanks y = s.setBanks y := rfl
@[simp] theorem State.setBanks_self (s : State) : s.setBanks s.banks = s := rfl

/-! ### setLevel -/

@[simp] theorem State.setLevel_now (s : State) (x : LevelPath) : (s.setLevel x).now = s.now := rfl
@[simp] theorem State.setLevel_intake (s : State) (x : LevelPath) : (s.setLevel x).intake = s.intake := rfl
@[simp] theorem State.setLevel_timing (s : State) (x : LevelPath) : (s.setLevel x).timing = s.timing := rfl
@[simp] theorem State.setLevel_banks (s : State) (x : LevelPath) : (s.setLevel x).banks = s.banks := rfl
@[simp] theorem State.setLevel_level (s : State) (x : LevelPath) : (s.setLevel x).level = x := rfl
@[simp] theorem State.setLevel_canvas (s : State) (x : LevelPath) : (s.setLevel x).canvas = s.canvas := rfl
@[simp] theorem State.setLevel_ports (s : State) (x : LevelPath) : (s.setLevel x).ports = s.ports := rfl
@[simp] theorem State.setLevel_limiter (s : State) (x : LevelPath) : (s.setLevel x).limiter = s.limiter := rfl
@[simp] theorem State.setLevel_merge (s : State) (x : LevelPath) : (s.setLevel x).merge = s.merge := rfl
@[simp] theorem State.setLevel_cue (s : State) (x : LevelPath) : (s.setLevel x).cue = s.cue := rfl
@[simp] theorem State.setLevel_drive (s : State) (x : LevelPath) : (s.setLevel x).drive = s.drive := rfl
@[simp] theorem State.setLevel_fixture (s : State) (x : LevelPath) : (s.setLevel x).fixture = s.fixture := rfl
@[simp] theorem State.setLevel_mgmt (s : State) (x : LevelPath) : (s.setLevel x).mgmt = s.mgmt := rfl
@[simp] theorem State.setLevel_sent (s : State) (x : LevelPath) : (s.setLevel x).sent = s.sent := rfl
@[simp] theorem State.setLevel_draws (s : State) (x : LevelPath) : (s.setLevel x).draws = s.draws := rfl
@[simp] theorem State.setLevel_pending (s : State) (x : LevelPath) : (s.setLevel x).pending = s.pending := rfl
@[simp] theorem State.setLevel_setLevel (s : State) (x y : LevelPath) : (s.setLevel x).setLevel y = s.setLevel y := rfl
@[simp] theorem State.setLevel_self (s : State) : s.setLevel s.level = s := rfl

/-! ### setCanvas -/

@[simp] theorem State.setCanvas_now (s : State) (x : Canvas) : (s.setCanvas x).now = s.now := rfl
@[simp] theorem State.setCanvas_intake (s : State) (x : Canvas) : (s.setCanvas x).intake = s.intake := rfl
@[simp] theorem State.setCanvas_timing (s : State) (x : Canvas) : (s.setCanvas x).timing = s.timing := rfl
@[simp] theorem State.setCanvas_banks (s : State) (x : Canvas) : (s.setCanvas x).banks = s.banks := rfl
@[simp] theorem State.setCanvas_level (s : State) (x : Canvas) : (s.setCanvas x).level = s.level := rfl
@[simp] theorem State.setCanvas_canvas (s : State) (x : Canvas) : (s.setCanvas x).canvas = x := rfl
@[simp] theorem State.setCanvas_ports (s : State) (x : Canvas) : (s.setCanvas x).ports = s.ports := rfl
@[simp] theorem State.setCanvas_limiter (s : State) (x : Canvas) : (s.setCanvas x).limiter = s.limiter := rfl
@[simp] theorem State.setCanvas_merge (s : State) (x : Canvas) : (s.setCanvas x).merge = s.merge := rfl
@[simp] theorem State.setCanvas_cue (s : State) (x : Canvas) : (s.setCanvas x).cue = s.cue := rfl
@[simp] theorem State.setCanvas_drive (s : State) (x : Canvas) : (s.setCanvas x).drive = s.drive := rfl
@[simp] theorem State.setCanvas_fixture (s : State) (x : Canvas) : (s.setCanvas x).fixture = s.fixture := rfl
@[simp] theorem State.setCanvas_mgmt (s : State) (x : Canvas) : (s.setCanvas x).mgmt = s.mgmt := rfl
@[simp] theorem State.setCanvas_sent (s : State) (x : Canvas) : (s.setCanvas x).sent = s.sent := rfl
@[simp] theorem State.setCanvas_draws (s : State) (x : Canvas) : (s.setCanvas x).draws = s.draws := rfl
@[simp] theorem State.setCanvas_pending (s : State) (x : Canvas) : (s.setCanvas x).pending = s.pending := rfl
@[simp] theorem State.setCanvas_setCanvas (s : State) (x y : Canvas) : (s.setCanvas x).setCanvas y = s.setCanvas y := rfl
@[simp] theorem State.setCanvas_self (s : State) : s.setCanvas s.canvas = s := rfl

/-! ### setPorts -/

@[simp] theorem State.setPorts_now (s : State) (x : Tab 8 Port) : (s.setPorts x).now = s.now := rfl
@[simp] theorem State.setPorts_intake (s : State) (x : Tab 8 Port) : (s.setPorts x).intake = s.intake := rfl
@[simp] theorem State.setPorts_timing (s : State) (x : Tab 8 Port) : (s.setPorts x).timing = s.timing := rfl
@[simp] theorem State.setPorts_banks (s : State) (x : Tab 8 Port) : (s.setPorts x).banks = s.banks := rfl
@[simp] theorem State.setPorts_level (s : State) (x : Tab 8 Port) : (s.setPorts x).level = s.level := rfl
@[simp] theorem State.setPorts_canvas (s : State) (x : Tab 8 Port) : (s.setPorts x).canvas = s.canvas := rfl
@[simp] theorem State.setPorts_ports (s : State) (x : Tab 8 Port) : (s.setPorts x).ports = x := rfl
@[simp] theorem State.setPorts_limiter (s : State) (x : Tab 8 Port) : (s.setPorts x).limiter = s.limiter := rfl
@[simp] theorem State.setPorts_merge (s : State) (x : Tab 8 Port) : (s.setPorts x).merge = s.merge := rfl
@[simp] theorem State.setPorts_cue (s : State) (x : Tab 8 Port) : (s.setPorts x).cue = s.cue := rfl
@[simp] theorem State.setPorts_drive (s : State) (x : Tab 8 Port) : (s.setPorts x).drive = s.drive := rfl
@[simp] theorem State.setPorts_fixture (s : State) (x : Tab 8 Port) : (s.setPorts x).fixture = s.fixture := rfl
@[simp] theorem State.setPorts_mgmt (s : State) (x : Tab 8 Port) : (s.setPorts x).mgmt = s.mgmt := rfl
@[simp] theorem State.setPorts_sent (s : State) (x : Tab 8 Port) : (s.setPorts x).sent = s.sent := rfl
@[simp] theorem State.setPorts_draws (s : State) (x : Tab 8 Port) : (s.setPorts x).draws = s.draws := rfl
@[simp] theorem State.setPorts_pending (s : State) (x : Tab 8 Port) : (s.setPorts x).pending = s.pending := rfl
@[simp] theorem State.setPorts_setPorts (s : State) (x y : Tab 8 Port) : (s.setPorts x).setPorts y = s.setPorts y := rfl
@[simp] theorem State.setPorts_self (s : State) : s.setPorts s.ports = s := rfl

/-! ### setLimiter -/

@[simp] theorem State.setLimiter_now (s : State) (x : Limiter) : (s.setLimiter x).now = s.now := rfl
@[simp] theorem State.setLimiter_intake (s : State) (x : Limiter) : (s.setLimiter x).intake = s.intake := rfl
@[simp] theorem State.setLimiter_timing (s : State) (x : Limiter) : (s.setLimiter x).timing = s.timing := rfl
@[simp] theorem State.setLimiter_banks (s : State) (x : Limiter) : (s.setLimiter x).banks = s.banks := rfl
@[simp] theorem State.setLimiter_level (s : State) (x : Limiter) : (s.setLimiter x).level = s.level := rfl
@[simp] theorem State.setLimiter_canvas (s : State) (x : Limiter) : (s.setLimiter x).canvas = s.canvas := rfl
@[simp] theorem State.setLimiter_ports (s : State) (x : Limiter) : (s.setLimiter x).ports = s.ports := rfl
@[simp] theorem State.setLimiter_limiter (s : State) (x : Limiter) : (s.setLimiter x).limiter = x := rfl
@[simp] theorem State.setLimiter_merge (s : State) (x : Limiter) : (s.setLimiter x).merge = s.merge := rfl
@[simp] theorem State.setLimiter_cue (s : State) (x : Limiter) : (s.setLimiter x).cue = s.cue := rfl
@[simp] theorem State.setLimiter_drive (s : State) (x : Limiter) : (s.setLimiter x).drive = s.drive := rfl
@[simp] theorem State.setLimiter_fixture (s : State) (x : Limiter) : (s.setLimiter x).fixture = s.fixture := rfl
@[simp] theorem State.setLimiter_mgmt (s : State) (x : Limiter) : (s.setLimiter x).mgmt = s.mgmt := rfl
@[simp] theorem State.setLimiter_sent (s : State) (x : Limiter) : (s.setLimiter x).sent = s.sent := rfl
@[simp] theorem State.setLimiter_draws (s : State) (x : Limiter) : (s.setLimiter x).draws = s.draws := rfl
@[simp] theorem State.setLimiter_pending (s : State) (x : Limiter) : (s.setLimiter x).pending = s.pending := rfl
@[simp] theorem State.setLimiter_setLimiter (s : State) (x y : Limiter) : (s.setLimiter x).setLimiter y = s.setLimiter y := rfl
@[simp] theorem State.setLimiter_self (s : State) : s.setLimiter s.limiter = s := rfl

/-! ### setMerge -/

@[simp] theorem State.setMerge_now (s : State) (x : Merge) : (s.setMerge x).now = s.now := rfl
@[simp] theorem State.setMerge_intake (s : State) (x : Merge) : (s.setMerge x).intake = s.intake := rfl
@[simp] theorem State.setMerge_timing (s : State) (x : Merge) : (s.setMerge x).timing = s.timing := rfl
@[simp] theorem State.setMerge_banks (s : State) (x : Merge) : (s.setMerge x).banks = s.banks := rfl
@[simp] theorem State.setMerge_level (s : State) (x : Merge) : (s.setMerge x).level = s.level := rfl
@[simp] theorem State.setMerge_canvas (s : State) (x : Merge) : (s.setMerge x).canvas = s.canvas := rfl
@[simp] theorem State.setMerge_ports (s : State) (x : Merge) : (s.setMerge x).ports = s.ports := rfl
@[simp] theorem State.setMerge_limiter (s : State) (x : Merge) : (s.setMerge x).limiter = s.limiter := rfl
@[simp] theorem State.setMerge_merge (s : State) (x : Merge) : (s.setMerge x).merge = x := rfl
@[simp] theorem State.setMerge_cue (s : State) (x : Merge) : (s.setMerge x).cue = s.cue := rfl
@[simp] theorem State.setMerge_drive (s : State) (x : Merge) : (s.setMerge x).drive = s.drive := rfl
@[simp] theorem State.setMerge_fixture (s : State) (x : Merge) : (s.setMerge x).fixture = s.fixture := rfl
@[simp] theorem State.setMerge_mgmt (s : State) (x : Merge) : (s.setMerge x).mgmt = s.mgmt := rfl
@[simp] theorem State.setMerge_sent (s : State) (x : Merge) : (s.setMerge x).sent = s.sent := rfl
@[simp] theorem State.setMerge_draws (s : State) (x : Merge) : (s.setMerge x).draws = s.draws := rfl
@[simp] theorem State.setMerge_pending (s : State) (x : Merge) : (s.setMerge x).pending = s.pending := rfl
@[simp] theorem State.setMerge_setMerge (s : State) (x y : Merge) : (s.setMerge x).setMerge y = s.setMerge y := rfl
@[simp] theorem State.setMerge_self (s : State) : s.setMerge s.merge = s := rfl

/-! ### setCue -/

@[simp] theorem State.setCue_now (s : State) (x : Cue) : (s.setCue x).now = s.now := rfl
@[simp] theorem State.setCue_intake (s : State) (x : Cue) : (s.setCue x).intake = s.intake := rfl
@[simp] theorem State.setCue_timing (s : State) (x : Cue) : (s.setCue x).timing = s.timing := rfl
@[simp] theorem State.setCue_banks (s : State) (x : Cue) : (s.setCue x).banks = s.banks := rfl
@[simp] theorem State.setCue_level (s : State) (x : Cue) : (s.setCue x).level = s.level := rfl
@[simp] theorem State.setCue_canvas (s : State) (x : Cue) : (s.setCue x).canvas = s.canvas := rfl
@[simp] theorem State.setCue_ports (s : State) (x : Cue) : (s.setCue x).ports = s.ports := rfl
@[simp] theorem State.setCue_limiter (s : State) (x : Cue) : (s.setCue x).limiter = s.limiter := rfl
@[simp] theorem State.setCue_merge (s : State) (x : Cue) : (s.setCue x).merge = s.merge := rfl
@[simp] theorem State.setCue_cue (s : State) (x : Cue) : (s.setCue x).cue = x := rfl
@[simp] theorem State.setCue_drive (s : State) (x : Cue) : (s.setCue x).drive = s.drive := rfl
@[simp] theorem State.setCue_fixture (s : State) (x : Cue) : (s.setCue x).fixture = s.fixture := rfl
@[simp] theorem State.setCue_mgmt (s : State) (x : Cue) : (s.setCue x).mgmt = s.mgmt := rfl
@[simp] theorem State.setCue_sent (s : State) (x : Cue) : (s.setCue x).sent = s.sent := rfl
@[simp] theorem State.setCue_draws (s : State) (x : Cue) : (s.setCue x).draws = s.draws := rfl
@[simp] theorem State.setCue_pending (s : State) (x : Cue) : (s.setCue x).pending = s.pending := rfl
@[simp] theorem State.setCue_setCue (s : State) (x y : Cue) : (s.setCue x).setCue y = s.setCue y := rfl
@[simp] theorem State.setCue_self (s : State) : s.setCue s.cue = s := rfl

/-! ### setDrive -/

@[simp] theorem State.setDrive_now (s : State) (x : Tab 16 PwmOutput) : (s.setDrive x).now = s.now := rfl
@[simp] theorem State.setDrive_intake (s : State) (x : Tab 16 PwmOutput) : (s.setDrive x).intake = s.intake := rfl
@[simp] theorem State.setDrive_timing (s : State) (x : Tab 16 PwmOutput) : (s.setDrive x).timing = s.timing := rfl
@[simp] theorem State.setDrive_banks (s : State) (x : Tab 16 PwmOutput) : (s.setDrive x).banks = s.banks := rfl
@[simp] theorem State.setDrive_level (s : State) (x : Tab 16 PwmOutput) : (s.setDrive x).level = s.level := rfl
@[simp] theorem State.setDrive_canvas (s : State) (x : Tab 16 PwmOutput) : (s.setDrive x).canvas = s.canvas := rfl
@[simp] theorem State.setDrive_ports (s : State) (x : Tab 16 PwmOutput) : (s.setDrive x).ports = s.ports := rfl
@[simp] theorem State.setDrive_limiter (s : State) (x : Tab 16 PwmOutput) : (s.setDrive x).limiter = s.limiter := rfl
@[simp] theorem State.setDrive_merge (s : State) (x : Tab 16 PwmOutput) : (s.setDrive x).merge = s.merge := rfl
@[simp] theorem State.setDrive_cue (s : State) (x : Tab 16 PwmOutput) : (s.setDrive x).cue = s.cue := rfl
@[simp] theorem State.setDrive_drive (s : State) (x : Tab 16 PwmOutput) : (s.setDrive x).drive = x := rfl
@[simp] theorem State.setDrive_fixture (s : State) (x : Tab 16 PwmOutput) : (s.setDrive x).fixture = s.fixture := rfl
@[simp] theorem State.setDrive_mgmt (s : State) (x : Tab 16 PwmOutput) : (s.setDrive x).mgmt = s.mgmt := rfl
@[simp] theorem State.setDrive_sent (s : State) (x : Tab 16 PwmOutput) : (s.setDrive x).sent = s.sent := rfl
@[simp] theorem State.setDrive_draws (s : State) (x : Tab 16 PwmOutput) : (s.setDrive x).draws = s.draws := rfl
@[simp] theorem State.setDrive_pending (s : State) (x : Tab 16 PwmOutput) : (s.setDrive x).pending = s.pending := rfl
@[simp] theorem State.setDrive_setDrive (s : State) (x y : Tab 16 PwmOutput) : (s.setDrive x).setDrive y = s.setDrive y := rfl
@[simp] theorem State.setDrive_self (s : State) : s.setDrive s.drive = s := rfl

/-! ### setFixture -/

@[simp] theorem State.setFixture_now (s : State) (x : Tab 2 FixturePort) : (s.setFixture x).now = s.now := rfl
@[simp] theorem State.setFixture_intake (s : State) (x : Tab 2 FixturePort) : (s.setFixture x).intake = s.intake := rfl
@[simp] theorem State.setFixture_timing (s : State) (x : Tab 2 FixturePort) : (s.setFixture x).timing = s.timing := rfl
@[simp] theorem State.setFixture_banks (s : State) (x : Tab 2 FixturePort) : (s.setFixture x).banks = s.banks := rfl
@[simp] theorem State.setFixture_level (s : State) (x : Tab 2 FixturePort) : (s.setFixture x).level = s.level := rfl
@[simp] theorem State.setFixture_canvas (s : State) (x : Tab 2 FixturePort) : (s.setFixture x).canvas = s.canvas := rfl
@[simp] theorem State.setFixture_ports (s : State) (x : Tab 2 FixturePort) : (s.setFixture x).ports = s.ports := rfl
@[simp] theorem State.setFixture_limiter (s : State) (x : Tab 2 FixturePort) : (s.setFixture x).limiter = s.limiter := rfl
@[simp] theorem State.setFixture_merge (s : State) (x : Tab 2 FixturePort) : (s.setFixture x).merge = s.merge := rfl
@[simp] theorem State.setFixture_cue (s : State) (x : Tab 2 FixturePort) : (s.setFixture x).cue = s.cue := rfl
@[simp] theorem State.setFixture_drive (s : State) (x : Tab 2 FixturePort) : (s.setFixture x).drive = s.drive := rfl
@[simp] theorem State.setFixture_fixture (s : State) (x : Tab 2 FixturePort) : (s.setFixture x).fixture = x := rfl
@[simp] theorem State.setFixture_mgmt (s : State) (x : Tab 2 FixturePort) : (s.setFixture x).mgmt = s.mgmt := rfl
@[simp] theorem State.setFixture_sent (s : State) (x : Tab 2 FixturePort) : (s.setFixture x).sent = s.sent := rfl
@[simp] theorem State.setFixture_draws (s : State) (x : Tab 2 FixturePort) : (s.setFixture x).draws = s.draws := rfl
@[simp] theorem State.setFixture_pending (s : State) (x : Tab 2 FixturePort) : (s.setFixture x).pending = s.pending := rfl
@[simp] theorem State.setFixture_setFixture (s : State) (x y : Tab 2 FixturePort) : (s.setFixture x).setFixture y = s.setFixture y := rfl
@[simp] theorem State.setFixture_self (s : State) : s.setFixture s.fixture = s := rfl

/-! ### setMgmt -/

@[simp] theorem State.setMgmt_now (s : State) (x : Mgmt) : (s.setMgmt x).now = s.now := rfl
@[simp] theorem State.setMgmt_intake (s : State) (x : Mgmt) : (s.setMgmt x).intake = s.intake := rfl
@[simp] theorem State.setMgmt_timing (s : State) (x : Mgmt) : (s.setMgmt x).timing = s.timing := rfl
@[simp] theorem State.setMgmt_banks (s : State) (x : Mgmt) : (s.setMgmt x).banks = s.banks := rfl
@[simp] theorem State.setMgmt_level (s : State) (x : Mgmt) : (s.setMgmt x).level = s.level := rfl
@[simp] theorem State.setMgmt_canvas (s : State) (x : Mgmt) : (s.setMgmt x).canvas = s.canvas := rfl
@[simp] theorem State.setMgmt_ports (s : State) (x : Mgmt) : (s.setMgmt x).ports = s.ports := rfl
@[simp] theorem State.setMgmt_limiter (s : State) (x : Mgmt) : (s.setMgmt x).limiter = s.limiter := rfl
@[simp] theorem State.setMgmt_merge (s : State) (x : Mgmt) : (s.setMgmt x).merge = s.merge := rfl
@[simp] theorem State.setMgmt_cue (s : State) (x : Mgmt) : (s.setMgmt x).cue = s.cue := rfl
@[simp] theorem State.setMgmt_drive (s : State) (x : Mgmt) : (s.setMgmt x).drive = s.drive := rfl
@[simp] theorem State.setMgmt_fixture (s : State) (x : Mgmt) : (s.setMgmt x).fixture = s.fixture := rfl
@[simp] theorem State.setMgmt_mgmt (s : State) (x : Mgmt) : (s.setMgmt x).mgmt = x := rfl
@[simp] theorem State.setMgmt_sent (s : State) (x : Mgmt) : (s.setMgmt x).sent = s.sent := rfl
@[simp] theorem State.setMgmt_draws (s : State) (x : Mgmt) : (s.setMgmt x).draws = s.draws := rfl
@[simp] theorem State.setMgmt_pending (s : State) (x : Mgmt) : (s.setMgmt x).pending = s.pending := rfl
@[simp] theorem State.setMgmt_setMgmt (s : State) (x y : Mgmt) : (s.setMgmt x).setMgmt y = s.setMgmt y := rfl
@[simp] theorem State.setMgmt_self (s : State) : s.setMgmt s.mgmt = s := rfl

/-! ### setSent -/

@[simp] theorem State.setSent_now (s : State) (x : List Emission) : (s.setSent x).now = s.now := rfl
@[simp] theorem State.setSent_intake (s : State) (x : List Emission) : (s.setSent x).intake = s.intake := rfl
@[simp] theorem State.setSent_timing (s : State) (x : List Emission) : (s.setSent x).timing = s.timing := rfl
@[simp] theorem State.setSent_banks (s : State) (x : List Emission) : (s.setSent x).banks = s.banks := rfl
@[simp] theorem State.setSent_level (s : State) (x : List Emission) : (s.setSent x).level = s.level := rfl
@[simp] theorem State.setSent_canvas (s : State) (x : List Emission) : (s.setSent x).canvas = s.canvas := rfl
@[simp] theorem State.setSent_ports (s : State) (x : List Emission) : (s.setSent x).ports = s.ports := rfl
@[simp] theorem State.setSent_limiter (s : State) (x : List Emission) : (s.setSent x).limiter = s.limiter := rfl
@[simp] theorem State.setSent_merge (s : State) (x : List Emission) : (s.setSent x).merge = s.merge := rfl
@[simp] theorem State.setSent_cue (s : State) (x : List Emission) : (s.setSent x).cue = s.cue := rfl
@[simp] theorem State.setSent_drive (s : State) (x : List Emission) : (s.setSent x).drive = s.drive := rfl
@[simp] theorem State.setSent_fixture (s : State) (x : List Emission) : (s.setSent x).fixture = s.fixture := rfl
@[simp] theorem State.setSent_mgmt (s : State) (x : List Emission) : (s.setSent x).mgmt = s.mgmt := rfl
@[simp] theorem State.setSent_sent (s : State) (x : List Emission) : (s.setSent x).sent = x := rfl
@[simp] theorem State.setSent_draws (s : State) (x : List Emission) : (s.setSent x).draws = s.draws := rfl
@[simp] theorem State.setSent_pending (s : State) (x : List Emission) : (s.setSent x).pending = s.pending := rfl
@[simp] theorem State.setSent_setSent (s : State) (x y : List Emission) : (s.setSent x).setSent y = s.setSent y := rfl
@[simp] theorem State.setSent_self (s : State) : s.setSent s.sent = s := rfl

/-! ### setDraws -/

@[simp] theorem State.setDraws_now (s : State) (x : Nat) : (s.setDraws x).now = s.now := rfl
@[simp] theorem State.setDraws_intake (s : State) (x : Nat) : (s.setDraws x).intake = s.intake := rfl
@[simp] theorem State.setDraws_timing (s : State) (x : Nat) : (s.setDraws x).timing = s.timing := rfl
@[simp] theorem State.setDraws_banks (s : State) (x : Nat) : (s.setDraws x).banks = s.banks := rfl
@[simp] theorem State.setDraws_level (s : State) (x : Nat) : (s.setDraws x).level = s.level := rfl
@[simp] theorem State.setDraws_canvas (s : State) (x : Nat) : (s.setDraws x).canvas = s.canvas := rfl
@[simp] theorem State.setDraws_ports (s : State) (x : Nat) : (s.setDraws x).ports = s.ports := rfl
@[simp] theorem State.setDraws_limiter (s : State) (x : Nat) : (s.setDraws x).limiter = s.limiter := rfl
@[simp] theorem State.setDraws_merge (s : State) (x : Nat) : (s.setDraws x).merge = s.merge := rfl
@[simp] theorem State.setDraws_cue (s : State) (x : Nat) : (s.setDraws x).cue = s.cue := rfl
@[simp] theorem State.setDraws_drive (s : State) (x : Nat) : (s.setDraws x).drive = s.drive := rfl
@[simp] theorem State.setDraws_fixture (s : State) (x : Nat) : (s.setDraws x).fixture = s.fixture := rfl
@[simp] theorem State.setDraws_mgmt (s : State) (x : Nat) : (s.setDraws x).mgmt = s.mgmt := rfl
@[simp] theorem State.setDraws_sent (s : State) (x : Nat) : (s.setDraws x).sent = s.sent := rfl
@[simp] theorem State.setDraws_draws (s : State) (x : Nat) : (s.setDraws x).draws = x := rfl
@[simp] theorem State.setDraws_pending (s : State) (x : Nat) : (s.setDraws x).pending = s.pending := rfl
@[simp] theorem State.setDraws_setDraws (s : State) (x y : Nat) : (s.setDraws x).setDraws y = s.setDraws y := rfl
@[simp] theorem State.setDraws_self (s : State) : s.setDraws s.draws = s := rfl

/-! ### setPending -/

@[simp] theorem State.setPending_now (s : State) (x : List Instr) : (s.setPending x).now = s.now := rfl
@[simp] theorem State.setPending_intake (s : State) (x : List Instr) : (s.setPending x).intake = s.intake := rfl
@[simp] theorem State.setPending_timing (s : State) (x : List Instr) : (s.setPending x).timing = s.timing := rfl
@[simp] theorem State.setPending_banks (s : State) (x : List Instr) : (s.setPending x).banks = s.banks := rfl
@[simp] theorem State.setPending_level (s : State) (x : List Instr) : (s.setPending x).level = s.level := rfl
@[simp] theorem State.setPending_canvas (s : State) (x : List Instr) : (s.setPending x).canvas = s.canvas := rfl
@[simp] theorem State.setPending_ports (s : State) (x : List Instr) : (s.setPending x).ports = s.ports := rfl
@[simp] theorem State.setPending_limiter (s : State) (x : List Instr) : (s.setPending x).limiter = s.limiter := rfl
@[simp] theorem State.setPending_merge (s : State) (x : List Instr) : (s.setPending x).merge = s.merge := rfl
@[simp] theorem State.setPending_cue (s : State) (x : List Instr) : (s.setPending x).cue = s.cue := rfl
@[simp] theorem State.setPending_drive (s : State) (x : List Instr) : (s.setPending x).drive = s.drive := rfl
@[simp] theorem State.setPending_fixture (s : State) (x : List Instr) : (s.setPending x).fixture = s.fixture := rfl
@[simp] theorem State.setPending_mgmt (s : State) (x : List Instr) : (s.setPending x).mgmt = s.mgmt := rfl
@[simp] theorem State.setPending_sent (s : State) (x : List Instr) : (s.setPending x).sent = s.sent := rfl
@[simp] theorem State.setPending_draws (s : State) (x : List Instr) : (s.setPending x).draws = s.draws := rfl
@[simp] theorem State.setPending_pending (s : State) (x : List Instr) : (s.setPending x).pending = x := rfl
@[simp] theorem State.setPending_setPending (s : State) (x y : List Instr) : (s.setPending x).setPending y = s.setPending y := rfl
@[simp] theorem State.setPending_self (s : State) : s.setPending s.pending = s := rfl

end Sys2Proof.Machine
end

