-- ==== Sys2Proof/Laws/Tab.lean ====
section
/-! SUPPORT. Reading a fixed-size table after each way of changing it. -/

namespace Sys2Proof.Tab

variable {n : Nat} {α β : Type}

@[ext] theorem ext_get {a b : Tab n α} (h : ∀ i, a.get i = b.get i) : a = b := by
  obtain ⟨x, hx⟩ := a
  obtain ⟨y, hy⟩ := b
  have hxy : x = y := by
    apply List.ext_getElem (by omega)
    intro i h1 h2
    exact h ⟨i, by omega⟩
  subst hxy
  rfl

@[simp] theorem get_ofFn (f : Fin n → α) (i : Fin n) : (ofFn f).get i = f i := by
  simp [get, ofFn]

@[simp] theorem get_replicate (a : α) (i : Fin n) : (replicate n a).get i = a := by
  simp [get, replicate]

@[simp] theorem get_set_self (t : Tab n α) (i : Fin n) (a : α) : (t.set i a).get i = a := by
  simp [get, set]

@[simp] theorem get_set_ne (t : Tab n α) {i j : Fin n} (h : i ≠ j) (a : α) : (t.set i a).get j = t.get j := by
  have : i.val ≠ j.val := fun e => h (Fin.ext e)
  simp [get, set, List.getElem_set_ne this]

theorem get_set (t : Tab n α) (i j : Fin n) (a : α) : (t.set i a).get j = if i = j then a else t.get j := by
  by_cases h : i = j
  · subst h; simp
  · simp [h]

@[simp] theorem get_map (g : α → β) (t : Tab n α) (i : Fin n) : (t.map g).get i = g (t.get i) := by
  simp [get, map]

@[simp] theorem get_modify_self (t : Tab n α) (i : Fin n) (g : α → α) : (t.modify i g).get i = g (t.get i) := by
  simp [modify]

@[simp] theorem get_mapFin (g : Fin n → α → β) (t : Tab n α) (i : Fin n) : (t.mapFin g).get i = g i (t.get i) := by
  simp [mapFin]

theorem get_writeFrom (t : Tab n α) (start : Nat) (values : List α) (i : Fin n) :
    (t.writeFrom start values).get i = if start ≤ i.val then values.getD (i.val - start) (t.get i) else t.get i := by
  simp [writeFrom]

@[simp] theorem set_get (t : Tab n α) (i : Fin n) : t.set i (t.get i) = t := by
  apply ext_get; intro j
  by_cases h : i = j
  · subst h; simp
  · simp [h]

@[simp] theorem set_set (t : Tab n α) (i : Fin n) (a b : α) : (t.set i a).set i b = t.set i b := by
  apply ext_get; intro j
  by_cases h : i = j
  · subst h; simp
  · simp [h]

/-- Membership in the list of a table is being read at some index. -/
theorem mem_data (t : Tab n α) (a : α) : a ∈ t.data ↔ ∃ i, t.get i = a := by
  obtain ⟨l, hl⟩ := t
  subst hl
  simp only [get, List.mem_iff_getElem]
  constructor
  · rintro ⟨i, h, rfl⟩; exact ⟨⟨i, h⟩, rfl⟩
  · rintro ⟨i, rfl⟩; exact ⟨i.val, i.isLt, rfl⟩

end Sys2Proof.Tab
end

