-- ==== Sys2Proof/Laws/Ops.lean ====
section
/-! SUPPORT. One lemma for each shared operation that says what it can do: the engine's room rule, answers and stalls, events,
the blocks' ports, chains, sources and outputs, what a port sends and how it enters RECOVERY, the loops over the blocks, kinds
of reports, return messages, and the levels of fades. -/

namespace Sys2Proof.Machine

/-! ## Counters -/

theorem bump_toNat (c : Counter) : (bump c).toNat = min 65535 (c.toNat + 1) := by
  unfold bump
  split
  · next h => subst h; rfl
  · next h =>
    have h' : c.toNat ≠ 65535 := fun e => h (BitVec.eq_of_toNat_eq e)
    have := c.isLt
    rw [BitVec.toNat_add]
    simp
    omega

@[simp] theorem bumpIf_true (c : Counter) : bumpIf true c = bump c := rfl
@[simp] theorem bumpIf_false (c : Counter) : bumpIf false c = c := rfl

/-! ## The room rule -/

theorem hasRoom_iff (s : State) : hasRoom s = true ↔ s.mgmt.queue.length + (reservations s).length ≤ 31 := by
  exact decide_eq_true_iff

/-- Settling the engine changes whether it is stalled, and the count of stalls, alone. -/
theorem settleEngine_cases (s : State) :
    ∃ stalled stalls, settleEngine s = s.setMgmt { s.mgmt with
        stalled := stalled, counters := { s.mgmt.counters with stalls := stalls } } ∧
      stalled = (!s.intake.lane.isEmpty && !hasRoom s) ∧
      stalls = bumpIf (!s.mgmt.stalled && stalled) s.mgmt.counters.stalls := by
  refine ⟨_, _, ?_, rfl, rfl⟩
  unfold settleEngine
  split
  · next h =>
    rw [h]
    split
    · next h' =>
      have e : { s.mgmt with stalled := true } = s.mgmt := by rw [← h']
      rw [h']
      change s = s.setMgmt { s.mgmt with stalled := true }
      rw [e, State.setMgmt_self]
    · next h' =>
      simp only [Bool.not_eq_true] at h'
      rw [h']
      rfl
  · next h =>
    simp only [Bool.not_eq_true] at h
    simp [h, bumpIf]

theorem engineRuns_room (f : State → State) (s : State) (h : hasRoom s = true) :
    engineRuns f s = .next (settleEngine (f s)) := by simp [engineRuns, h]

theorem engineRuns_noRoom (f : State → State) (s : State) (h : hasRoom s = false) : engineRuns f s = .next s := by
  simp [engineRuns, h]

/-- Settling the engine is what `Stalls` says of it, and nothing else (R174). -/
theorem stalls_iff (s t : State) : Stalls s t ↔ t = settleEngine s := by
  have hroom : hasRoom s = true ↔ ¬31 < s.mgmt.queue.length + (reservations s).length := by
    rw [hasRoom_iff, Nat.not_lt]
  have hlane : s.intake.lane.isEmpty = true ↔ s.intake.lane = [] := List.isEmpty_iff
  by_cases hl : s.intake.lane = []
  · have hm : ¬MustStall s := fun h => h.1 hl
    simp [Stalls, hm, settleEngine, hl]
  · by_cases hr : 31 < s.mgmt.queue.length + (reservations s).length
    · have hm : MustStall s := ⟨hl, hr⟩
      have hf : hasRoom s = false := by simpa [hr] using mt hroom.mp (not_not.mpr hr)
      have hc : settleEngine s = s.setMgmt { s.mgmt with
          stalled := true
          counters := { s.mgmt.counters with
            stalls := if s.mgmt.stalled then s.mgmt.counters.stalls else bump s.mgmt.counters.stalls } } := by
        obtain ⟨stalled, stalls, h, h1, h2⟩ := settleEngine_cases s
        have he : s.intake.lane.isEmpty = false := by simp [hl]
        rw [he, hf] at h1
        subst h1
        rw [h, h2]
        cases hst : s.mgmt.stalled <;> simp [bumpIf]
      simp [Stalls, hm, hc]
    · have hm : ¬MustStall s := fun h => hr h.2
      have ht : hasRoom s = true := hroom.mpr hr
      simp [Stalls, hm, settleEngine, ht]

/-- A command that the engine runs and that ends in an answer adds that answer, settles the stall, and changes nothing
else. -/
theorem answers_of_answer {f : State → State} {s s' : State} {tag code : Byte} {r : Result} {body : List Byte}
    (h : hasRoom s = true) (hf : f s = answer tag code r body s') :
    Answers (engineRuns f s) s' (.answer tag code r body) :=
  ⟨_, engineRuns_room f s h, (stalls_iff _ _).mpr (by rw [hf]; rfl)⟩

/-- A command that the engine runs and that answers later settles the stall of what it leaves, and changes nothing else. -/
theorem reserves_of_eq {f : State → State} {s s' : State} (h : hasRoom s = true) (hf : f s = s') :
    Reserves (engineRuns f s) s' := ⟨_, engineRuns_room f s h, (stalls_iff _ _).mpr (by rw [hf])⟩

/-- An offered event is masked, joins a queue of fewer than 12 reports, or is lost (R177). -/
theorem offer_cases (m : Mgmt) (kind : EventKind) (body : List Byte) :
    (m.selects kind = false ∧
      m.offer kind body = { m with counters := { m.counters with eventsMasked := bump m.counters.eventsMasked } }) ∨
    (m.selects kind = true ∧ m.queue.length < 12 ∧
      m.offer kind body = { m with
        queue := m.queue ++ [.event kind body]
        counters := { m.counters with eventsAdmitted := bump m.counters.eventsAdmitted } }) ∨
    (m.selects kind = true ∧ 12 ≤ m.queue.length ∧
      m.offer kind body = { m with
        eventsLost := true
        counters := { m.counters with eventsLost := bump m.counters.eventsLost } }) := by
  cases h : m.selects kind
  · simp [Mgmt.offer, h]
  · by_cases hq : m.queue.length < 12
    · simp [Mgmt.offer, h, hq, Config.eventRoom, Mgmt.push]
    · simp [Mgmt.offer, h, hq, Config.eventRoom]
      omega

@[simp] theorem offer_eq (kind : EventKind) (body : List Byte) (s : State) :
    offer kind body s = s.setMgmt (s.mgmt.offer kind body) := rfl

/-! ## Ports, chains, sources -/

@[simp] theorem port_setPort_self (s : State) (p : Fin 8) (x : Port) : (s.setPort p x).port p = x := by
  simp [State.port, State.setPort]

theorem port_setPort_ne (s : State) {p q : Fin 8} (h : p ≠ q) (x : Port) : (s.setPort p x).port q = s.port q := by
  simp [State.port, State.setPort, h]

@[simp] theorem setPort_port (s : State) (p : Fin 8) : s.setPort p (s.port p) = s := by
  simp [State.port, State.setPort]

@[simp] theorem fixturePort_set_self (s : State) (p : Fin 2) (x : FixturePort) : (s.setFixturePort p x).fixturePort p = x := by
  simp [State.fixturePort, State.setFixturePort]

theorem fixturePort_set_ne (s : State) {p q : Fin 2} (h : p ≠ q) (x : FixturePort) :
    (s.setFixturePort p x).fixturePort q = s.fixturePort q := by
  simp [State.fixturePort, State.setFixturePort, h]

@[simp] theorem chain_setChain_self (s : State) (c : Fin 8) (x : ChainLimiter) : (s.setChain c x).chain c = x := by
  simp [State.chain, State.setChain]

theorem chain_setChain_ne (s : State) {c d : Fin 8} (h : c ≠ d) (x : ChainLimiter) : (s.setChain c x).chain d = s.chain d := by
  simp [State.chain, State.setChain, h]

@[simp] theorem source_setSource_self (s : State) (k : Fin 3) (x : Source) : (s.setSource k x).source k = x := by
  simp [State.source, State.setSource]

theorem source_setSource_ne (s : State) {k j : Fin 3} (h : k ≠ j) (x : Source) : (s.setSource k x).source j = s.source j := by
  simp [State.source, State.setSource, h]

/-! ## Sending and entering RECOVERY -/

/-- A port that has a width sends its segments in order on its lanes, one that has none sends nothing, and nothing else
changes (R112). -/
theorem foldl_sendChain (p : Fin 8) (l : List Segment) (s : State) :
    l.foldl (fun s g => sendChain p (.segment g) s) s =
      s.setSent (s.sent ++ (s.port p).width.elim [] fun w => l.map fun g => Emission.chain p w (.segment g)) := by
  induction l generalizing s with
  | nil => cases (s.port p).width <;> simp [State.setSent]
  | cons g l ih =>
    rw [List.foldl_cons, ih]
    unfold sendChain
    rcases h : (s.port p).width with _ | w
    · simp [h]
    · simp only [emit, State.setSent, State.port] at h ⊢
      simp [h]

/-- All that entering RECOVERY from ACTIVE does (R103, R104, R112, R115). -/
theorem enterRecovery_enters (s : State) (p : Fin 8) (cause : ChainCause) :
    EntersRecovery s p (s.port p) cause.code (enterRecovery p cause s) := by
  have hle : freeDraw s % ((s.port p).unsent.length + 1) ≤ (s.port p).unsent.length :=
    Nat.le_of_lt_succ (Nat.mod_lt _ (Nat.succ_pos _))
  refine ⟨_, hle, ?_⟩
  generalize hk : freeDraw s % ((s.port p).unsent.length + 1) = k at hle
  rcases hw : (s.port p).width with _ | w <;> cases hb : (s.port p).broken <;>
    simp [enterRecovery, breakFrame, dropUnsent, foldl_sendChain, hk, useDraw, offerChainState, startOffer, sendPattern, emit,
      State.setPort, State.setSent, State.setDraws, State.setPorts, State.port, State.setMgmt] at * <;>
    simp [hw, hb, Nat.min_eq_left hle]

/-! ## Loops -/

/-- What every pass of a loop keeps, the loop keeps. -/
theorem foldl_keeps {α : Type} (P : State → Prop) (f : State → α → State) (h : ∀ s a, P s → P (f s a))
    (l : List α) (s : State) (hs : P s) : P (l.foldl f s) := by
  induction l generalizing s with
  | nil => exact hs
  | cons a l ih => exact ih (f s a) (h s a hs)

theorem forEach_keeps {n : Nat} (P : State → Prop) (f : Fin n → State → State) (h : ∀ i s, P s → P (f i s)) (s : State)
    (hs : P s) : P (forEach f s) :=
  foldl_keeps P (fun s i => f i s) (fun s i => h i s) _ s hs

/-! ## Which report, message or mark -/

@[simp] theorem isEvent_event (kind k : EventKind) (body : List Byte) :
    (Report.event k body).isEvent kind = decide (k = kind) := rfl
@[simp] theorem isEvent_answer (kind : EventKind) (tag code : Byte) (r : Result) (body : List Byte) :
    (Report.answer tag code r body).isEvent kind = false := rfl
@[simp] theorem isOfPort_chain (p q : Fin 8) (w : Lanes) (m : ChainMessage) :
    (Emission.chain q w m).isOfPort p = decide (q = p) := rfl
@[simp] theorem isMapping_mapping (kept : Nat) : (UnitMark.mapping kept).isMapping = true := rfl

/-- An answer adds no event of any kind to the queue. -/
theorem answer_filter (m : Mgmt) (kind : EventKind) (tag code : Byte) (r : Result) (body : List Byte) :
    (m.answer tag code r body).queue.filter (Report.isEvent kind) = m.queue.filter (Report.isEvent kind) := by
  simp [Mgmt.answer, Mgmt.push]

/-- An event of another kind leaves the events of a kind as they are (R177). -/
theorem offer_filter_ne (m : Mgmt) {kind k : EventKind} (h : k ≠ kind) (body : List Byte) :
    (m.offer k body).queue.filter (Report.isEvent kind) = m.queue.filter (Report.isEvent kind) := by
  unfold Mgmt.offer
  split
  · rfl
  · split
    · simp [Mgmt.push, h]
    · rfl

/-! ## Return messages and fade ends -/

/-- Each return message whose number fits its byte is read back from its bytes (R185). -/
theorem readReturn_bytes_censusAnswer {hop : Nat} (h : hop < 256) :
    readReturn (ReturnMessage.censusAnswer hop).bytes = some (.censusAnswer hop) := by
  simp [readReturn, ReturnMessage.bytes, u8, Nat.mod_eq_of_lt h]

theorem readReturn_bytes_trainingComplete {width : Nat} (h : width < 256) :
    readReturn (ReturnMessage.trainingComplete width).bytes = some (.trainingComplete width) := by
  simp [readReturn, ReturnMessage.bytes, u8, Nat.mod_eq_of_lt h]

theorem readReturn_bytes_symbolErrors {errors : Nat} (h : errors < 256) :
    readReturn (ReturnMessage.symbolErrors errors).bytes = some (.symbolErrors errors) := by
  simp [readReturn, ReturnMessage.bytes, u8, Nat.mod_eq_of_lt h]

/-- All that a channel of the fade table can hold: the entry level where it enters the coverage, its end level from its time
on, and the step between them before (R138, R151, R152). -/
theorem fadeLevel_cases (e : Nat) (f : FadeChannel) :
    (e = 0 ∧ f.entered = true ∧ fadeLevel e f = f.start) ∨
    ((0 < e ∨ f.entered = false) ∧ f.time ≤ e ∧ fadeLevel e f = f.stop) ∨
    ((0 < e ∨ f.entered = false) ∧ e < f.time ∧
      fadeLevel e f = BitVec.ofNat 16 (
        if f.start.toNat ≤ f.stop.toNat then f.start.toNat + (f.stop.toNat - f.start.toNat) * e / f.time
        else f.start.toNat - (f.start.toNat - f.stop.toNat) * e / f.time)) := by
  unfold fadeLevel
  rcases Nat.eq_zero_or_pos e with rfl | he
  · rcases f.entered.eq_false_or_eq_true with hf | hf
    · simp [hf]
    · by_cases ht : f.time = 0
      · simp [hf, ht]
      · simp [hf, Nat.pos_of_ne_zero ht, ht]
  · by_cases ht : f.time ≤ e
    · simp [ht, he, Nat.ne_of_gt he]
    · by_cases hl : f.start.toNat ≤ f.stop.toNat <;> simp [ht, he, Nat.ne_of_gt he, hl, Nat.lt_of_not_le ht]

/-- A channel that newly enters the coverage is handed to the merge at its entry level at the fade start (R138, R151). -/
theorem fadeLevel_of_entered {f : FadeChannel} (hf : f.entered = true) : fadeLevel 0 f = f.start := by
  simp [fadeLevel, hf]

/-- A channel of the fade table holds its end level from its time on, but for the fade start of one that newly enters (R152,
log entry 32). -/
theorem fadeLevel_of_time_le {e : Nat} {f : FadeChannel} (h : f.time ≤ e) (he : 0 < e ∨ f.entered = false) :
    fadeLevel e f = f.stop := by
  rcases fadeLevel_cases e f with ⟨h0, hf, -⟩ | ⟨-, -, hs⟩ | ⟨-, hlt, -⟩
  · rcases he with he | he
    · omega
    · simp [he] at hf
  · exact hs
  · omega

/-- With a time above 0 a channel of the fade table holds its start level at the fade start (R151, R152). -/
theorem fadeLevel_zero {f : FadeChannel} (h : 0 < f.time) : fadeLevel 0 f = f.start := by
  simp [fadeLevel, Nat.ne_of_gt h]

end Sys2Proof.Machine
end

