-- ==== Sys2Proof/Tests/Slice0.lean ====
section
/-! SUPPORT. The model's own tests: ill-formed terms, the worked cases of spec/, and for every statement with hypotheses a
state and operands that meet them, clause by clause. -/

namespace Sys2Proof.Tests

set_option Elab.async false

open Sys2Proof Sys2Proof.Machine

/-! ## Well-formedness: one ill-formed term for each check -/

theorem test_ill_formed_units :
    (Instr.headerReceived 65536 0 4).wellFormed = false ∧ (Instr.headerReceived 0 256 4).wellFormed = false ∧
      (Instr.headerReceived 0 0 65536).wellFormed = false ∧ (Instr.unitReceived 0 [0, 0, 0] 0).wellFormed = false ∧
      (Instr.unitReceived 0 (List.replicate 8193 0) 0).wellFormed = false := by decide +kernel

theorem test_ill_formed_intake :
    (Instr.setIdentity 0 256 (List.replicate 16 0)).wellFormed = false ∧
      (Instr.setIdentity 0 1 (List.replicate 15 0)).wellFormed = false ∧
      (Instr.setFilter 0 256 0 0 0 0).wellFormed = false ∧ (Instr.setFilter 0 1 65536 0 0 0).wellFormed = false ∧
      (Instr.setFilter 0 1 0 65536 0 0).wellFormed = false ∧ (Instr.setFilter 0 1 0 0 256 0).wellFormed = false ∧
      (Instr.setFilter 0 1 0 0 0 256).wellFormed = false ∧ (Instr.setFiltersInUse 0 256).wellFormed = false := by
  decide +kernel

theorem test_ill_formed_timing :
    (Instr.setReference 0 256).wellFormed = false ∧ (Instr.setInternalRate 0 4294967296).wellFormed = false ∧
      (Instr.setPhaseOffset 0 4294967296).wellFormed = false ∧ (Instr.setPwmGrid 0 256).wellFormed = false ∧
      (Instr.setContactFunction 0 256 0).wellFormed = false ∧ (Instr.setContactFunction 0 0 256).wellFormed = false := by
  decide +kernel

theorem test_ill_formed_tables :
    (Instr.writeTileEntries 0 65536 0 []).wellFormed = false ∧ (Instr.writeTileEntries 0 0 65536 []).wellFormed = false ∧
      (Instr.writeTileEntries 0 0 0 (List.replicate 8187 0)).wellFormed = false ∧
      (Instr.writeChainLengths 0 65536 0 []).wellFormed = false ∧ (Instr.writeRingFlags 0 256).wellFormed = false ∧
      (Instr.writeCanvasSize 0 65536 0).wellFormed = false ∧ (Instr.writeCanvasSize 0 0 65536).wellFormed = false ∧
      (Instr.writeWallCurve 0 65536 0 []).wellFormed = false ∧ (Instr.writeLightCurve 0 65536 0 []).wellFormed = false ∧
      (Instr.writePatch 0 65536 0 []).wellFormed = false ∧ (Instr.writeSlotCounts 0 65536 0 []).wellFormed = false ∧
      (Instr.readTable 0 256 0 0 0).wellFormed = false ∧ (Instr.readTable 0 0 256 0 0).wellFormed = false ∧
      (Instr.readTable 0 0 0 65536 0).wellFormed = false ∧ (Instr.readTable 0 0 0 0 65536).wellFormed = false ∧
      (Instr.take 0 256 0).wellFormed = false ∧ (Instr.take 0 0 4294967296).wellFormed = false := by decide +kernel

theorem test_ill_formed_walls :
    (Instr.hold 0 256).wellFormed = false ∧ (Instr.release 0 256).wellFormed = false ∧
      (Instr.chainRetrain 0 256).wellFormed = false ∧ (Instr.chainDisable 0 256).wellFormed = false ∧
      (Instr.chainEnable 0 256).wellFormed = false ∧ (Instr.setChainBudget 0 256 0 0).wellFormed = false ∧
      (Instr.setChainBudget 0 0 65536 0).wellFormed = false ∧ (Instr.setChainBudget 0 0 0 65536).wellFormed = false ∧
      (Instr.trainingComplete 0 ⟨0, 256⟩).wellFormed = false ∧ (Instr.censusAnswer 0 256).wellFormed = false ∧
      (Instr.symbolError 0 256).wellFormed = false := by decide +kernel

theorem test_ill_formed_lights :
    (Instr.setSourcePriority 0 256 0).wellFormed = false ∧ (Instr.setSourcePriority 0 0 256).wellFormed = false ∧
      (Instr.setSourceTimeout 0 256 0).wellFormed = false ∧ (Instr.setSourceTimeout 0 0 65536).wellFormed = false ∧
      (Instr.writeCue 0 65536 0 0 0 none false []).wellFormed = false ∧
      (Instr.writeCue 0 1 65536 0 0 none false []).wellFormed = false ∧
      (Instr.writeCue 0 1 0 65536 0 none false []).wellFormed = false ∧
      (Instr.writeCue 0 1 0 0 65536 none false []).wellFormed = false ∧
      (Instr.writeCue 0 1 0 0 0 (some 65536) false []).wellFormed = false ∧
      (Instr.writeCue 0 1 0 0 0 none false (List.replicate 256 (0, 0))).wellFormed = false ∧
      (Instr.writeCue 0 1 0 0 0 none false [(65536, 0)]).wellFormed = false ∧
      (Instr.writeCue 0 1 0 0 0 none false [(0, 65536)]).wellFormed = false ∧
      (Instr.deleteCue 0 65536).wellFormed = false ∧ (Instr.readCue 0 65536).wellFormed = false ∧
      (Instr.goTo 0 65536).wellFormed = false := by decide +kernel

theorem test_ill_formed_outputs :
    (Instr.setPwmOutput 0 256 0 0 0 false).wellFormed = false ∧ (Instr.setPwmOutput 0 0 256 0 0 false).wellFormed = false ∧
      (Instr.setPwmOutput 0 0 0 256 0 false).wellFormed = false ∧
      (Instr.setPwmOutput 0 0 0 0 256 false).wellFormed = false ∧
      (Instr.setFixturePort 0 0 256 true 0 1).wellFormed = false ∧
      (Instr.setFixturePort 0 0 0 true 256 1).wellFormed = false ∧
      (Instr.setFixturePort 0 0 0 true 0 256).wellFormed = false ∧ (Instr.queryFixture 0 0 256 1 0).wellFormed = false ∧
      (Instr.queryFixture 0 0 0 256 0).wellFormed = false ∧ (Instr.queryFixture 0 0 0 1 256).wellFormed = false ∧
      (Instr.setEventMask 0 65536).wellFormed = false ∧ (Instr.queryStatus 0 0 256).wellFormed = false ∧
      (Instr.clearStatus 0 256 0).wellFormed = false ∧ (Instr.clearStatus 0 0 4294967296).wellFormed = false ∧
      (Instr.clearCounters 0 256).wellFormed = false := by decide +kernel

/-- No row of the table has bits: no word spells a command, and placing one changes nothing. -/
theorem test_no_word_spells_a_command (s : State) (nbits w : Nat) :
    decodeTableWord nbits w = none ∧ s.withFetchWord nbits w = s := ⟨rfl, rfl⟩

/-! ## Wire formats -/

/-- R183: the nine characters "123456789" give 0xCBF43926. -/
theorem test_crc32 : crc32 [0x31, 0x32, 0x33, 0x34, 0x35, 0x36, 0x37, 0x38, 0x39] = 0xCBF43926#32 := by decide +kernel

/-- R186: the reply 0x30, 0x05, 0x02, 2, 0x1A, 0x40 carries the checksum 0x6C. -/
theorem test_reply_checksum : replyChecksum [0x30, 0x05, 0x02, 2, 0x1A, 0x40] = 0x6C := by decide +kernel

/-! ## Worked cases of the manual -/

/-- Table 1-2 with filters in use 5, and the classes of section 1.6. -/
def exampleFilter : Intake :=
  { Intake.reset with
    inUse := 5
    entries := Tab.ofList 15 ⟨0, 0, .discard, 0⟩
      [⟨0x0100, 0xFF00, .picture, 0⟩, ⟨0x0200, 0xFFFC, .level, 1⟩, ⟨0x0204, 0xFFFF, .level, 2⟩, ⟨0, 0, .discard, 0⟩] }

theorem test_filter_example :
    ([0x0000#16, 0x0105#16, 0x0202#16, 0x0204#16, 0x0300#16].map fun i =>
        (decidingEntry exampleFilter i).map fun e => (e.cls, e.source)) =
      [some (.management, 0), some (.picture, 0), some (.level, 1), some (.level, 2), some (.discard, 0)] ∧
      decidingEntry { exampleFilter with inUse := 4 } 0x0300#16 = none := by decide +kernel

/-- Table 2-6. -/
theorem test_grid_table :
    [gridOf 2000000 4, gridOf 2000000 1, gridOf 2000000 3, gridOf 1668335 4, gridOf 1661819 4, gridOf 1000000 16,
        gridOf 4500000 1, gridOf 4500000 16] =
      [⟨4, 8, 62500, 0⟩, ⟨1, 32, 62500, 0⟩, ⟨3, 16, 41666, 32⟩, ⟨4, 8, 52135, 15⟩, ⟨4, 8, 51931, 27⟩,
        ⟨16, 1, 62500, 0⟩, ⟨1, 128, 35156, 32⟩, ⟨16, 8, 35156, 32⟩] := by decide +kernel

/-- Table 2-4: the steps of a phase error of 600,000 at a period of 1,668,335. -/
theorem test_slewing :
    (phaseStep 600000 1668335, phaseStep 528 1668335, phaseStep 0 1668335) = (6516, 528, 0) ∧
      wrapError 600000 1668335 = 600000 := by decide +kernel

/-- Table 2-3 after p5, and the pulse p6 that locks at the mean of four near intervals. -/
theorem test_lock_at_the_mean :
    let t := { Timing.reset with
      reference := .genlock, lock := .acquiring, lastPulse := some 5000000, run := ⟨1668336, 3, 5005006⟩ }
    let locked := pulseTiming 6668334 t
    (locked.lock, locked.period, (pulseTiming 5834000 t).run) = (.locked, 1668335, ⟨0, 0, 0⟩) := by decide +kernel

/-- A bank of the defaults whose wall curve is the linear one: Table 4-3. -/
theorem test_wall_stages :
    let y := wallCurveValue Bank.reset 512
    (y, scaleGain y 3900, gainOfLevel 49152, scaleGain 31230 3072, scaleGain 23423 2560) =
      (32799, 31230, 3072, 23423, 14639) ∧
      [12, 16, 10, 8].map (fun d => reduceDepth d 14639) = [915, 14639, 229, 57] := by decide +kernel

/-- Section 4.4.2: full white is clamped to its depth. -/
theorem test_full_white :
    wallLimitedValue Bank.reset 4096 ⟨4096, 4096⟩ 1023 = 65535 ∧
      [8, 12, 16].map (fun d => reduceDepth d 65535) = [255, 4095, 65535] := by decide +kernel

/-- Table 4-5, the grand master at half, and Table 4-6's pair. -/
theorem test_light_stages :
    (tableCurve Bank.reset 40010, scaleGain 40010 3686, dutyOf 36005 50000, slot8Value 36005) =
      (40010, 36005, 27470, 140) ∧
      (scaleGain 36005 (gainOfLevel 32768), dutyOf 18003 50000, slot8Value 18003) = (18003, 13735, 70) ∧
      (warmDuty 27470 16384, 27470 - warmDuty 27470 16384) = (20602, 6868) := by decide +kernel

/-- Section 4.10.3: a knee in the light curve. -/
theorem test_curve_knee :
    let b := { Bank.reset with lightCurve := Tab.ofList 1024 1300 (List.replicate 100 0 ++ [1000]) }
    tableCurve b 6421 = 1098 := by decide +kernel

/-- Table 6-3. -/
theorem test_depth_table :
    let c := fun t w : Nat => capacity w t
    [c 2000000 4, c 2000000 2, c 2000000 1, c 1000000 4, c 1000000 1].map (chooseDepth 2097152) =
      [(16, .full), (10, .full), (8, .half), (10, .full), (8, .overbooked)] := by decide +kernel

/-- Table 7-1 and section 7.7.1. -/
theorem test_limiter_sequence :
    let white := [200, 200, 200, 200]
    let grey := [99, 99, 99, 99]
    let x : ChainLimiter := { ChainLimiter.reset with budget := 500 }
    let step := fun x tiles => updateRecord tiles 0 x
    let low := step { x with budget := 40, gain := 2688 } white
    [step x white, step (step x white) white, step (step (step x white) white) grey].map (fun x => (x.target, x.gain)) =
        [(2560, 2560), (2560, 2560), (4096, 2624)] ∧
      (tileDemand ⟨765 * 10, 10, 200⟩, tileDemand ⟨382 * 10, 10, 200⟩) = (200, 99) ∧
      (low.target, low.gain, low.unattainable, (step low grey).target, (step low grey).gain) =
        (256, 256, true, 413, 320) := by decide +kernel

/-- Table 9-3: the levels of channels 40, 41 and 42 at e = 1, 2, 3 and 5. -/
theorem test_fade_table :
    let f40 : FadeChannel := ⟨40000, 0, 2, false, false⟩
    let f41 : FadeChannel := ⟨20000, 60000, 5, true, false⟩
    let f42 : FadeChannel := ⟨10000, 30000, 5, true, false⟩
    [1, 2, 3, 5].map (fun e => (fadeLevel e f40, fadeLevel e f41, fadeLevel e f42)) =
      [(20000, 28000, 14000), (0, 36000, 18000), (0, 44000, 22000), (0, 60000, 30000)] := by decide +kernel

/-- R138, R151: a newly covered channel with a time of 0 has its entry level at the fade start and its end level after; one that
was covered already has its end level at once (R152). -/
theorem test_entry_level_at_fade_start :
    let new : FadeChannel := ⟨10000, 30000, 0, true, true⟩
    let old : FadeChannel := ⟨10000, 30000, 0, true, false⟩
    [0, 1].map (fun e => (fadeLevel e new, fadeLevel e old)) = [(10000, 30000), (30000, 30000)] := by decide +kernel

/-- Table 10-2: the first and last active steps, and the last step of the period. -/
theorem test_waveform_table :
    let s := fun phase step => isActiveStep ⟨false, false, phase, false⟩ 52135 20000 step
    let c := fun step => isActiveStep ⟨true, false, 0, false⟩ 52135 20000 step
    [s 0 0, s 0 19999, s 0 20000, s 0 52134] = [true, true, false, false] ∧
      [s 4 13032, s 4 13033, s 4 33032, s 4 33033] = [false, true, true, false] ∧
      [s 12 39100, s 12 39101, s 12 52134, s 12 6965, s 12 6966] = [false, true, true, true, false] ∧
      [c 16066, c 16067, c 36066, c 36067] = [false, true, true, false] := by decide +kernel

/-- Section 10.3.1: 640,015 ticks under phase 12, 640,000 else. -/
theorem test_active_ticks :
    let x := fun phase => { PwmOutput.reset with inForce := ⟨false, false, phase, false⟩, shown := .duty 20000 }
    [activeTicks ⟨4, 8, 52135, 15⟩ (x 12), activeTicks ⟨4, 8, 52135, 15⟩ (x 0)] = [640015, 640000] := by
  decide +kernel

/-! ## The bank of the defaults passes validation -/

theorem mono_passes {check : Check} {t : Tab 1024 Level}
    (h : ∀ i j : Fin 1024, i.val + 1 = j.val → (t.get i).toNat ≤ (t.get j).toNat) : checkCurve check t = none := by
  unfold checkCurve
  rw [List.findSome?_eq_none_iff]
  intro i _
  have hi : curveOk t i = true := by
    unfold curveOk
    by_cases h0 : i.val = 0
    · simp [h0]
    · have := h ⟨i.val - 1, by omega⟩ i (by simp; omega)
      simp [this]
  simp [failUnless, hi]

theorem reset_curves_rise : (∀ i j : Fin 1024, i.val + 1 = j.val →
      (Bank.reset.wallCurve.get i).toNat ≤ (Bank.reset.wallCurve.get j).toNat) ∧
    ∀ i j : Fin 1024, i.val + 1 = j.val → (Bank.reset.lightCurve.get i).toNat ≤ (Bank.reset.lightCurve.get j).toNat := by
  constructor
  · intro i j h
    have hj := j.isLt
    simp only [Bank.reset, Tab.get_ofFn, BitVec.toNat_ofNat]
    have h2 : ∀ k, k ≤ 1023 → k * 65535 / 1023 % 2 ^ 16 = k * 65535 / 1023 := fun k hk => Nat.mod_eq_of_lt (by omega)
    rw [h2 _ (by omega), h2 _ (by omega)]
    exact Nat.div_le_div_right (by omega)
  · intro i j h
    have hj := j.isLt
    simp only [Bank.reset, Tab.get_ofFn, BitVec.toNat_ofNat]
    omega

/-- A bank that has the default curves passes validation where its other checks pass. -/
theorem passes_with_reset_curves {b : Bank} (hw : b.wallCurve = Bank.reset.wallCurve)
    (hl : b.lightCurve = Bank.reset.lightCurve) (h : checkCanvas b = none ∧ checkLengths b = none ∧ checkSlots b = none ∧
      checkTiles b = none ∧ checkRings b = none ∧ checkPatch b = none) : validate b = none := by
  obtain ⟨h1, h2, h3, h4, h5, h6⟩ := h
  have h7 : checkCurve .wallCurve b.wallCurve = none := mono_passes (by rw [hw]; exact reset_curves_rise.1)
  have h8 : checkCurve .lightCurve b.lightCurve = none := mono_passes (by rw [hl]; exact reset_curves_rise.2)
  simp [validate, h1, h2, h3, h4, h5, h6, h7, h8]

/-- An entry that is not patched passes, and so does a tile entry that is not valid. -/
theorem unpatched_passes {b : Bank} {i : Fin 512} (h : b.patch.get i = PatchEntry.reset) : checkChannel b i = none := by
  unfold checkChannel conflictFree rangeOk
  rw [h]
  rfl

theorem invalid_passes {b : Bank} {i : Fin 256} (h : (b.tiles.get i).valid = false) : checkTile b i = none := by
  simp [checkTile, h]

/-- R41: both banks pass validation after reset. -/
theorem test_reset_bank_passes : validate Bank.reset = none := by
  refine passes_with_reset_curves rfl rfl ⟨by decide +kernel, by decide +kernel, by decide +kernel, ?_, by decide +kernel, ?_⟩
  · exact List.findSome?_eq_none_iff.2 fun i _ => invalid_passes (by simp [Bank.reset, TileEntry.reset])
  · exact List.findSome?_eq_none_iff.2 fun i _ => unpatched_passes (by simp [Bank.reset])

/-! ## Witnesses: sections 1 and 2 -/

/-- The state after reset with the link up. -/
def up : State := State.reset.setIntake { Intake.reset with link := .up }

/-- The link up, and one unit's header read. -/
def inBody (x : Intake) (streamId address length : Nat) : State :=
  up.setIntake { x with link := .up, framer := .body streamId address length }

/-- A queue full to the room rule's last report. -/
def fullQueue : State := State.reset.setMgmt { Mgmt.reset with queue := List.replicate 32 (.event .takeDone []) }

theorem room : hasRoom State.reset = true := by decide +kernel

theorem witness_StepRunsFrontCommand : State.reset.pending = [] := rfl

theorem witness_CommandsWaitForRoom :
    isManagement (.go 0) = true ∧ 31 < fullQueue.mgmt.queue.length + (reservations fullQueue).length := by decide +kernel

theorem witness_LinkChangesState : State.reset.intake.link = .down ∧ up.intake.link = .up := ⟨rfl, rfl⟩

theorem witness_FramerFindsAndMeasuresUnits :
    (up.intake.link = .up ∧ up.intake.framer = .hunt false) ∧
      (∃ s : State, s.intake.link = .up ∧ s.intake.framer = .hunt true) ∧
      (∃ s : State, s.intake.link = .up ∧ s.intake.framer = .header) ∧ State.reset.intake.link = .down :=
  ⟨⟨rfl, rfl⟩, ⟨up.setIntake { up.intake with framer := .hunt true }, rfl, rfl⟩,
    ⟨up.setIntake { up.intake with framer := .header }, rfl, rfl⟩, rfl⟩

theorem witness_FirstMatchingEntryDecides : 1 ≤ Intake.reset.inUse := by decide

/-- A unit of four bytes at stream ID 5 and address 9, whole and damaged. -/
def fourBytes : List Byte := [1, 2, 3, 4]
def fourCrc : BitVec 32 := crc32 (covered 5 9 4 fourBytes)

theorem witness_DiscardedUnitsAreCounted :
    let open5 := inBody Intake.reset 5 9 4
    let seven := inBody { Intake.reset with locked := true, unitAddress := 7 } 5 9 4
    let filtered := { Intake.reset with inUse := 2 }
    let marks := { Intake.reset with inUse := 2, entries := Tab.replicate 15 ⟨5, 0xFFFF, .timeMark, 0⟩ }
    (open5.intake.link = .up ∧ open5.intake.framer = .body 5 9 4 ∧ fourBytes.length = 4) ∧
      fourCrc + 1 ≠ crc32 (covered 5 9 4 fourBytes) ∧
      ¬(9 = 0 ∨ 9 = seven.intake.unitAddress.toNat ∨ seven.intake.locked = false) ∧
      (open5.intake.locked = false ∧ decidingEntry open5.intake 5 = none) ∧
      decidingEntry (inBody filtered 5 9 4).intake 5 = some ⟨0, 0, .discard, 0⟩ ∧
      decidingEntry (inBody marks 5 9 4).intake 5 = some ⟨5, 0xFFFF, .timeMark, 0⟩ ∧ fourBytes.length ≠ 8 := by
  decide +kernel

/-- Table 1-3: a payload too short for its class, one whose count is 0, one past its largest count, and one of another length
than its count gives. -/
theorem witness_DiscardedUnitsAreCounted_lengths :
    let pixels := fun payload : List Byte =>
      1 ≤ wordAt payload 6 ∧ wordAt payload 6 ≤ 2040 ∧ payload.length = 8 + 4 * wordAt payload 6
    let levels := fun payload : List Byte =>
      1 ≤ wordAt payload 2 ∧ wordAt payload 2 ≤ 512 ∧ payload.length = 4 + 2 * wordAt payload 2
    let zeros := fun k : Nat => List.replicate k (0 : Byte)
    ¬(4 ≤ (zeros 3).length) ∧ ¬pixels (zeros 8) ∧ ¬pixels (zeros 6 ++ u16 2041 ++ zeros 8164) ∧
      ¬pixels (zeros 6 ++ u16 1 ++ zeros 3) ∧ ¬levels (zeros 4) ∧ ¬levels (zeros 2 ++ u16 513 ++ zeros 1026) ∧
      ¬levels (zeros 2 ++ u16 1 ++ zeros 1) := by
  simp only [List.length_append, List.length_replicate]
  decide +kernel

/-- The filter of Table 1-2 with time marks on stream ID 3 in front of it. -/
def allClasses : Intake :=
  { exampleFilter with
    entries := (exampleFilter.entries.set 3 ⟨3, 0xFFFF, .timeMark, 0⟩) }

/-- A unit that completes: its filter, stream ID and payload. -/
def arriving (x : Intake) (streamId : Nat) (payload : List Byte) : State := inBody x streamId 0 payload.length

theorem arriving_classified {x : Intake} {streamId : Nat} {payload : List Byte} {e : FilterEntry}
    (h : decidingEntry x (BitVec.ofNat 16 streamId) = some e) :
    Classified (arriving x streamId payload) payload (crc32 (covered streamId 0 payload.length payload)) e :=
  ⟨streamId, 0, rfl, rfl, rfl, .inl rfl, h⟩

/-- A level unit of the largest first channel with one level. -/
def levelPayload : List Byte := u16 511 ++ u16 1 ++ u16 65535

theorem witness_UnitsReachTheirLanes :
    let seven := { allClasses with lane := List.replicate 7 ⟨0, 0, []⟩ }
    let eight := { allClasses with lane := List.replicate 8 ⟨0, 0, []⟩ }
    (Classified (arriving seven 0 fourBytes) fourBytes (crc32 (covered 0 0 4 fourBytes)) entryZero ∧
        entryZero.cls = .management ∧ 4 ≤ fourBytes.length ∧ seven.lane.length < 8) ∧
      (Classified (arriving eight 0 fourBytes) fourBytes (crc32 (covered 0 0 4 fourBytes)) entryZero ∧
        8 ≤ eight.lane.length) ∧
      (∃ e, Classified (arriving allClasses 3 (fourBytes ++ fourBytes)) (fourBytes ++ fourBytes)
          (crc32 (covered 3 0 8 (fourBytes ++ fourBytes))) e ∧ e.cls = .timeMark ∧ (fourBytes ++ fourBytes).length = 8) ∧
      ∃ e, Classified (arriving allClasses 0x0202 levelPayload) levelPayload
          (crc32 (covered 0x0202 0 6 levelPayload)) e ∧ e.cls = .level ∧ e.source = (0 : Fin 3).succ ∧
        1 ≤ wordAt levelPayload 2 ∧ wordAt levelPayload 2 ≤ 512 ∧ levelPayload.length = 4 + 2 * wordAt levelPayload 2 :=
  ⟨⟨arriving_classified (by decide +kernel), rfl, by decide, by decide⟩,
    ⟨arriving_classified (by decide +kernel), by decide⟩,
    ⟨⟨3, 0xFFFF, .timeMark, 0⟩, arriving_classified (by decide +kernel), rfl, rfl⟩,
    ⟨⟨0x0200, 0xFFFC, .level, 1⟩, arriving_classified (by decide +kernel), rfl, rfl, by decide +kernel, by decide +kernel,
      by decide +kernel⟩⟩

/-- The first written character and the last printable one. -/
def goodLabel : List Byte := List.replicate 15 0x20 ++ [0x7E]

theorem witness_IdentityIsWrittenOnce :
    hasRoom State.reset = true ∧ goodLabel.length = 16 ∧ (∀ b ∈ goodLabel, 0x20 ≤ b.toNat ∧ b.toNat ≤ 0x7E) ∧
      (255 ≤ 255 ∧ (255 : Nat) ≠ 0) ∧ State.reset.intake.locked = false ∧
      ({ Intake.reset with locked := true } : Intake).locked = true ∧
      (List.replicate 16 (0x7F : Byte)).length = 16 ∧
      ¬∀ b ∈ List.replicate 16 (0x7F : Byte), 0x20 ≤ b.toNat ∧ b.toNat ≤ 0x7E := by decide +kernel

theorem witness_FilterCommandsStore :
    hasRoom State.reset = true ∧ 15 < 16 ∧ 4 < 5 ∧ (2 = UnitClass.level.code ∧ 3 < 4) ∧
      (15 = (14 : Fin 15).val + 1 ∧ 2 = UnitClass.level.code ∧ 1 ≤ 3 ∧ 3 ≤ 3) ∧
      (1 = (0 : Fin 15).val + 1 ∧ 4 = UnitClass.discard.code ∧ UnitClass.discard ≠ .level) ∧
      (1 ≤ 16 ∧ 16 ≤ 16) ∧ 16 < 17 := by decide +kernel

theorem witness_ReferenceRestartsLock :
    State.reset.timing.lock ≠ LockState.acquiring ∧
      ((State.reset.setTiming { Timing.reset with lock := .locked }).timing.settled ≠ true ∧ LockState.locked = .locked) ∧
      hasRoom State.reset = true ∧ 3 ≤ 3 := by decide +kernel

theorem witness_InternalRateIsClampedAndKept :
    hasRoom State.reset = true ∧ (State.reset.timing.reference = .internal ∧ State.reset.timing.lock = .free) ∧
      (∃ t, exec (.frameBoundary (Tab.replicate 4 false) ⟨false, false, false⟩) State.reset = .next t) ∧
      ∃ t, exec (.setReference 0 0) State.reset = .next t :=
  ⟨room, ⟨rfl, rfl⟩, ⟨_, rfl⟩, ⟨_, rfl⟩⟩

theorem witness_PwmGridTakesItsPeriods :
    hasRoom State.reset = true ∧ (∃ t, exec (.frameBoundary (Tab.replicate 4 false) ⟨true, true, true⟩) State.reset = .next t) ∧
      (∃ t, exec (.powerOnReset (Tab.replicate 4 false)) State.reset = .next t) ∧
      ∃ t, exec (.lineReset (Tab.replicate 4 true)) State.reset = .next t := ⟨room, ⟨_, rfl⟩, ⟨_, rfl⟩, ⟨_, rfl⟩⟩

theorem witness_OffsetAndFunctionsAreStored : hasRoom State.reset = true ∧ 3 < 4 := ⟨room, by decide⟩

/-- A timing state under GENLOCK in ACQUIRING with a run of `count` intervals of `first` ticks. -/
def acquiring (first count : Nat) : Timing :=
  { Timing.reset with
    reference := .genlock, lock := .acquiring, lastPulse := some 0, run := ⟨first, count, count * first⟩ }

/-- LOCKED to genlock, waiting for marks, and HOLDOVER at the boundary before its end. -/
def locking : Timing := { acquiring 0 0 with lock := .locked }
def marking : Timing := { Timing.reset with reference := .marks, lock := .acquiring, markWait := 99 }
def holding : Timing := { Timing.reset with lock := .holdover, holdoverCount := 249 }

theorem witness_GenlockPulsesAcquireAndTrack :
    State.reset.timing.reference ≠ .genlock ∧ ((acquiring 0 0).reference = .genlock ∧ Timing.reset.lock = .free) ∧
      (locking.reference = .genlock ∧ locking.lock = .locked ∧ locking.lastPulse = some 0) ∧
      ((acquiring 0 0).lock = .acquiring ∧ (acquiring 0 0).lastPulse = some 0 ∧ (acquiring 0 0).run.count = 0) ∧
      ((1001953 : Int) - (acquiring 1000000 3).run.first).natAbs ≤ (acquiring 1000000 3).period / 1024 ∧
      ¬((1001954 : Int) - (acquiring 1000000 3).run.first).natAbs ≤ (acquiring 1000000 3).period / 1024 ∧
      ((acquiring 1000000 3).run.count = 3 ∧ 4000000 ≤ (acquiring 1000000 3).run.sum + 1000000) ∧
      (acquiring 4500000 3).run.sum + 4500000 < 18000004 ∧
      (Config.minPeriod ≤ locking.period ∧ locking.period ≤ Config.maxPeriod) := by decide +kernel

theorem witness_LostReferencesTimeOut :
    ((acquiring 0 0).reference = .genlock ∧ (acquiring 0 0).lock = .acquiring ∧ (acquiring 0 0).lastPulse = some 0) ∧
      (locking.reference = .genlock ∧ locking.lock = .locked ∧ locking.lastPulse = some 0) ∧
      (marking.reference = .marks ∧ marking.lock = .acquiring ∧ marking.markWait = 99) ∧
      ({ marking with lock := .locked } : Timing).lock = .locked ∧
      (holding.lock = .holdover ∧ holding.holdoverCount = 249) := by decide +kernel

/-- A mark whose named instant is the tick given. -/
def markAt (instant : Nat) : TimeMark := ⟨7, 0, instant⟩

/-- A mark waiting at the last instant the boundary takes. -/
def marked : State := State.reset.setIntake { Intake.reset with slot := some (markAt 3000000) }

theorem witness_BoundaryBeginsInterval :
    (Config.minPeriod ≤ State.reset.timing.period ∧ State.reset.timing.period ≤ Config.maxPeriod) ∧
      State.reset.intake.slot = none ∧ State.reset.timing.lock ≠ .locked ∧ locking.lock = .locked ∧
      (marked.intake.slot = some (markAt 3000000) ∧ marked.timing.lock = .free ∧ marked.timing.reference ≠ .marks) ∧
      3000000 + 0 ≤ marked.timing.nextBoundary + marked.timing.period / 2 ∧
      marked.timing.nextBoundary + marked.timing.period / 2 < 3000001 := by decide +kernel

/-- A waiting mark under MARKS, after a run whose marks named frames 5 and 6 at ticks 0 and 1500000. -/
def underMarks (lock : LockState) (runMarks : Nat) (second : Int) : State :=
  marked.setTiming { Timing.reset with
    reference := .marks, lock := lock, runMarks := runMarks, secondEstimate := second
    firstMark := some ⟨5, 0, 0⟩, lastMark := some ⟨6, 0, 1500000⟩ }

theorem witness_BoundaryBeginsInterval_marks :
    (∀ l ∈ [LockState.free, .holdover, .acquiring, .locked], takenMark (underMarks l 1 0) = some (markAt 3000000) ∧
      (underMarks l 1 0).timing.lock = l ∧ (underMarks l 1 0).timing.reference = .marks) ∧
      (marked.mgmt.mask.getLsbD EventKind.renumbered.code = true ∧ marked.mgmt.queue.length < 12 ∧
        (7 : FrameNo) ≠ marked.timing.frame + 1) ∧
      (((7 : FrameNo) - 6).toInt = 1 ∧ (1000000 : Int) ≤ (3000000 - 1500000) / 1 ∧ ((3000000 - 1500000) / 1 : Int) ≤ 4500000 ∧
        ¬(1 : Int) ≤ ((7 : FrameNo) - 7).toInt ∧ ¬(1000000 : Int) ≤ (3000000 - 2000001) / 1) ∧
      ((underMarks .acquiring 1 0).timing.runMarks ≤ 1 ∧ 1 < (underMarks .acquiring 2 1501953).timing.runMarks ∧
        ((1500000 : Int) - 1501953).natAbs ≤ (underMarks .acquiring 2 1501953).timing.period / 1024 ∧
        ¬((1500000 : Int) - 1501954).natAbs ≤ (underMarks .acquiring 2 1501954).timing.period / 1024) ∧
      ((underMarks .acquiring 2 1501953).timing.firstMark = some ⟨5, 0, 0⟩ ∧
        ((3000000 - 0) / ((7 : FrameNo) - 5).toInt : Int) = 1500000) := by decide +kernel

/-- Boundaries that bring the lock machine no mark: at and before each count, and with a mark taken under INTERNAL. -/
theorem witness_BoundaryBeginsInterval_waits :
    let waiting := fun (r : Reference) (lock : LockState) (marks boundaries : Nat) => State.reset.setTiming { Timing.reset with
      reference := r, lock := lock, markWait := marks, holdoverCount := boundaries }
    (∀ r ∈ [Reference.internal, .marks], ∀ l ∈ [LockState.free, .acquiring, .locked, .holdover], ∀ k ∈ [98, 99],
      takenMark (waiting r l k 249) = none ∧ (waiting r l k 249).timing.reference = r ∧
        (waiting r l k 249).timing.lock = l ∧ (waiting r l k 249).timing.markWait = k) ∧
      ((waiting .marks .holdover 0 248).timing.holdoverCount < 249 ∧ 249 ≤ (waiting .marks .holdover 0 249).timing.holdoverCount) ∧
      (takenMark marked = some (markAt 3000000) ∧ marked.timing.reference ≠ .marks) := by decide +kernel

theorem witness_PwmGridDividesTheInterval :
    (996094 ≤ 996094 ∧ 996094 ≤ 4517578) ∧ (1 ≤ 1 ∧ 16 ≤ 16) ∧
      (64 ∈ [1, 2, 4, 8, 16, 32, 64, 128] ∧ 64 < (gridOf 4517578 1).p) ∧ (1 ∈ [1, 2, 4, 8, 16, 32, 64, 128] ∧
        1 < (gridOf 2000000 4).p) := by decide +kernel

theorem witness_BoundaryBringsRequestsIntoForce :
    let due := State.reset.setBanks { Banks.reset with take := .pending ⟨2, .command 0⟩ }
    let waiting := State.reset.setBanks { Banks.reset with take := .pending ⟨3, .command 0⟩ }
    let disabling := State.reset.setPort 0 { Port.reset with state := .active, disable := some 0 }
    (disabling.port 0).disable ≠ none ∧ due.banks.take = .pending ⟨2, .command 0⟩ ∧
      (timingBoundary due).timing.frame = 1 ∧ 0 ≤ frameDiff 1 (2 - 1) ∧
      waiting.banks.take = .pending ⟨3, .command 0⟩ ∧ frameDiff 1 (3 - 1) < 0 := by decide +kernel

/-- Outputs 0 and 1 a pair, 2 a value and 4 without one, as a boundary finds them, with the light hold asked for or not. -/
def staging (held : Bool) : State :=
  { State.reset with
    canvas := { Canvas.reset with lightOperator := held }
    drive := ((Tab.replicate 16 PwmOutput.reset).set 0 { PwmOutput.reset with staged := .pair 36005 16384 }).set 2
      { PwmOutput.reset with staged := .value 65535 } }

theorem witness_BoundaryBringsRequestsIntoForce_shown :
    let staged := fun o : Fin 16 => ((staging false).drive.get o).staged
    (staging true).canvas.lightOperator = true ∧ (staging false).canvas.lightOperator = false ∧
      staged (evenOutput 0) = .pair 36005 16384 ∧ staged (evenOutput 1) = .pair 36005 16384 ∧
      ((∀ intensity mix, staged (evenOutput 2) ≠ .pair intensity mix) ∧ staged 2 = .value 65535) ∧
      (∀ intensity mix, staged (evenOutput 15) ≠ .pair intensity mix) ∧ staged 15 = .none := by
  refine ⟨rfl, rfl, by decide +kernel, by decide +kernel, ⟨fun i x h => ?_, by decide +kernel⟩, fun i x h => ?_,
    by decide +kernel⟩
  · exact absurd (h.symm.trans (by decide +kernel : _ = Staged.value 65535)) (by simp)
  · exact absurd (h.symm.trans (by decide +kernel : _ = Staged.none)) (by simp)

/-! ## Witnesses: sections 3 to 7 -/

/-- A take that stands, a Clone in flight, and a take PENDING. -/
def record0 : TakeRecord := ⟨2, .command 0⟩
def validating : State := State.reset.setBanks { Banks.reset with take := .validating record0 }
def pendingTake : State := State.reset.setBanks { Banks.reset with take := .pending record0 }
def cloning : State := State.reset.setBanks { Banks.reset with clone := some 0 }

theorem witness_TableWritesStore :
    (hasRoom State.reset = true ∧ State.reset.banks.take = .idle ∧ State.reset.banks.clone = none) ∧
      (1 ≤ 128 ∧ 128 ≤ 128 ∧ 128 + 128 ≤ 256 ∧ (List.replicate 2560 (0 : Byte)).length = 128 * 20) ∧
      (0 + 8 ≤ 8 ∧ (List.replicate 8 (0 : Byte)).length = 8) ∧
      (0 + 1024 ≤ 1024 ∧ (List.replicate 2048 (0 : Byte)).length = 1024 * 2) ∧
      (511 + 1 ≤ 512 ∧ (List.replicate 9 (0 : Byte)).length = 1 * 9) ∧
      (1 + 1 ≤ 2 ∧ (List.replicate 2 (0 : Byte)).length = 1 * 2) := by
  simp only [List.length_replicate]
  decide +kernel

theorem witness_TableWritesAreRefused :
    hasRoom validating = true ∧ hasRoom cloning = true ∧
      (Instr.writeChainLengths 0 8 1 [0], Code.writeChainLengths, 8, 8, 1) ∈
        [(Instr.writeChainLengths 0 8 1 [0], Code.writeChainLengths, 8, 8, 1)] ∧
      ¬([] : List Byte).length = 1 * 1 ∧ ([0] : List Byte).length = 1 * 1 ∧ validating.banks.take ≠ .idle ∧
      (cloning.banks.take = .idle ∧ cloning.banks.clone ≠ none) ∧
      (State.reset.banks.take = .idle ∧ State.reset.banks.clone = none ∧ 8 ≤ 8 ∧ 8 < 7 + 2) ∧
      (Instr.writeCanvasSize 0 65535 65535, Code.writeCanvasSize) ∈
        [(Instr.writeRingFlags 0 255, Code.writeRingFlags), (.writeCanvasSize 0 65535 65535, Code.writeCanvasSize)] := by
  decide +kernel

theorem witness_ReadTableShowsTheBank :
    (hasRoom State.reset = true ∧ hasRoom cloning = true ∧ cloning.banks.clone ≠ none) ∧
      State.reset.banks.clone = none ∧ 1 < 2 ∧
      (¬(8 = 2 ∨ 8 = 3 ∨ ∃ z ∈ [(0, 256, 128), (1, 8, 8), (4, 1024, 1024), (5, 1024, 1024), (6, 512, 512), (7, 2, 2)],
        8 = z.1 ∧ 0 < z.2.1 ∧ 1 ≤ 1 ∧ 1 ≤ z.2.2 ∧ 0 + 1 ≤ z.2.1)) ∧
      ((0, 256, 128) ∈ [(0, 256, 128), (1, 8, 8)] ∧ 255 < 256 ∧ 1 ≤ 1 ∧ 255 + 1 ≤ 256) := by decide

theorem witness_CloneCopiesTheActiveBank :
    (hasRoom State.reset = true ∧ State.reset.banks.take = .idle ∧ State.reset.banks.clone = none) ∧
      (hasRoom validating = true ∧ validating.banks.take ≠ .idle) ∧
      (hasRoom cloning = true ∧ cloning.banks.take = .idle ∧ cloning.banks.clone ≠ none) ∧
      cloning.banks.clone = some 0 := by decide +kernel

theorem witness_TakesAreAcceptedAndCancelled :
    (hasRoom State.reset = true ∧ hasRoom validating = true ∧ hasRoom cloning = true) ∧ validating.banks.take ≠ .idle ∧
      (State.reset.banks.take = .idle ∧ State.reset.banks.clone = none ∧ 1 < 2) ∧
      ([1, 2, 65536, 65537].map fun f => ((BitVec.ofNat 32 f) - State.reset.timing.frame).toInt) = [1, 2, 65536, 65537] ∧
      validating.banks.take = .validating record0 ∧ pendingTake.banks.take = .pending record0 := by decide +kernel

/-- A staged bank that fails its first check. -/
def narrow : Bank := { Bank.reset with canvasW := 0 }

theorem witness_TakesValidateAndCommit :
    (validating.banks.take = .validating record0 ∧ validate validating.stagedBank = none) ∧
      (let s := validating.setBanks { validating.banks with bankB := narrow };
        s.banks.take = .validating record0 ∧ validate s.stagedBank = some ⟨.canvasWidth, 0⟩) ∧
      (pendingTake.banks.take = .pending record0 ∧ (pendingTake.timing.frame - (record0.frame - 1)).toInt < 0) ∧
      (let s := pendingTake.setTiming { Timing.reset with frame := 1 };
        s.banks.take = .pending record0 ∧ 0 ≤ (s.timing.frame - (record0.frame - 1)).toInt) ∧
      (State.reset.banks.take = .idle ∧ State.reset.banks.clone = none ∧ validating.banks.take ≠ .idle ∧
        cloning.banks.take = .idle ∧ cloning.banks.clone ≠ none) :=
  ⟨⟨rfl, test_reset_bank_passes⟩, ⟨rfl, rfl⟩, ⟨rfl, by decide⟩, ⟨rfl, by decide⟩, rfl, rfl, by decide, rfl, by decide⟩

/-- Every contact input asks for a take: the inputs are low, and their samples come high. -/
def asking (b : Banks) : State := (State.reset.setBanks b).setTiming { Timing.reset with functions := Tab.replicate 4 .take }

theorem witness_TakesValidateAndCommit_contacts :
    let askers := fun (s : State) (gp : Tab 4 Bool) => (List.finRange 4).filter fun i =>
      decide (s.timing.functions.get i = .take) && gp.get i && !s.timing.samples.get i
    askers (asking Banks.reset) (Tab.replicate 4 true) = 0 :: [1, 2, 3] ∧
      askers (asking Banks.reset) (Tab.replicate 4 false) = [] ∧
      ((asking Banks.reset).banks.take = .idle ∧ (asking Banks.reset).banks.clone = none ∧
        (asking Banks.reset).cue.state = .idle ∧ ∀ j, (asking Banks.reset).timing.functions.get j ≠ .go) ∧
      (asking pendingTake.banks).banks.take ≠ .idle ∧
      ((asking cloning.banks).banks.take = .idle ∧ (asking cloning.banks).banks.clone ≠ none) := by decide +kernel

/-- A curve that falls at its first entry: 5, then 4 for ever. -/
def falling : Tab 1024 Level := (Tab.replicate 1024 4).set 0 5

theorem falling_first : (∃ j : Fin 1024, j.val + 1 = (1 : Fin 1024).val ∧ (falling.get 1).toNat < (falling.get j).toNat) ∧
    ∀ j : Fin 1024, j < 1 → ¬∃ k : Fin 1024, k.val + 1 = j.val ∧ (falling.get j).toNat < (falling.get k).toNat := by
  refine ⟨⟨0, rfl, by decide +kernel⟩, ?_⟩
  rintro j hj ⟨k, hk, -⟩
  have : j.val < 1 := hj
  omega

theorem witness_CurvesMustNotFall :
    (let b := { Bank.reset with wallCurve := falling };
      (checkCanvas b).isNone ∧ (checkLengths b).isNone ∧ (checkSlots b).isNone ∧ (checkRings b).isNone ∧
        b.wallCurve = falling) ∧ (checkTiles { Bank.reset with wallCurve := falling }).isNone ∧
      ∀ i : Fin 1024, ¬∃ j : Fin 1024, j.val + 1 = i.val ∧
        (Bank.reset.lightCurve.get i).toNat < (Bank.reset.lightCurve.get j).toNat := by
  refine ⟨⟨by decide +kernel, by decide +kernel, by decide +kernel, by decide +kernel, rfl⟩, ?_, ?_⟩
  · exact Option.isNone_iff_eq_none.2
      (List.findSome?_eq_none_iff.2 fun i _ => invalid_passes (by simp [Bank.reset, TileEntry.reset]))
  · rintro i ⟨j, h, hlt⟩
    exact absurd (reset_curves_rise.2 j i h) (Nat.not_le.2 hlt)

/-- A bank whose channel 0 masters chain 0. -/
def masterBank : Bank :=
  { Bank.reset with patch := (Tab.replicate 512 PatchEntry.reset).set 0 ⟨4, 0, 4096, 0, 0, 0, 1⟩ }

theorem masterBank_passes : validate masterBank = none := by
  refine passes_with_reset_curves rfl rfl ⟨by decide +kernel, by decide +kernel, by decide +kernel, ?_, by decide +kernel, ?_⟩
  · exact List.findSome?_eq_none_iff.2 fun i _ => invalid_passes (by simp [masterBank, Bank.reset, TileEntry.reset])
  · refine List.findSome?_eq_none_iff.2 fun i _ => ?_
    by_cases h : i = 0
    · subst h; decide +kernel
    · exact unpatched_passes (by simp [masterBank, Ne.symm h])

theorem witness_ChainMasterFollowsItsChannel :
    (let s := State.reset.setBanks { Banks.reset with bankA := masterBank };
      validate s.activeBank = none ∧ (s.activeBank.patch.get 0).kind = 4 ∧
        (s.activeBank.patch.get 0).mask.getLsbD (0 : Fin 8).val = true) ∧
      (∀ ch, ¬((State.reset.activeBank.patch.get ch).kind = 4 ∧
        (State.reset.activeBank.patch.get ch).mask.getLsbD (0 : Fin 8).val = true)) ∧
      ∃ t, exec (.frameBoundary (Tab.replicate 4 false) ⟨false, false, false⟩) State.reset = .next t := by
  refine ⟨⟨masterBank_passes, by decide +kernel, by decide +kernel⟩, ?_, ⟨_, rfl⟩⟩
  intro ch h
  have : (State.reset.activeBank.patch.get ch) = PatchEntry.reset := by
    simp [State.reset, State.activeBank, Banks.reset, Bank.reset]
  rw [this] at h
  exact absurd h.1 (by decide)

theorem witness_DefaultLightCurve :
    (∀ i, (Bank.reset.lightCurve.get i).toNat = 64 * i.val) ∧ (65504 ≤ 65504 ∧ 65505 ≤ 65505 ∧ 65535 ≤ 65535) ∧
      ({ Bank.reset with lightCurve := Tab.replicate 1024 65535 } : Bank).lightCurve.get ⟨1023, by decide⟩ = 65535 := by
  refine ⟨fun i => ?_, by decide, by simp⟩
  have := i.isLt
  simp only [Bank.reset, Tab.get_ofFn, BitVec.toNat_ofNat]
  omega

theorem witness_LevelPathNeverBrightens :
    (4096 ≤ 4096 ∧ 0 ≤ 4096) ∧ ((8 ∈ [8, 10, 12, 16] ∧ 16 ∈ [8, 10, 12, 16]) ∧ 65535 ≤ 65535) ∧
      (65535 ≤ 65535 ∧ PatchEntry.reset.trim.toNat ≤ 4096) ∧
      ∀ i j : Fin 1024, i ≤ j → (Bank.reset.lightCurve.get i).toNat ≤ (Bank.reset.lightCurve.get j).toNat := by
  refine ⟨by decide, by decide, by decide, fun i j h => ?_⟩
  have hj := j.isLt
  have h' : i.val ≤ j.val := h
  simp only [Bank.reset, Tab.get_ofFn, BitVec.toNat_ofNat]
  omega

/-- The last segment of the table curve, whose second point is virtual, and the one before it; a trim of unity. -/
theorem witness_LevelPathNeverBrightens_curves :
    let e : PatchEntry := { PatchEntry.reset with curve := 2 }
    let light := fun i : Fin 1024 => (Bank.reset.lightCurve.get i).toNat
    (e.curve = 2 ∧ e.trim = 4096 ∧ 63 < 64) ∧ ((1023 : Fin 1024).val = (1023 : BitVec 10).toNat) ∧
      (65535 = 64 * (1023 : Fin 1024).val + 63 ∧ (∀ j : Fin 1024, j.val = (1023 : Fin 1024).val + 1 → 65535 = light j) ∧
        light 1023 ≤ 65535) ∧
      65408 = 64 * (1022 : Fin 1024).val + 0 ∧ (1022 : Fin 1024).val ≠ 1023 ∧
        (∀ j : Fin 1024, j.val = (1022 : Fin 1024).val + 1 → light 1023 = light j) ∧ light 1022 ≤ light 1023 := by
  refine ⟨by decide, by decide, ⟨by decide, fun j h => ?_, by decide +kernel⟩, by decide, by decide, fun j h => ?_,
    by decide +kernel⟩
  · exact absurd j.isLt (by rw [h]; decide)
  · rw [show j = 1023 from Fin.ext h]

/-- A bank that drives PWM outputs 0 and 1, slot 0 at 8 bits, slots 1 and 2 at 16 bits and the grand master; slot 3 is
unoccupied. -/
def litBank : Bank :=
  { Bank.reset with
    slotCounts := Tab.replicate 2 4
    patch := (((((Tab.replicate 512 PatchEntry.reset).set 0 ⟨1, 0, 4096, 0, 0, 0, 0⟩).set 1 ⟨1, 0, 4096, 1, 0, 0, 0⟩).set 2
      ⟨2, 0, 4096, 0, 0, 0, 0⟩).set 3 ⟨3, 0, 4096, 0, 0, 1, 0⟩).set 4 ⟨5, 0, 4096, 0, 0, 0, 0⟩ }

/-- Its channels, one by one. -/
theorem litBank_channels {motive : Fin 512 → Prop} (h0 : motive 0) (h1 : motive 1) (h2 : motive 2) (h3 : motive 3)
    (h4 : motive 4) (h : ∀ ch, litBank.patch.get ch = PatchEntry.reset → motive ch) (ch : Fin 512) : motive ch := by
  by_cases e0 : ch = 0
  · exact e0 ▸ h0
  by_cases e1 : ch = 1
  · exact e1 ▸ h1
  by_cases e2 : ch = 2
  · exact e2 ▸ h2
  by_cases e3 : ch = 3
  · exact e3 ▸ h3
  by_cases e4 : ch = 4
  · exact e4 ▸ h4
  exact h ch (by simp [litBank, Ne.symm e0, Ne.symm e1, Ne.symm e2, Ne.symm e3, Ne.symm e4])

theorem litBank_passes : validate litBank = none := by
  refine passes_with_reset_curves rfl rfl ⟨by decide +kernel, by decide +kernel, by decide +kernel, ?_, by decide +kernel, ?_⟩
  · exact List.findSome?_eq_none_iff.2 fun i _ => invalid_passes (by simp [litBank, Bank.reset, TileEntry.reset])
  · exact List.findSome?_eq_none_iff.2 fun i _ => litBank_channels (motive := fun i => checkChannel litBank i = none)
      (by decide +kernel) (by decide +kernel) (by decide +kernel) (by decide +kernel) (by decide +kernel)
      (fun _ h => unpatched_passes h) i

/-- The lit bank is active with PWM outputs 0 and 1 a pair, port 0 is ACTIVE with a segment unsent in an OPEN frame, and the
source S2 covers channel 511. -/
def busy : State :=
  { State.reset with
    banks := { Banks.reset with bankA := litBank }
    drive := (Tab.replicate 16 PwmOutput.reset).set 0 { PwmOutput.reset with inForce := ⟨false, false, 0, true⟩ }
    canvas := { Canvas.reset with record := some ⟨412, .isOpen, some 0, none, 0, [], false⟩ }
    ports := (Tab.replicate 8 Port.reset).set 0 { Port.reset with
      state := .active, width := some .one, unsent := [⟨0, false, 0, 0, 0, 8, []⟩]
      latch := ⟨some (8, .half), true, 0, [], 0⟩ }
    merge := { Merge.reset with
      sources := (Tab.replicate 3 Source.reset).set 1 { Source.reset with
        live := true, unitSeen := true, cover := (Tab.replicate 512 false).set 511 true } } }

/-- What a boundary leaves there: the bank, a pair and a single output, the port, no event lost, and the coverage. -/
theorem busy_boundary :
    ∃ t, exec (.frameBoundary (Tab.replicate 4 false) ⟨false, false, false⟩) busy = .next t ∧ t.activeBank = litBank ∧
      (t.drive.get (evenOutput 1)).inForce.pair = true ∧ (t.drive.get (evenOutput 3)).inForce.pair = false ∧
      ((t.port 0).state = .active ∧ (t.port 0).width = some .one ∧ (t.port 7).state ≠ .active) ∧
      t.mgmt.eventsLost = false ∧ t.cue.state = .idle ∧
      (t.source 0).live = false ∧ (t.source 2).live = false ∧ (t.source 1).live = true ∧
      (t.source 1).cover.get 511 = true ∧ (t.source 1).cover.get 0 = false :=
  ⟨_, rfl, by decide +kernel⟩

theorem busy_selects : ∀ kind ∈ [EventKind.holdEntered, .holdLeft, .fixtureReply], busy.mgmt.selects kind = true := by
  decide +kernel

theorem witness_LevelPathNeverBrightens_lights :
    (∃ t, exec (.frameBoundary (Tab.replicate 4 false) ⟨false, false, false⟩) busy = .next t ∧
      validate t.activeBank = none ∧ (t.drive.get (evenOutput 1)).inForce.pair = true ∧
      (t.drive.get (evenOutput 3)).inForce.pair = false) ∧
      ((litBank.patch.get 4).kind = 5 ∧ ∀ ch, (Bank.reset.patch.get ch).kind ≠ 5) ∧
      ((litBank.patch.get 0).kind = 1 ∧ (litBank.patch.get 0).pwm = 0 ∧ ((litBank.patch.get 1).kind = 1 ∧
        (litBank.patch.get 1).pwm = oddOutput 0) ∧ ∀ ch, ¬((litBank.patch.get ch).kind = 1 ∧ (litBank.patch.get ch).pwm = 2)) ∧
      ((litBank.patch.get 2).kind = 2 ∧ (litBank.patch.get 2).slot.toNat = 0 ∧ (litBank.patch.get 3).kind = 3 ∧
        (litBank.patch.get 3).slot.toNat = 1 ∧ 1 + 1 = 2 ∧ 3 < (litBank.slotCounts.get 0).toNat ∧
        ∀ ch, ¬((litBank.patch.get ch).slot.toNat = 3 ∨ (litBank.patch.get ch).slot.toNat + 1 = 3)) := by
  obtain ⟨t, ht, hb, h1, h3, -⟩ := busy_boundary
  refine ⟨⟨t, ht, hb ▸ litBank_passes, h1, h3⟩, ⟨by decide +kernel, by simp [Bank.reset, PatchEntry.reset]⟩,
    ⟨by decide +kernel, by decide +kernel, by decide +kernel, ?_⟩,
    by decide +kernel, by decide +kernel, by decide +kernel, by decide +kernel, by decide, by decide +kernel, ?_⟩ <;>
  · refine litBank_channels ?_ ?_ ?_ ?_ ?_ fun ch h => ?_
    iterate 5 decide +kernel
    rw [h]
    decide

/-- An OPEN frame 412 assigned to interval 0, with its accumulation; nothing else has happened. -/
def openRecord : FrameRecord := ⟨412, .isOpen, some 0, none, 0, [], false⟩
def openFrame : State :=
  (up.setCanvas { Canvas.reset with record := some openRecord, assignedNow := true }).setLimiter
    { Limiter.reset with accumulation := some (Tab.replicate 256 ⟨0, 0, 0⟩) }

theorem witness_HoldsFollowTheirCauses :
    (hasRoom openFrame = true ∧ 3 ≤ 3) ∧ (openFrame.canvas.operator = false ∧
      openFrame.canvas.record = some openRecord ∧ openRecord.state = .isOpen) ∧
      (State.reset.canvas.operator = true ∨ isOpenRecord State.reset = false) ∧
      ((State.reset.setCanvas { Canvas.reset with autoCount := 1 }).canvas.assignedNow = false ∧
        Canvas.reset.auto = false ∧ 1 ≤ ({ Canvas.reset with autoCount := 1 } : Canvas).autoCount) := by decide +kernel

/-- A Hold that catches an OPEN frame, and a boundary at which no event is lost. -/
theorem witness_HoldsFollowTheirCauses_events :
    (hasRoom openFrame = true ∧ openFrame.canvas.operator = false ∧ openFrame.canvas.record = some openRecord ∧
      openRecord.state = .isOpen) ∧
      ∃ t, exec (.frameBoundary (Tab.replicate 4 false) ⟨false, false, false⟩) busy = .next t ∧
        t.mgmt.eventsLost = false ∧ busy.mgmt.selects .holdEntered = true ∧ busy.mgmt.selects .holdLeft = true ∧
        busy.mgmt.selects .fixtureReply = true := by
  obtain ⟨t, ht, -, -, -, -, h, -⟩ := busy_boundary
  exact ⟨⟨by decide +kernel, rfl, rfl, rfl⟩, t, ht, h, busy_selects _ (by decide), busy_selects _ (by decide),
    busy_selects _ (by decide)⟩

/-- A boundary that presents an OPEN frame, damaged as no line of it is mapped, with a unit of it waiting, and one without. -/
theorem witness_MappingHandsOnTheFrame_boundary :
    (busy.canvas.record = some ⟨412, .isOpen, some 0, none, 0, [], false⟩ ∧
      ∃ y, y < busy.activeBank.canvasH.toNat ∧ y ∉ ([] : List Nat)) ∧ isOpenRecord State.reset = false :=
  ⟨⟨rfl, 0, by decide +kernel, by decide⟩, by decide +kernel⟩

/-- A picture unit of frame 412 with one pixel, and the filter that takes it. -/
def picturePayload (line first : Nat) : List Byte := u16 412 ++ u16 line ++ u16 first ++ u16 1 ++ [0, 0, 0, 0]

/-- A canvas that meets a one-pixel unit, with so many units in the buffer. -/
def meeting (c : Canvas) (waiting : Nat) : State :=
  (arriving { allClasses with buffer := List.replicate waiting ⟨⟨0, 0, 0, []⟩, .discard⟩ } 0x0105
    (picturePayload 0 0)).setCanvas c

theorem picture_classified (c : Canvas) (waiting line first : Nat) :
    Classified (meeting c waiting) (picturePayload line first)
      (crc32 (covered 0x0105 0 12 (picturePayload line first))) ⟨0x0100, 0xFF00, .picture, 0⟩ := by
  refine ⟨0x0105, 0, rfl, rfl, rfl, .inl rfl, ?_⟩
  show decidingEntry (inBody _ _ _ _).intake _ = _
  exact (by decide +kernel : decidingEntry allClasses 0x0105 = some ⟨0x0100, 0xFF00, .picture, 0⟩)

theorem witness_PictureUnitsAreTracked :
    (1 ≤ wordAt (picturePayload 1079 1919) 6 ∧ wordAt (picturePayload 1079 1919) 6 ≤ 2040 ∧
      (picturePayload 1079 1919).length = 8 + 4 * wordAt (picturePayload 1079 1919) 6) ∧
      ((meeting Canvas.reset 7).intake.buffer.length < 8 ∧ 8 ≤ (meeting Canvas.reset 8).intake.buffer.length) ∧
      openRecord.number = (pictureOfPayload (picturePayload 0 0)).frame ∧
      ((meeting Canvas.reset 0).activeBank.canvasH.toNat ≤ 1080 ∧ (meeting Canvas.reset 0).activeBank.canvasW.toNat ≤ 1920 ∧
        1079 < (meeting Canvas.reset 0).activeBank.canvasH.toNat ∧
        1919 < (meeting Canvas.reset 0).activeBank.canvasW.toNat) ∧
      (∃ l, ({ openRecord with lastLine := some 3, lastEnd := 9 } : FrameRecord).lastLine = some l ∧ 3 = l ∧ 8 < 9) ∧
      (beginsFrame (meeting Canvas.reset 0) (pictureOfPayload (picturePayload 0 0)).frame = true ∧
        isOpenRecord (meeting Canvas.reset 0) = false ∧
        ({ Canvas.reset with contact := true } : Canvas).contact = true ∧
        ¬(Canvas.reset.operator = true ∨ Canvas.reset.contact = true)) ∧
      (beginsFrame (meeting Canvas.reset 8) (pictureOfPayload (picturePayload 1080 0)).frame = true ∧
        (meeting Canvas.reset 8).activeBank.canvasH.toNat ≤ (pictureOfPayload (picturePayload 1080 0)).line ∧
        (meeting Canvas.reset 8).activeBank.canvasW.toNat ≤ (pictureOfPayload (picturePayload 0 1920)).first ∧
        isOpenRecord (meeting { Canvas.reset with contact := true } 8) = false) := by
  refine ⟨by decide +kernel, by decide +kernel, by decide +kernel, by decide +kernel, ⟨3, rfl, rfl, by decide⟩,
    by decide +kernel, by decide +kernel⟩

/-- The engine at work on a unit with each mark. -/
def working (mark : UnitMark) : State :=
  openFrame.setCanvas { openFrame.canvas with engine := some ⟨⟨⟨412, 0, 0, [⟨0, 0, 0⟩]⟩, mark⟩, 9, 0, 0⟩ }

theorem witness_MappingHandsOnTheFrame :
    (openFrame.canvas.engine = none ∧
      (∀ mark ∈ [UnitMark.discard, .mapping 1],
        ({ up.intake with buffer := [⟨⟨412, 0, 0, []⟩, mark⟩] } : Intake).buffer = ⟨⟨412, 0, 0, []⟩, mark⟩ :: []) ∧
      ∀ kept, UnitMark.discard ≠ .mapping kept) ∧
      ((working .discard).canvas.engine = some ⟨⟨⟨412, 0, 0, [⟨0, 0, 0⟩]⟩, .discard⟩, 9, 0, 0⟩) ∧
      ((working (.mapping 1)).canvas.record = some openRecord ∧ openRecord.state = .isOpen ∧
        (working (.mapping 1)).limiter.accumulation = some (Tab.replicate 256 ⟨0, 0, 0⟩)) ∧
      (openFrame.canvas.record = some openRecord ∧ ∃ y, y < openFrame.activeBank.canvasH.toNat ∧ y ∉ openRecord.lines) ∧
      isOpenRecord State.reset = false :=
  ⟨⟨rfl, fun _ _ => rfl, fun _ h => by cases h⟩, rfl, ⟨rfl, rfl, rfl⟩, ⟨rfl, 0, by decide +kernel, by decide +kernel⟩,
    by decide +kernel⟩

/-- Section 5.5: a tile of 4 by 3 at (100, 50) at a rotation, fed by port 0 at 16 bits. -/
def mountedBank (rotation : Fin 4) : Bank :=
  { Bank.reset with
    lengths := (Tab.replicate 8 0).set 0 1
    tiles := (Tab.replicate 256 TileEntry.reset).set 0
      ⟨true, 0, 0, rotation, 100, 50, 4, 3, 4096, 4096, 4096, 0⟩ }

def mounted (rotation : Fin 4) : State :=
  (State.reset.setBanks { Banks.reset with bankA := mountedBank rotation }).setPort 0
    { Port.reset with latch := ⟨some (16, .full), true, 12, [⟨0, 0, 0⟩], 1⟩ }

/-- Line 52 with pixels 100 to 103, told apart by their red codes. -/
def line52 : PictureUnit := ⟨1, 52, 100, [⟨0, 0, 0⟩, ⟨1, 0, 0⟩, ⟨2, 0, 0⟩, ⟨3, 0, 0⟩]⟩

/-- Table 5-5: column, index, start, count, and the red samples in order (64 for code 1, 128, 192). -/
theorem test_mounting_table :
    ([0, 2, 1, 3].map fun r => (pieceFor (mounted r) line52 4 0).map fun x =>
        (x.segment.column, x.segment.index, x.segment.start, x.segment.count)) =
      [some (false, 2, 0, 4), some (false, 0, 0, 4), some (true, 2, 0, 3), some (true, 1, 0, 3)] ∧
      ([0, 2, 1, 3].map fun r => (pieceFor (mounted r) line52 4 0).map fun x =>
        x.values.map fun v => v.1) =
      [some [0, 64, 128, 192], some [192, 128, 64, 0], some [128, 64, 0], some [0, 64, 128]] := by decide +kernel

theorem mountedBank_passes : validate (mountedBank 1) = none := by
  refine passes_with_reset_curves rfl rfl ⟨by decide +kernel, by decide +kernel, by decide +kernel, ?_, by decide +kernel, ?_⟩
  · refine List.findSome?_eq_none_iff.2 fun i _ => ?_
    by_cases h : i = 0
    · subst h; decide +kernel
    · exact invalid_passes (by simp [mountedBank, Ne.symm h, TileEntry.reset])
  · exact List.findSome?_eq_none_iff.2 fun i _ => unpatched_passes (by simp [mountedBank, Bank.reset])

theorem witness_SegmentsStayInTheirTile :
    (∃ x, pieceFor (mounted 1) line52 4 0 = some x ∧ x.segment.depth ∈ [8, 10, 12, 16]) ∧
      (∀ c, ((mounted 1).level.gains.get c).master ≤ 4096 ∧ ((mounted 1).level.gains.get c).limiter ≤ 4096) ∧
      validate (mounted 1).activeBank = none := by
  refine ⟨?_, by decide +kernel, mountedBank_passes⟩
  have h : ((pieceFor (mounted 1) line52 4 0).map fun x => x.segment.depth) = some 16 := by decide +kernel
  obtain ⟨x, hx, hd⟩ := Option.map_eq_some_iff.1 h
  exact ⟨x, hx, by rw [hd]; decide⟩

/-- The four rotations of `mounted` each yield a segment, and its pixels are among the unit's. -/
theorem witness_SegmentsStayInTheirTile_order :
    (∀ r : Fin 4, ((mounted r).activeBank.tiles.get 0).rotation = r ∧ (pieceFor (mounted r) line52 4 0).isSome = true) ∧
      ((mounted 1).port 0).latch.choice = some (16, .full) ∧ line52.pixels[100 - line52.first]? = some ⟨0, 0, 0⟩ ∧
      line52.pixels[103 - line52.first]? = some ⟨3, 0, 0⟩ := by decide +kernel

/-- Port 0 in a state. -/
def portIn (x : Port) : State := State.reset.setPort 0 x

theorem portIn_port (x : Port) : (portIn x).port 0 = x := by simp [portIn, State.port, State.setPort, State.setPorts]

/-- A port in TRAINING or RECOVERY at two lanes, and one in ACTIVE. -/
def training : Port := { Port.reset with state := .training, offer := some .two, width := some .one }
def recovering : Port := { training with state := .recovery }
def active : Port := { Port.reset with state := .active, width := some .one }

theorem witness_PortsTrainAndCount :
    (Port.reset.state = .down ∧ Port.reset.holdoff = none) ∧ active.state ≠ .down ∧ training.state = .training ∧
      (active.state = .active ∧ ({ active with unsent := List.replicate 3 ⟨0, false, 0, 0, 0, 8, []⟩ } : Port).unsent.length = 3) ∧ ({ active with state := .disabled } : Port).state = .disabled ∧
      (training.window = none ∧ training.offer = some .two ∧ Lanes.two.toNat ≤ Lanes.two.toNat) ∧
      (training.state ≠ .disabled ∧ 3 ∉ [1, 2, 4] ∧ Lanes.two.toNat < 4) ∧
      ({ training with window := some ⟨0, [0, 1]⟩ } : Port).window = some ⟨0, [0, 1]⟩ := by decide +kernel

/-- The end of a window in ACTIVE, in TRAINING without a cap, and in RECOVERY with one at a narrowed width; a type byte that
names no return message. -/
theorem witness_PortsTrainAndCount_windowEnd :
    let ended := fun x : Port => { x with window := some ⟨0, [0, 1]⟩ }
    ((ended active).window = some ⟨0, [0, 1]⟩ ∧ (ended active).state ≠ .training ∧ (ended active).state ≠ .recovery) ∧
      ((ended training).window = some ⟨0, [0, 1]⟩ ∧ (ended training).state = .training ∧ (ended training).cap = none) ∧
      (let x := { recovering with cap := some 75, entryWidth := some .four };
        (ended x).window = some ⟨0, [0, 1]⟩ ∧ x.state = .recovery ∧ x.cap = some 75 ∧ x.width = some .one) ∧
      (0 ≠ training.census ∨ censusResult [0, 1] ≠ training.census) ∧ (0x84 : Byte) ∉ ([0x81, 0x82, 0x83] : List Byte) := by
  decide +kernel

theorem witness_BoundaryBringsRequestsIntoForce_markers :
    (isOpenRecord busy = true ∧ (∃ t, exec (.frameBoundary (Tab.replicate 4 false) ⟨false, false, false⟩) busy = .next t ∧
        isRing t.activeBank 0 = false) ∧ (busy.port 0).state = .active ∧ (busy.port 0).width = some .one ∧
        (busy.port 0).latch.choice ≠ none ∧ (busy.port 0).latch.pixelData = true ∧ (busy.port 0).broken = false) ∧
      (isOpenRecord (portIn active) = false ∧ ((portIn active).port 0).state = .active) ∧
      (State.reset.port 7).state ≠ .active := by
  obtain ⟨t, ht, hb, -⟩ := busy_boundary
  refine ⟨⟨by decide +kernel, ⟨t, ht, by rw [hb]; decide +kernel⟩, by decide +kernel⟩, ?_, ?_⟩ <;> decide +kernel

theorem witness_PortTimersRunOut :
    (let x := { training with count := 9 }; x.state = .training ∧ x.window = none ∧ x.count = 9) ∧
      (let x := { recovering with count := 9 };
        x.state = .recovery ∧ x.window = none ∧ x.count = 9 ∧ x.partner = false ∧ x.holdoff = none) ∧
      ({ recovering with partner := true } : Port).partner = true ∧
      (let x := { Port.reset with holdoff := some 1 }; x.state = .down ∧ x.holdoff = some 1 ∧ x.partner = false) ∧
      (let x := { active with censusCount := 49, errors := 7 };
        x.state = .active ∧ x.window = none ∧ x.censusCount = 49 ∧ x.width = some .one ∧ x.errors + 0 < 8 ∧
          8 ≤ x.errors + 1) ∧ training.state ≠ .active := by
  refine ⟨⟨rfl, rfl, rfl⟩, ⟨rfl, rfl, rfl, rfl, rfl⟩, rfl, ⟨rfl, rfl, rfl⟩, ⟨rfl, rfl, rfl, rfl, ?_, ?_⟩, ?_⟩ <;> decide

/-- A boundary of a port that offers, one whose census runs, one at its tenth, one in its holdoff, and an ACTIVE one with a cap
and a token due. -/
theorem witness_PortTimersRunOut_boundary :
    (∀ w ∈ [Lanes.four, .two, .one], ∀ x ∈ [training, recovering], let y := { x with offer := some w, count := 8 };
      y.disable = none ∧ y.window = none ∧ y.count < 9 ∧ y.offer = some w) ∧
      ({ training with window := some ⟨0, []⟩ } : Port).window ≠ none ∧ 9 ≤ ({ training with count := 9 } : Port).count ∧
      (let x := { recovering with count := 9 }; 9 ≤ x.count ∧ x.holdoff = none ∧ x.partner = false) ∧
      (let x := { Port.reset with holdoff := some 25 }; x.state = .down ∧ x.holdoff = some (23 + 2) ∧ x.disable = none) ∧
      (let x := { active with cap := some 75, censusCount := 49 };
        x.state = .active ∧ x.width = some .one ∧ x.window = none ∧ 49 ≤ x.censusCount ∧ x.disable = none) ∧
      (active.state ≠ .active ∨ ({ active with disable := some 0 } : Port).disable ≠ none) := by decide +kernel

theorem witness_ChainCommandsActOnState :
    hasRoom (portIn active) = true ∧ 8 ≤ 8 ∧ Port.reset.state = .down ∧ training.state = .training ∧
      (active.state = .active ∧ active.disable = none) ∧
      (hasRoom (portIn { active with disable := some 0 }) = true ∧
        ({ active with disable := some 0 } : Port).disable ≠ none) ∧
      (let x := { Port.reset with state := .disabled };
        x.state = .disabled ∧ x.disable = none ∧ x.partner = false ∧ x.holdoff = none) ∧
      ({ Port.reset with state := .disabled, partner := true } : Port).partner = true := by
  refine ⟨by decide +kernel, by decide, rfl, rfl, ⟨rfl, rfl⟩, ⟨by decide +kernel, by decide⟩, ⟨rfl, rfl, rfl, rfl⟩, rfl⟩

/-- Two tiles on chain 0, alone and as a ring of which the primary reaches one. -/
def chainBank (ring : Bool) : Bank :=
  { Bank.reset with
    lengths := (Tab.replicate 8 0).set 0 2
    rings := Tab.replicate 4 ring
    tiles := (Tab.replicate 256 { TileEntry.reset with valid := true }).set 1
      { TileEntry.reset with valid := true, position := 1 } }

def bothActive (census : Nat) : Tab 8 Port := Tab.replicate 8 { active with census := census }

theorem witness_PortsReachEachTileOnce :
    (reachOf (chainBank false) (bothActive 2) ((chainBank false).tiles.get 1) = some (0, 1) ∧
      ((chainBank false).tiles.get 1).position.val < ((chainBank false).lengths.get 0).toNat ∧
      isRing (chainBank false) 0 = false) ∧
      (reachOf (chainBank true) (bothActive 1) ((chainBank true).tiles.get 1) = some (1, 0) ∧
        isRing (chainBank true) 0 = true ∧ (0 : Fin 8).val % 2 = 0) ∧
      (⟨1, 0, 0⟩ : ReachedTile) ∈ reachedBy (chainBank true) (bothActive 1) 1 ∧
      [chooseDepth 100 4800, chooseDepth 100 4799, chooseDepth 100 1200, chooseDepth 100 1199].map Prod.snd =
        [.full, .full, .half, .overbooked] := by
  decide +kernel

/-- The tile of position 1 at the census in force and one past it, without a ring; in a ring of two tiles it is the primary's,
the return port's, or unfed; a port with a Disable pending reaches none; and an entry that is not valid. -/
theorem witness_PortsReachEachTileOnce_reached :
    let e := (chainBank false).tiles.get 1
    let ends := fun (primary back : Nat) => (bothActive primary).set 1 { active with census := back }
    (e.valid = true ∧ e.position.val = 1 ∧ e.chain.val / 2 = (0 : Fin 4).val ∧ (chainBank false).rings.get 0 = false ∧
        (chainBank true).rings.get 0 = true ∧ ((chainBank true).tiles.get 1) = e ∧ ((chainBank true).lengths.get 0).toNat = 2) ∧
      [2, 1].map (fun census => reachOf (chainBank false) (bothActive census) e) = [some (0, 1), none] ∧
      reachOf (chainBank false) ((bothActive 2).set 0 { active with census := 2, disable := some 0 }) e = none ∧
      [(2, 2), (1, 1), (1, 3), (1, 0)].map (fun c => reachOf (chainBank true) (ends c.1 c.2) e) =
        [some (0, 1), some (1, 0), some (1, 0), none] ∧
      reachOf (chainBank false) (bothActive 2) { e with valid := false } = none := by decide +kernel

theorem witness_PortsReachEachTileOnce_latch :
    ∃ t, exec (.frameBoundary (Tab.replicate 4 false) ⟨false, false, false⟩) busy = .next t ∧
      (t.port 0).state = .active ∧ (t.port 0).width = some .one ∧ (t.port 7).state ≠ .active := by
  obtain ⟨t, ht, -, -, -, h, -⟩ := busy_boundary
  exact ⟨t, ht, h⟩

theorem witness_LimiterKeepsTheBudget :
    (hasRoom State.reset = true ∧ 8 ≤ 8) ∧ ChainLimiter.reset.gain ≤ 4096 ∧ ChainLimiter.reset.budget = 0 ∧
      (let x := { ChainLimiter.reset with budget := 500, gain := 2000 };
        (x.gain ≤ 4096 ∧ x.budget ≠ 0 ∧ x.budget < [200, 200, 101].sum ∧ [200, 300].sum ≤ x.budget) ∧
          256 < (updateRecord [200, 200, 200, 200] 0 x).target ∧ x.gain ≤ (updateRecord [800] 0 x).target ∧
          (updateRecord [8000] 0 { x with gain := 2561 }).target < 2561) := by
  refine ⟨⟨room, by decide⟩, by decide, rfl, ⟨by decide, by decide, by decide, by decide⟩, by decide +kernel,
    by decide +kernel, by decide +kernel⟩

/-- Right after the presentation of a frame on chain 0, whose one fed tile demands 800 in an interval of 500. -/
def presented (gain : Nat) : State :=
  { State.reset with
    canvas := { Canvas.reset with notice := some ⟨412, 0⟩ }
    ports := (Tab.replicate 8 Port.reset).set 0 { active with marker := some false }
    limiter := { Limiter.reset with
      chains := Tab.replicate 8 { ChainLimiter.reset with budget := 500, gain := gain, step := 4096 } } }

/-- The same chain with tile 0 reached and a sum of white in its accumulation. -/
def demanding : State :=
  (presented 4096).setPort 0 { active with
    marker := some false, census := 1, latch := ⟨some (8, .full), true, 1, [⟨0, 0, 0⟩], 1⟩ }

theorem witness_LimiterKeepsTheBudget_events :
    (isPresented (presented 4096) 0 = true ∧ ((presented 4096).chain 0).gain = 4096 ∧
      (updateRecord (tileDemands (presented 4096) 0) 0 ((presented 4096).chain 0)).gain = 4096) ∧
      (((presented 4095).chain 0).gain < 4096 ∧
        (updateRecord (tileDemands (presented 4095) 0) 0 ((presented 4095).chain 0)).gain = 4096) ∧
      (let s := demanding.setLimiter { (presented 4096).limiter with
          accumulation := some (Tab.replicate 256 ⟨765, 1, 800⟩) };
        isPresented s 0 = true ∧ (s.chain 0).gain = 4096 ∧
          (updateRecord (tileDemands s 0) 0 (s.chain 0)).gain < 4096) ∧
      (∃ a, (openFrame.setPort 0 active).limiter.accumulation = some a ∧ isOpenRecord openFrame = true) := by
  refine ⟨by decide +kernel, by decide +kernel, by decide +kernel, ⟨_, rfl, by decide +kernel⟩⟩

/-! ## Witnesses: sections 8 to 11 -/

/-- A LIVE source one boundary before its timeout of 100. -/
def nearlySilent : State := State.reset.setSource 0 { Source.reset with live := true, silence := 99 }

theorem witness_SourcesAreSetAndFallSilent :
    hasRoom State.reset = true ∧ (3 < 4 ∧ 7 < 8 ∧ 7 ≤ 7) ∧ 3 = (2 : Fin 3).val + 1 ∧
      ((nearlySilent.source 0).live = true ∧ (nearlySilent.source 0).unitSeen = false ∧
        (nearlySilent.source 0).timeout ≤ (nearlySilent.source 0).silence + 1) ∧
      ¬((State.reset.source 1).live = true ∧ (State.reset.source 1).unitSeen = false ∧
        (State.reset.source 1).timeout ≤ (State.reset.source 1).silence + 1) := by decide +kernel

/-- What a boundary leaves of a source is covered channels and uncovered ones. -/
theorem witness_HighestOfHighestPriorityWins_boundary :
    (busy.cue.state = .idle → ∀ ch, busy.cue.cover.get ch = none) ∧
      ∃ t, exec (.frameBoundary (Tab.replicate 4 false) ⟨false, false, false⟩) busy = .next t ∧
        Covers t 511 2 (t.source 1).priority ((t.source 1).image.get 511) ∧
        ∀ source priority level, ¬Covers t 0 source priority level := by
  obtain ⟨t, ht, -, -, -, -, -, hc, h0, h2, h1, hin, hout⟩ := busy_boundary
  refine ⟨fun _ ch => by simp [busy, State.reset, Cue.reset], t, ht, .inr ⟨1, rfl, h1, hin, rfl, rfl⟩, ?_⟩
  rintro source priority level (⟨-, h, -⟩ | ⟨k, -, hl, h, -⟩)
  · exact h hc
  · match k with
    | 0 => simp [h0] at hl
    | 1 => simp [hout] at h
    | 2 => simp [h2] at hl

/-- Source S2 covers every channel at full level. -/
def covered511 : State :=
  State.reset.setSource 1
    { Source.reset with live := true, cover := Tab.replicate 512 true, image := Tab.replicate 512 65535 }

theorem witness_HighestOfHighestPriorityWins :
    Covers covered511 511 2 4 65535 ∧ (2 : Fin 4) ≠ 0 ∧
      ∀ source priority level, ¬Covers State.reset 0 source priority level := by
  refine ⟨.inr ⟨1, rfl, ?_, ?_, ?_, ?_⟩, by decide, ?_⟩
  · simp [covered511, State.source, State.setSource, State.setMerge]
  · simp [covered511, State.source, State.setSource, State.setMerge]
  · simp [covered511, State.source, State.setSource, State.setMerge, Source.reset]
  · simp [covered511, State.source, State.setSource, State.setMerge]
  · rintro source priority level (⟨-, h, -⟩ | ⟨k, -, h, -⟩)
    · exact h rfl
    · simp [State.reset, State.source, Merge.reset, Source.reset] at h

/-- Cues 1 and 999 with one pair each, playback resting on cue 1. -/
def cueOf (number : Nat) : CueRecord := ⟨number, [(511, 65535)], 2, 3, 1, none, false⟩
def twoCues : Cue := { Cue.reset with list := [cueOf 1, cueOf 999], state := .resting, current := some 1 }
def playing (c : Cue) : State := State.reset.setCue c

/-- A full list of 64 cues. -/
def fullList : List CueRecord := (List.range 64).map fun k => cueOf (k + 1)

theorem witness_CueListIsKept :
    (hasRoom (playing twoCues) = true ∧ (twoCues.list.Pairwise fun a b => a.number < b.number) ∧
      ∀ r ∈ twoCues.list, 1 ≤ r.number) ∧
      ((1 ≤ 999 ∧ 999 ≤ 999) ∧ (1 ≤ [(511, 65535)].length ∧ [(511, 65535)].length ≤ 48) ∧
        (∀ x ∈ [(511, 65535)], x.1 ≤ 511) ∧ ([(511, 65535)].map Prod.fst).Pairwise (· < ·)) ∧
      ¬(999 ≤ 998 ∧ 1 ≤ 999) ∧ (twoCues.current = some 1 ∧ twoCues.current ≠ some 999 ∧ twoCues.target ≠ some 999) ∧
      (∃ r ∈ twoCues.list, r.number = 999) ∧ ((∀ r ∈ fullList, r.number ≠ 999) ∧ 64 ≤ fullList.length) ∧
      (fullList.Pairwise fun a b => a.number < b.number) ∧ ((∀ r ∈ twoCues.list, r.number ≠ 500) ∧ 500 ≠ 0) := by
  decide +kernel

theorem witness_GosNameTheirCue :
    (hasRoom (playing twoCues) = true ∧ (twoCues.list.Pairwise fun a b => a.number < b.number)) ∧
      ((∀ n, twoCues.current = some n → n < (cueOf 999).number) ∧ cueOf 999 ∈ twoCues.list ∧
        ∀ x ∈ twoCues.list, 1 < x.number → (cueOf 999).number ≤ x.number) ∧
      (∀ r ∈ twoCues.list, ¬999 < r.number) ∧ (∀ r ∈ twoCues.list, r.number ≠ 2) ∧
      (cueOf 1 ∈ twoCues.list ∧ (cueOf 1).number < 999 ∧ ∀ r ∈ twoCues.list, ¬r.number < 1) ∧
      (({ twoCues with follow := some 0 } : Cue).state = .resting ∧
        ({ twoCues with follow := some 0 } : Cue).follow = some 0 ∧ 0 ≤ (State.reset.timing.frame - 0).toInt) := by
  refine ⟨by decide +kernel, ⟨?_, by decide +kernel, by decide +kernel⟩, by decide +kernel, by decide +kernel,
    by decide +kernel, by decide +kernel⟩
  intro n h
  cases h
  decide

theorem witness_GosNameTheirCue_contacts :
    let s := fun c : Cue => (playing c).setTiming { Timing.reset with functions := (Tab.replicate 4 .none).set 3 .go }
    let goes := fun (c : Cue) (i : Fin 4) => (s c).timing.functions.get i = .go ∧
      (Tab.replicate 4 true : Tab 4 Bool).get i = true ∧ (s c).timing.samples.get i = false
    (goes twoCues 3 ∧ ¬goes twoCues 0 ∧ ∀ j, goes twoCues j → j = 3) ∧
      (Cue.reset.state = .idle ∧ Cue.reset.current = none ∧ Cue.reset.target = none ∧ Cue.reset.list = []) ∧
      ({ Cue.reset with list := fullList } : Cue).list = cueOf 1 :: fullList.tail := by decide +kernel

theorem witness_FadesRunBetweenTheirLevels :
    (let c := { twoCues with state := .delay, target := some 999 };
      c.state = .delay ∧ c.delayLeft = 0 ∧ c.target = some 999 ∧ findCue c.list 999 = some (cueOf 999)) ∧
      (cueLevel (cueOf 999) 511 ≠ none ∧ cueLevel (cueOf 999) 0 = none ∧ twoCues.cover.get 0 = none) ∧
      (let f : FadeChannel := ⟨0, 65535, 2, true, true⟩; f.time ≤ 2 ∧ 0 < f.time ∧ 1 < f.time) ∧
      (let f : FadeChannel := ⟨0, 65535, 0, true, false⟩; f.time ≤ 0 ∧ f.entered = false) ∧
      (let f : FadeChannel := ⟨0, 65535, 0, true, true⟩; f.time ≤ 1 ∧ 0 < 1 ∧ f.entered = true) ∧
      (let c := { twoCues with state := .fading, target := some 999 };
        c.state = .fading ∧ c.target = some 999) ∧
      ¬∀ ch f, ({ twoCues with fade := Tab.replicate 512 (some ⟨0, 1, 2, true, true⟩) } : Cue).fade.get ch = some f →
        fadeLevel 0 f = f.stop := by
  refine ⟨⟨rfl, rfl, rfl, rfl⟩, ⟨by decide +kernel, by decide +kernel, by decide +kernel⟩, ⟨by decide, by decide, by decide⟩,
    by decide, by decide, ⟨rfl, rfl⟩, fun h => ?_⟩
  exact absurd (h 0 ⟨0, 1, 2, true, true⟩ (by simp)) (by decide +kernel)

theorem witness_FadesRunBetweenTheirLevels_boundary :
    (∀ i, (playing twoCues).timing.functions.get i ≠ .go) ∧
      (∀ p ∈ [PlayState.idle, .haltedDelay, .haltedFading, .delay, .fading, .resting],
        (playing { twoCues with state := p }).cue.state = p) ∧
      ({ twoCues with delayLeft := 1 } : Cue).delayLeft = 0 + 1 ∧
      (let c := { twoCues with state := .delay, target := some 999 };
        c.delayLeft = 0 ∧ c.target = some 999 ∧ findCue c.list 999 = some (cueOf 999) ∧ c.cover.get 511 = none ∧
          cueLevel (cueOf 999) 511 = some 65535 ∧ cueLevel (cueOf 999) 0 = none) ∧
      ((∀ ch, twoCues.fade.get ch = none) ∧
        ({ twoCues with fade := (Tab.replicate 512 none).set 511 (some ⟨0, 1, 2, true, true⟩) } : Cue).fade.get 511 ≠ none) := by
  exact ⟨by decide +kernel, by decide +kernel, by decide +kernel, by decide +kernel,
    fun ch => by simp [twoCues, Cue.reset], by decide +kernel⟩

/-- A fade that has ended and one that has not; a follow of 0 at the completion boundary, one still to come, and none. -/
theorem witness_FadesRunBetweenTheirLevels_follow :
    (let c := { twoCues with elapsed := 2, fade := (Tab.replicate 512 none).set 511 (some ⟨0, 65535, 2, true, true⟩) };
      ∀ ch f, c.fade.get ch = some f → fadeLevel c.elapsed f = f.stop) ∧
      (let f : FadeChannel := ⟨0, 65535, 2, true, true⟩; fadeLevel 1 f ≠ f.stop) ∧
      (∀ n : FrameNo, ∃ f, (some 0).map (fun k => n + BitVec.ofNat 32 k) = some f ∧ 0 ≤ (n - f).toInt) ∧
      (∀ f : FrameNo, (some 65535).map (fun k => (9 : FrameNo) + BitVec.ofNat 32 k) = some f → (9 - f).toInt < 0) ∧
      (∀ f : FrameNo, twoCues.follow = some f → (9 - f).toInt < 0) := by
  refine ⟨?_, by decide +kernel, fun n => ⟨_, rfl, by simp⟩, ?_, ?_⟩
  · intro c ch f h
    by_cases hc : ch = 511
    · subst hc
      obtain rfl : FadeChannel.mk 0 65535 2 true true = f := Option.some.inj (by simpa [c] using h)
      decide +kernel
    · simp [c, Ne.symm hc] at h
  · intro f h
    obtain rfl := Option.some.inj h
    decide +kernel
  · intro f h; cases h

theorem witness_PlaybackHaltsResumesAndClears :
    (∀ p ∈ [PlayState.delay, .fading, .haltedDelay, .haltedFading, .idle],
      ({ twoCues with state := p } : Cue).state = p ∧ hasRoom (playing { twoCues with state := p }) = true) ∧
      (twoCues.state = .resting ∧ twoCues.follow = none ∧ twoCues.state ≠ .idle) ∧
      ({ twoCues with follow := some 0 } : Cue).follow ≠ none := by decide +kernel

/-- A step below N, under either alignment, and ticks in the first period, in the last, and in the residual. -/
theorem witness_PwmOutputsShowTheirDuty_steps :
    let g := gridOf 1668335 4
    (0 < 1 ∧ 52134 < 52135) ∧ (PwmOutput.reset.inForce.centre = false ∧ ({ PwmOutput.reset.inForce with centre := true } :
      PwmSettings).centre = true) ∧ (0 < g.k ∧ 0 < g.n ∧ g.p * g.n * 0 + g.p * 0 ≤ 0 ∧ 0 < g.p * g.n * 0 + g.p * (0 + 1)) ∧
      (3 < g.k ∧ 52134 < g.n ∧ g.p * g.n * 3 + g.p * 52134 ≤ 1668319 ∧ 1668319 < g.p * g.n * 3 + g.p * (52134 + 1)) ∧
      (g.p * g.n * g.k ≤ 1668320 ∧ 1668320 < 1668335) := by decide +kernel

theorem witness_PwmOutputsShowTheirDuty :
    hasRoom State.reset = true ∧ (14 ≤ 15 ∧ 1 ≤ 1 ∧ 15 ≤ 15 ∧ 14 % 2 = 0 ∧ 14 = (14 : Fin 16).val) ∧
      ¬(15 ≤ 15 ∧ 1 ≤ 1 ∧ 15 ≤ 15 ∧ (true = true → 15 % 2 = 0)) ∧ (1 ≤ 1 ∧ 1 ≤ 1) ∧
      GridSound Timing.reset.grid Timing.reset.length ∧ PwmOutput.reset.inForce.phase ≤ 15 := by
  refine ⟨room, by decide, by decide, by decide, ?_, by decide⟩
  unfold GridSound
  decide +kernel

/-- Port 0 refreshing, with a query in a phase and a shifter. -/
def query (phase : QueryPhase) : Query := ⟨0, 255, .status, phase⟩
def refreshing : FixturePort := { FixturePort.reset with refreshing := true }
def onPort (x : FixturePort) : State := State.reset.setFixturePort 0 x

theorem onPort_port (x : FixturePort) : (onPort x).fixturePort 0 = x := by
  simp [onPort, State.fixturePort, State.setFixturePort, State.setFixture]

theorem witness_FixtureCommandsSwitchAndQuery :
    (hasRoom State.reset = true ∧ hasRoom (onPort { refreshing with query := some (query .waiting) }) = true) ∧
      (1 < 2 ∧ 4 < 5 ∧ 1 ≤ 4 ∧ 4 ≤ 4) ∧ FixturePort.reset.refreshing = false ∧
      (refreshing.refreshing = true ∧ refreshing.query = none ∧ refreshing.shifter = .idle) ∧
      ({ refreshing with query := some (query .waiting) } : FixturePort).query = some (query .waiting) ∧
      (255 < 256 ∧ 2 < 3 ∧ 1 ≤ 255 ∧ 255 ≤ 255) ∧
      ({ refreshing with shifter := .level 0 .slow [] } : FixturePort).shifter ≠ .idle := by decide +kernel

/-- A disable in the lead-in of a level frame, at its last tick, and in its second character. -/
theorem witness_FixtureCommandsSwitchAndQuery_cutOff :
    (∃ slots, ({ refreshing with shifter := .level 0 .fast slots } : FixturePort).shifter = .level 0 .fast [255] ∧
      ({ refreshing with shifter := .level 0 .fast slots } : FixturePort).query = none) ∧ max 0 11199 < 0 + 11200 ∧
      0 + 11200 + 0 * 2200 ≤ max 0 11200 ∧ max 0 11200 < 0 + 11200 + (0 + 1) * 2200 ∧
      0 + 11200 + 1 * 2200 ≤ max 0 15599 ∧ max 0 15599 < 0 + 11200 + (1 + 1) * 2200 :=
  ⟨⟨[255], rfl, rfl⟩, by decide⟩

/-- The same with a query outstanding: the shifter idle, on a level frame, and on the query's own frame. -/
theorem witness_FixtureCommandsSwitchAndQuery_cutOffQuery :
    (∀ shifter ∈ [Shifter.idle, .level 0 .fast [255], .query 0 .fast],
      let x := { refreshing with shifter := shifter, query := some (query .sending) };
      x.refreshing = true ∧ x.query = some (query .sending) ∧ x.shifter = shifter) ∧
      (∃ slots, Shifter.level 0 .fast [255] = .level 0 .fast slots ∧ [0x10, 255] = 0x10 :: slots) ∧
      ([0x20, 255, (query .sending).kind.character] : List Byte) =
        [0x20, BitVec.ofNat 8 (query .sending).address, (query .sending).kind.character] := by
  exact ⟨by decide +kernel, ⟨[255], rfl, rfl⟩, rfl⟩

/-- A reply of one data byte from address 255, as received in the window of its query. -/
def replyChars : List Byte :=
  replyStart (query .waiting) ++ u8 1 ++ [7] ++ [replyChecksum (replyStart (query .waiting) ++ u8 1 ++ [7])]
def received (inWindow : Bool) (l : List Byte) : RxFrame := ⟨l.map fun b => ⟨b, false, false⟩, inWindow⟩

theorem witness_FixturePortsSendAndReceive :
    (let x := { refreshing with shifter := .level 0 .slow [9], buffer := some [8] };
      x.shifter = .level 0 .slow [9] ∧ x.query = none ∧ x.buffer = some [8]) ∧
      (let x := { refreshing with shifter := .level 0 .fast [], query := some (query .waiting) };
        x.query = some (query .waiting) ∧ (query .waiting).phase = .waiting) ∧
      (let x := { refreshing with shifter := .query 0 .slow, query := some (query .sending) };
        x.shifter = .query 0 .slow ∧ x.query = some (query .sending) ∧ x.buffer = none) ∧
      ((received false (List.replicate 3 0)).chars.length < 4 ∧ 16 < (received false (List.replicate 17 0)).chars.length ∧
        4 ≤ (received false (List.replicate 4 0)).chars.length ∧ (received false (List.replicate 16 0)).chars.length ≤ 16 ∧
        refreshing.fifo.length < 2 ∧ 2 ≤ (List.replicate 2 (⟨[], false, false⟩ : FifoEntry)).length) ∧
      ((received true replyChars).inWindow = true ∧ (received true replyChars).chars.map RxChar.data = replyChars ∧
        1 ≤ [(7 : Byte)].length ∧ [(7 : Byte)].length ≤ 12 ∧
        ∀ c ∈ (received true replyChars).chars, c.parityError = false ∧ c.framingError = false) ∧
      ((query (.window 200000)).phase = .window 200000 ∧ refreshing.rx = none) ∧
      (refreshing.refreshing = true ∧ refreshing.refreshCount ≤ 1 ∧ refreshing.shifter = .idle) :=
  ⟨⟨rfl, rfl, rfl⟩, ⟨rfl, rfl⟩, ⟨rfl, rfl, rfl⟩, by decide +kernel, by decide +kernel, ⟨rfl, rfl⟩, by decide +kernel⟩

/-- Boundaries of a port that is OFF, that counts, and that latches: behind a busy shifter, an idle one, an idle one with a
query in its window, and an idle one with a query waiting. -/
theorem witness_FixturePortsSendAndReceive_boundary :
    FixturePort.reset.refreshing = false ∧ (let x := { refreshing with refreshCount := 2 }; x.refreshing = true ∧ 1 < x.refreshCount) ∧
      (let x := { refreshing with refreshCount := 1, shifter := .level 0 .slow [9] };
        x.refreshing = true ∧ x.refreshCount ≤ 1 ∧ x.shifter ≠ .idle) ∧
      (∀ q ∈ [none, some (query (.window 5))], let x := { refreshing with refreshCount := 1, query := q };
        x.refreshCount ≤ 1 ∧ x.shifter = .idle ∧ ∀ y, x.query = some y → y.phase ≠ .waiting) ∧
      (let x := { refreshing with query := some (query .waiting) };
        x.refreshCount ≤ 1 ∧ x.shifter = .idle ∧ x.query = some (query .waiting) ∧ (query .waiting).phase = .waiting) := by
  refine ⟨by decide, by decide, by decide, ?_, by decide +kernel⟩
  intro q hq
  simp only [List.mem_cons, List.not_mem_nil, or_false] at hq
  obtain rfl | rfl := hq
  · exact ⟨by decide, rfl, fun _ h => by cases h⟩
  · exact ⟨by decide, rfl, fun _ h => by cases h; decide⟩

/-- A reply whose checksum is wrong, characters of another fixture, and a reply still being received. -/
theorem witness_FixturePortsSendAndReceive_replies :
    (let f := received true (replyChars.set 5 0); f.inWindow = true ∧
      (f.chars.map RxChar.data).take 3 = replyStart (query .closing)) ∧
      (let f := received true [0x30, 1, 0, 1, 7]; (f.chars.map RxChar.data).take 3 ≠ replyStart (query .closing) ∧
        (query .closing).phase = .closing ∧ (query (.window 0)).phase ≠ .closing) ∧
      (let x := { refreshing with query := some (query (.window 200000)), rx := some (received true (replyChars.take 2)) };
        x.rx = some (received true (replyChars.take 2)) ∧
          ((received true (replyChars.take 2)).chars.map RxChar.data).take 3 = (replyStart (query .waiting)).take 2) ∧
      (let x := { refreshing with shifter := .query 0 .slow, query := some (query .sending), buffer := some [8] };
        x.shifter = .query 0 .slow ∧ x.buffer = some [8]) ∧
      (∀ buffer ∈ [none, some [8]], let x := { refreshing with shifter := .cutOff 0 .slow [0x10], buffer := buffer };
        x.shifter = .cutOff 0 .slow [0x10] ∧ x.query = none ∧ x.buffer = buffer) ∧
      (let x := { refreshing with shifter := .cutOff 0 .slow [0x10], query := some (query .waiting) };
        x.shifter = .cutOff 0 .slow [0x10] ∧ x.query = some (query .waiting)) ∧
      (let x := { refreshing with shifter := .level 0 .slow [9], query := some (query (.window 5)) };
        ∀ q, x.query = some q → q.phase ≠ .waiting) ∧
      ((0x10 :: [(9 : Byte)])[1]? = some 9 ∧ 10 < 11 ∧ 11200 + 1 * 4400 + 10 * (4400 / 11) ≤ 19999 ∧
        19999 < 11200 + 1 * 4400 + (10 + 1) * (4400 / 11)) ∧ refreshing.rx = none := by
  refine ⟨by decide +kernel, by decide +kernel, by decide +kernel, by decide +kernel, by decide +kernel, by decide +kernel,
    ?_, by decide +kernel, by decide +kernel⟩
  intro x q h
  obtain rfl := Option.some.inj h
  decide

theorem witness_ReportsLeaveInOrder :
    (let s := up.setMgmt { Mgmt.reset with queue := [.event .takeDone []] };
      s.intake.link = .up ∧ s.mgmt.queue = [.event .takeDone []]) ∧
      State.reset.mgmt.queue = [] ∧ (hasRoom State.reset = true ∧ 8191 < 8192 ∧ 8192 ≤ 8192) ∧
      (Mgmt.reset.mask.getLsbD EventKind.limiterClear.code = true ∧
        (0 : BitVec 13).getLsbD EventKind.limiterClear.code = false) ∧
      ((List.replicate 11 (Report.event .takeDone [])).length < 12 ∧
        12 ≤ (List.replicate 12 (Report.event .takeDone [])).length) :=
  ⟨⟨rfl, rfl⟩, rfl, by decide +kernel, by decide +kernel, by decide +kernel⟩

theorem witness_StatusCommandsReadAndClear :
    hasRoom State.reset = true ∧ 11 ≤ 11 ∧ 11 < 12 ∧ hasRoom openFrame = true ∧
      (openFrame.canvas.record = some openRecord ∧ openRecord.state = .isOpen) ∧ State.reset.canvas.record = none ∧ [0, 1, 2, 3, 4, 5, 6, 7, 8, 9, 10, 11][11]? = some 11 := by decide +kernel

/-- A unit of code 46 waits, with room and without. -/
def waitingUnit : Intake := { Intake.reset with lane := [⟨46, 0, [0, 0]⟩] }

theorem witness_EveryUnitIsAnsweredOnce :
    (up.setIntake waitingUnit).intake.lane = ⟨46, 0, [0, 0]⟩ :: [] ∧ hasRoom (up.setIntake waitingUnit) = true ∧
      45 < (46 : Byte).toNat ∧ (fullQueue.setIntake waitingUnit).intake.lane = ⟨46, 0, [0, 0]⟩ :: [] ∧
      hasRoom (fullQueue.setIntake waitingUnit) = false ∧
      ((Instr.setIdentity 9 7 goodLabel).wellFormed = true ∧
        managementBody 5 (.setIdentity 9 7 goodLabel) = some (Code.setIdentity, 9, u8 7 ++ goodLabel)) ∧
      ((Instr.go 9).wellFormed = true ∧ managementBody 5 (.go 9) = some (Code.go, 9, []) ∧ filledBody [] = [0, 0]) ∧
      ((Instr.queryStatus 5 9 255).wellFormed = true ∧
        managementBody 5 (.queryStatus 5 9 255) = some (Code.queryStatus, 9, [255])) := by decide +kernel

/-- Known codes with bodies of another length: a fixed one, the fill of an empty one, a table write, and Write Cue. -/
theorem witness_EveryUnitIsAnsweredOnce_lengths :
    let starts := fun (code : Byte) (body : List Byte) =>
      (up.setIntake { Intake.reset with lane := [⟨code, 0, body⟩] }).intake.lane = ⟨code, 0, body⟩ :: [] ∧
        hasRoom (up.setIntake { Intake.reset with lane := [⟨code, 0, body⟩] }) = true
    (starts 1 (List.replicate 18 0) ∧ (List.replicate 18 (0 : Byte)).length ≠ max 17 2) ∧
      (starts 45 [0] ∧ ([0] : List Byte).length ≠ max 0 2) ∧
      (starts 16 (u16 0 ++ u16 512 ++ List.replicate 1023 0) ∧
        (u16 0 ++ u16 512 ++ List.replicate 1023 0).length ≠ 4 + wordAt (u16 0 ++ u16 512 ++ List.replicate 1023 0) 2 * 2) ∧
      (starts 29 (u16 1 ++ u8 1 ++ List.replicate 13 0) ∧
        (u16 1 ++ u8 1 ++ List.replicate 13 0).length ≠ 13 + 4 * byteAt (u16 1 ++ u8 1 ++ List.replicate 13 0) 2) := by
  decide +kernel

/-- A state whose last port has a partner: the defaults of `ResetsRestoreDefaults` differ from State.reset there. -/
theorem witness_ResetsRestoreDefaults :
    (List.finRange 8).filter (fun p => ((State.reset.setPort 7 { Port.reset with partner := true }).port p).partner) = [7] ∧
      ∀ p, (State.reset.port p).partner = false := by decide +kernel

theorem witness_StepsKeepQueuesAndIntake : (∃ t, step State.reset = .next t) ∧ QueueSound State.reset ∧
    LanesSound State.reset ∧ IntakeSound State.reset := by
  refine ⟨⟨_, rfl⟩, ⟨by decide +kernel, by decide +kernel⟩, ⟨by decide, by decide, ?_⟩, by decide, by decide,
    by decide +kernel, by decide +kernel, fun _ => rfl, ?_, ?_⟩
  · intro p
    have h : (State.reset.fixturePort p).fifo = [] := by simp [State.reset, State.fixturePort, FixturePort.reset]
    simp [h]
  · intro _ _ _ h; exact absurd h (by simp [State.reset, Intake.reset])
  · intro h; exact absurd h (by decide)

theorem witness_StepsKeepBanksValidated :
    (∃ t, step (pendingTake.setPending [.linkUp]) = .next t) ∧ BanksSound (pendingTake.setPending [.linkUp]) := by
  refine ⟨⟨_, rfl⟩, test_reset_bank_passes, fun _ _ => test_reset_bank_passes, fun h => absurd rfl h⟩

theorem witness_StepsKeepTimingInRange :
    (∃ t, step (State.reset.setPending [.genlockPulse 5]) = .next t) ∧
      TimingSound (State.reset.setPending [.genlockPulse 5]) := by
  refine ⟨⟨_, rfl⟩, ?_⟩
  unfold TimingSound GridSound InRange
  decide +kernel

theorem witness_StepsKeepCanvasSound : (∃ t, step (openFrame.setPending [.hold 0 2]) = .next t) ∧
    CanvasSound (openFrame.setPending [.hold 0 2]) := by
  refine ⟨⟨_, rfl⟩, ?_, by decide, by decide, rfl, ?_, ?_⟩
  · intro r h
    cases h
    exact ⟨List.Pairwise.nil, fun _ => ⟨by decide, rfl, rfl⟩⟩
  · intro u h; cases h
  · intro job h; cases h

theorem witness_StepsKeepPortsSound : (∃ t, step (State.reset.setPending [.partnerPresent 7]) = .next t) ∧
    ChainSound (State.reset.setPending [.partnerPresent 7]) ∧ FixturesSound (State.reset.setPending [.partnerPresent 7]) := by
  refine ⟨⟨_, rfl⟩, ?_, ?_⟩
  · intro p
    have h : (State.reset.setPending [.partnerPresent 7]).port p = Port.reset := by
      simp [State.setPending, State.port, State.reset]
    rw [h]; unfold PortSound; decide
  · intro p
    have h : (State.reset.setPending [.partnerPresent 7]).fixturePort p = FixturePort.reset := by
      simp [State.setPending, State.fixturePort, State.reset]
    rw [h]
    simp [FixtureSound, FixturePort.reset]

theorem witness_StepsKeepLevelsSound : (∃ t, step (State.reset.setPending [.setChainBudget 0 0 1 1]) = .next t) ∧
    LimiterSound State.reset ∧ MergeSound State.reset ∧ DriveSound State.reset := by
  refine ⟨⟨_, rfl⟩, ?_, ⟨by decide, by decide, ?_⟩, ?_⟩
  · intro c
    have h : State.reset.chain c = ChainLimiter.reset := by simp [State.reset, State.chain, Limiter.reset]
    rw [h]; decide
  · intro k
    have h : State.reset.source k = Source.reset := by simp [State.reset, State.source, Merge.reset]
    rw [h]
    simp [Source.reset]
  · intro o
    have h : ∀ o, State.reset.drive.get o = PwmOutput.reset := by simp [State.reset]
    simp [h, PwmOutput.reset, PairSound, SettingsSound]

theorem witness_StepsKeepCueListSound :
    (∃ t, step ((playing twoCues).setPending [.go 0]) = .next t) ∧ CueSound ((playing twoCues).setPending [.go 0]) := by
  refine ⟨⟨_, rfl⟩, by decide, by decide +kernel, by decide +kernel, ?_, by decide, by decide, by decide, by decide⟩
  intro n h
  have h' : isLiveCue twoCues n = true := h
  simp [isLiveCue, twoCues, Cue.reset] at h'
  subst h'
  decide

/-! ## One step and its effect -/

/-- The state a command leads to. -/
def after (c : Instr) (s : State) : State :=
  match exec c s with
  | .next t => t
  | .fault _ => s
  | .refused _ => s

/-- R2: the earlier of two 0xC5 is skipped, and 0x3A completes the marker. -/
theorem test_marker : ((after (.huntByte 0x3A) (after (.huntByte 0xC5) (after (.huntByte 0xC5) up))).intake.framer,
    (after (.huntByte 0xC5) (after (.huntByte 0xC5) up)).intake.counters.skippedBytes) = (.header, 1) := by decide +kernel

/-- R7 and R183: the answer that locks the identity already carries the new unit address, 7. -/
theorem test_answer_carries_new_address :
    ((after .reportTransmitted (after (.setIdentity 9 7 goodLabel) up)).sent.map fun e =>
        match e with
        | .report bytes => bytes.take 11
        | .chain _ _ _ => []
        | .fixture _ _ _ => []) = [[0xC5, 0x3A, 0, 0, 7, 0, 21, 1, 9, 1, 0]] := by decide +kernel

/-- R175: an unknown command code is answered MALFORMED. -/
theorem test_unknown_code_is_malformed : (after (.managementUnitStart 5) (up.setIntake waitingUnit)).mgmt.queue =
    [.answer 0 46 .malformed []] := by decide +kernel

/-- R174: a unit that finds 32 reports stalls the engine and is counted, a second start finds it stalled already, and a report
that leaves 31 behind ends the stall. -/
theorem test_stall :
    let full := (fullQueue.setIntake { waitingUnit with link := .up })
    let stalled := after (.managementUnitStart 0) full
    [full, stalled, after (.managementUnitStart 0) stalled, after .reportTransmitted stalled].map
        (fun s => (s.mgmt.stalled, s.mgmt.counters.stalls)) = [(false, 0), (true, 1), (true, 1), (false, 1)] := by
  decide +kernel

/-- R56: a take for frame 2 that commits at boundary 2 takes effect in interval 3, and is late. -/
theorem test_late_take :
    (takeBoundary (pendingTake.setTiming { Timing.reset with frame := 2 })).banks.last = .committed 3 true := by
  decide +kernel

/-- R175: Clone, whose body is filled to two bytes, is MALFORMED with three. -/
theorem test_wrong_length_is_malformed :
    (after (.managementUnitStart 5) (up.setIntake { Intake.reset with lane := [⟨45, 3, [0, 0, 0]⟩] })).mgmt.queue =
      [.answer 3 45 .malformed []] := by decide +kernel

/-- Table 12-4: the three return messages by type byte. -/
theorem test_return_messages : [[0x81, 3], [0x82, 4], [0x83, 7], [0x84, 0], [0x81]].map readReturn =
    [some (.censusAnswer 3), some (.trainingComplete 4), some (.symbolErrors 7), none, none] := by decide +kernel

/-- R101: hops 0, 1, 3 count as a census of 2. -/
theorem test_census_stops_at_a_gap : censusResult [0, 1, 3] = 2 ∧ censusResult (List.range 40) = 32 := by decide +kernel

/-- R186: the lead-in stands at the break level for 9,600 ticks, idles for 1,600, and the start bit of 0x10 follows; R164: its
one data bit 4 is high in bit time 5. -/
theorem test_lead_in :
    [0, 9599, 9600, 11199, 11200, 13199, 13200, 13599, 13600].map (frameLevel .slow [0x10]) =
      [false, false, true, true, false, false, true, true, false] := by decide +kernel

/-- R168: a character that stands behind no start condition is received and belongs to no frame. -/
theorem test_character_without_start :
    let t := after (.fixtureCharacter 0 7 true ⟨true, false⟩) (onPort refreshing)
    ((t.fixturePort 0).rx, (t.fixturePort 0).counters.receivedCharacters) = (none, 1) := by decide +kernel

/-- R101: the census window of a token sent at tick 5000 runs to tick 105000. -/
theorem test_census_window :
    let t := after (.trainingComplete 0 ⟨5000, 2⟩) (portIn training)
    ((t.port 0).window, (after (.censusWindowEnd 0) t).now) = (some ⟨5000, []⟩, 105000) := by decide +kernel

/-- R119: a budget of 0 turns the limiter off at once. -/
theorem test_budget_zero :
    budgetRecord 0 0 { ChainLimiter.reset with budget := 500, gain := 2560, target := 2560 } =
      { ChainLimiter.reset with step := 1 } := by decide +kernel

end Sys2Proof.Tests
end

section
/-! SUPPORT. Which operations leave the Frame Timing Unit as it is: one lemma for each operation of a frame boundary, and of
the end of a reset, beyond the FTU's own work. -/

namespace Sys2Proof.Machine

/-! ### Shared operations -/

@[simp] theorem State.setPort_timing (s : State) (p : Fin 8) (x : Port) : (s.setPort p x).timing = s.timing := rfl

@[simp] theorem State.setFixturePort_timing (s : State) (p : Fin 2) (x : FixturePort) :
    (s.setFixturePort p x).timing = s.timing := rfl

@[simp] theorem State.setChain_timing (s : State) (c : Fin 8) (x : ChainLimiter) : (s.setChain c x).timing = s.timing := rfl

@[simp] theorem emit_timing (e : Emission) (s : State) : (emit e s).timing = s.timing := rfl

@[simp] theorem advanceTo_timing (tick : Nat) (s : State) : (advanceTo tick s).timing = s.timing := rfl

@[simp] theorem answer_timing (tag code : Byte) (r : Result) (body : List Byte) (s : State) :
    (answer tag code r body s).timing = s.timing := rfl

@[simp] theorem settleEngine_timing (s : State) : (settleEngine s).timing = s.timing := by
  obtain ⟨stalled, stalls, h, -, -⟩ := settleEngine_cases s
  rw [h, State.setMgmt_timing]

/-- A loop leaves the timing as every pass does. -/
theorem foldl_timing {α : Type} {f : State → α → State} (h : ∀ s a, (f s a).timing = s.timing) (l : List α) (s : State) :
    (l.foldl f s).timing = s.timing :=
  foldl_keeps (fun t => t.timing = s.timing) f (fun t a ht => (h t a).trans ht) l s rfl

theorem forEach_timing {n : Nat} {f : Fin n → State → State} (h : ∀ i s, (f i s).timing = s.timing) (s : State) :
    (forEach f s).timing = s.timing := foldl_timing (fun s i => h i s) _ s

/-! ### The chain ports -/

@[simp] theorem offerChainState_timing (p : Fin 8) (before : PortState) (cause : ChainCause) (s : State) :
    (offerChainState p before cause s).timing = s.timing := rfl

@[simp] theorem sendChain_timing (p : Fin 8) (m : ChainMessage) (s : State) : (sendChain p m s).timing = s.timing := by
  unfold sendChain; split <;> simp

@[simp] theorem sendPattern_timing (p : Fin 8) (s : State) : (sendPattern p s).timing = s.timing := by
  unfold sendPattern; split <;> simp

@[simp] theorem enterTraining_timing (p : Fin 8) (cause : ChainCause) (s : State) :
    (enterTraining p cause s).timing = s.timing := by simp [enterTraining, startOffer]

@[simp] theorem tryTraining_timing (p : Fin 8) (cause : ChainCause) (s : State) :
    (tryTraining p cause s).timing = s.timing := by unfold tryTraining; split <;> simp

@[simp] theorem enterDown_timing (p : Fin 8) (cause : ChainCause) (s : State) :
    (enterDown p cause s).timing = s.timing := by simp [enterDown]

@[simp] theorem sendCap_timing (p : Fin 8) (s : State) : (sendCap p s).timing = s.timing := by
  unfold sendCap; split <;> simp

@[simp] theorem failTraining_timing (p : Fin 8) (s : State) : (failTraining p s).timing = s.timing := by
  simp [failTraining]

@[simp] theorem failRecovery_timing (p : Fin 8) (s : State) : (failRecovery p s).timing = s.timing := by
  simp [failRecovery]

@[simp] theorem stepOffer_timing (p : Fin 8) (s : State) : (stepOffer p s).timing = s.timing := by simp [stepOffer]

@[simp] theorem endHoldoff_timing (p : Fin 8) (s : State) : (endHoldoff p s).timing = s.timing := by simp [endHoldoff]

@[simp] theorem trainingBoundary_timing (p : Fin 8) (s : State) : (trainingBoundary p s).timing = s.timing := by
  simp only [trainingBoundary]
  repeat' split
  all_goals simp

@[simp] theorem sendToken_timing (p : Fin 8) (s : State) : (sendToken p s).timing = s.timing := by simp [sendToken]

@[simp] theorem censusBoundary_timing (p : Fin 8) (s : State) : (censusBoundary p s).timing = s.timing := by
  simp only [censusBoundary]
  repeat' split
  all_goals simp

@[simp] theorem finishDisable_timing (p : Fin 8) (s : State) : (finishDisable p s).timing = s.timing := by
  unfold finishDisable; split <;> simp [enterDisabled]

@[simp] theorem portBoundary_timing (p : Fin 8) (s : State) : (portBoundary p s).timing = s.timing := by
  unfold portBoundary
  repeat' split
  all_goals simp

@[simp] theorem portsBoundary_timing (s : State) : (portsBoundary s).timing = s.timing := forEach_timing portBoundary_timing s

@[simp] theorem markPort_timing (normal : Bool) (p : Fin 8) (s : State) : (markPort normal p s).timing = s.timing := by
  simp only [markPort]; split <;> simp [foldl_timing]

@[simp] theorem sendMarkers_timing (s : State) : (sendMarkers s).timing = s.timing := by
  unfold sendMarkers; exact forEach_timing (fun p t => markPort_timing _ p t) s

@[simp] theorem latchPorts_timing (s : State) : (latchPorts s).timing = s.timing := rfl

@[simp] theorem trainPresent_timing (s : State) : (trainPresent s).timing = s.timing :=
  forEach_timing (fun p => tryTraining_timing p _) s

/-! ### The power limiter, the canvas and the merge -/

@[simp] theorem discardAccumulation_timing (s : State) : (discardAccumulation s).timing = s.timing := rfl

@[simp] theorem offerLimiter_timing (c : Fin 8) (before : Nat) (boundary : Option FrameNo) (s : State) :
    (offerLimiter c before boundary s).timing = s.timing := by
  unfold offerLimiter
  repeat' split
  all_goals simp

@[simp] theorem updateChain_timing (c : Fin 8) (s : State) : (updateChain c s).timing = s.timing := by
  unfold updateChain
  repeat' split
  all_goals simp

@[simp] theorem limiterBoundary_timing (s : State) : (limiterBoundary s).timing = s.timing := by
  simp only [limiterBoundary]; split <;> simp [forEach_timing]

@[simp] theorem remarkBuffer_timing (mark : UnitMark) (s : State) : (remarkBuffer mark s).timing = s.timing := rfl

theorem stopMapping_timing {count : State → State} (h : ∀ s, (count s).timing = s.timing) (s : State) :
    (stopMapping count s).timing = s.timing := by
  unfold stopMapping
  repeat' split
  all_goals simp [h]

@[simp] theorem stopMapping_countLate_timing (s : State) : (stopMapping countLate s).timing = s.timing :=
  stopMapping_timing (count := countLate) (fun _ => rfl) s

@[simp] theorem giveUpFrame_timing (s : State) : (giveUpFrame s).timing = s.timing :=
  stopMapping_timing (count := countUnassigned) (fun _ => rfl) s

@[simp] theorem abandonFrame_timing (s : State) : (abandonFrame s).timing = s.timing := by
  unfold abandonFrame
  repeat' split
  all_goals simp

@[simp] theorem changeWall_timing (cause : HoldCause) (after : Canvas) (s : State) :
    (changeWall cause after s).timing = s.timing := by
  unfold changeWall
  repeat' split
  all_goals simp

@[simp] theorem lightHoldBoundary_timing (s : State) : (lightHoldBoundary s).timing = s.timing := by
  unfold lightHoldBoundary
  repeat' split
  all_goals simp

@[simp] theorem autoHoldBoundary_timing (s : State) : (autoHoldBoundary s).timing = s.timing := by
  simp only [autoHoldBoundary]
  repeat' split
  all_goals simp [setAutoHold]

@[simp] theorem presentFrame_timing (s : State) : (presentFrame s).timing = s.timing := by
  unfold presentFrame
  repeat' split
  all_goals simp

@[simp] theorem fixWallGains_timing (s : State) : (fixWallGains s).timing = s.timing := by simp [fixWallGains]
@[simp] theorem evaluateLight_timing (s : State) : (evaluateLight s).timing = s.timing := by simp [evaluateLight]
@[simp] theorem silenceTests_timing (s : State) : (silenceTests s).timing = s.timing := rfl
@[simp] theorem applyPriorities_timing (s : State) : (applyPriorities s).timing = s.timing := rfl
@[simp] theorem mergeLook_timing (s : State) : (mergeLook s).timing = s.timing := by simp [mergeLook]

/-! ### Takes, cues and contacts -/

@[simp] theorem requestTake_timing (f : FrameNo) (origin : TakeOrigin) (s : State) :
    (requestTake f origin s).timing = s.timing := by
  unfold requestTake
  repeat' split
  all_goals simp [rejectRequest, failTake, acceptTake]

@[simp] theorem takeBoundary_timing (s : State) : (takeBoundary s).timing = s.timing := by
  unfold takeBoundary
  repeat' split
  all_goals simp [commitTake]

@[simp] theorem acceptGo_timing (r : CueRecord) (origin : GoOrigin) (s : State) : (acceptGo r origin s).timing = s.timing := by
  unfold acceptGo; split <;> simp

@[simp] theorem contactGo_timing (input : Fin 4) (s : State) : (contactGo input s).timing = s.timing := by
  unfold contactGo; split <;> simp

@[simp] theorem startFade_timing (s : State) : (startFade s).timing = s.timing := by
  unfold startFade; split <;> simp

@[simp] theorem stepFade_timing (s : State) : (stepFade s).timing = s.timing := rfl

@[simp] theorem testCompletion_timing (s : State) : (testCompletion s).timing = s.timing := by
  unfold testCompletion; split <;> simp [completeFade]

@[simp] theorem fireFollow_timing (s : State) : (fireFollow s).timing = s.timing := by
  simp only [fireFollow]; split <;> simp

@[simp] theorem testFollow_timing (s : State) : (testFollow s).timing = s.timing := by
  unfold testFollow; split <;> simp

@[simp] theorem cueBoundary_timing (s : State) : (cueBoundary s).timing = s.timing := by
  unfold cueBoundary
  repeat' split
  all_goals simp

@[simp] theorem contactTake_timing (gp : Tab 4 Bool) (i : Fin 4) (s : State) : (contactTake gp i s).timing = s.timing := by
  unfold contactTake; split <;> simp

@[simp] theorem contactTakes_timing (gp : Tab 4 Bool) (s : State) : (contactTakes gp s).timing = s.timing :=
  forEach_timing (contactTake_timing gp) s

@[simp] theorem contactGoStep_timing (gp : Tab 4 Bool) (i : Fin 4) (s : State) :
    (contactGoStep gp i s).timing = s.timing := by
  unfold contactGoStep; split <;> simp

@[simp] theorem contactGos_timing (gp : Tab 4 Bool) (s : State) : (contactGos gp s).timing = s.timing :=
  forEach_timing (contactGoStep_timing gp) s

@[simp] theorem contactHold_timing (gp : Tab 4 Bool) (s : State) : (contactHold gp s).timing = s.timing := by
  simp only [contactHold]; split <;> simp

@[simp] theorem keepSamples_timing (gp : Tab 4 Bool) (s : State) :
    (keepSamples gp s).timing = { s.timing with samples := gp } := rfl

/-! ### The outputs -/

@[simp] theorem applySettings_timing (s : State) : (applySettings s).timing = s.timing := rfl

@[simp] theorem takeUp_timing (s : State) : (takeUp s).timing = s.timing := by unfold takeUp; split <;> simp

@[simp] theorem refreshBoundary_timing (p : Fin 2) (s : State) : (refreshBoundary p s).timing = s.timing := by
  unfold refreshBoundary
  repeat' split
  all_goals simp [refreshLatch, shiftNext]

@[simp] theorem drainFifo_timing (p : Fin 2) (s : State) : (drainFifo p s).timing = s.timing := by
  refine foldl_timing (fun t e => ?_) _ _
  rfl

/-! ### The boundary's parts -/

theorem takeIf_timing {f : State → State} (h : ∀ s, (f s).timing = s.timing) (b : Bool) (s : State) :
    (takeIf b f s).timing = s.timing := by unfold takeIf; split <;> simp [h]

@[simp] theorem boundaryOpening_timing (s : State) : (boundaryOpening s).timing = (timingBoundary s).timing := by
  simp [boundaryOpening]

@[simp] theorem boundaryLook_timing (gp : Tab 4 Bool) (o : CommitOrder) (s : State) :
    (boundaryLook gp o s).timing = s.timing := by
  simp [boundaryLook, takesAtBoundary, takeIf_timing cueBoundary_timing, takeIf_timing (contactTakes_timing gp),
    takeIf_timing (contactGos_timing gp)]

@[simp] theorem boundaryWall_timing (s : State) : (boundaryWall s).timing = s.timing := by simp [boundaryWall]

@[simp] theorem boundaryLight_timing (s : State) : (boundaryLight s).timing = s.timing := by
  simp [boundaryLight, forEach_timing drainFifo_timing, forEach_timing refreshBoundary_timing]

@[simp] theorem boundaryContacts_timing (gp : Tab 4 Bool) (o : CommitOrder) (s : State) :
    (boundaryContacts gp o s).timing = { s.timing with samples := gp } := by
  simp [boundaryContacts, takeIf_timing (contactGos_timing gp)]

/-- A boundary leaves the timing that the FTU's own work gives, with the samples of the contact inputs kept (R19, R35). -/
theorem frameBoundary_timing (gp : Tab 4 Bool) (o : CommitOrder) (s : State) :
    (frameBoundary gp o s).timing = { (timingBoundary s).timing with samples := gp } := by simp [frameBoundary]

end Sys2Proof.Machine
end

section
/-! SUPPORT. The FTU's own work at a boundary: what it makes of the timing, and what of the timing it keeps. -/

namespace Sys2Proof.Machine

/-- A change of the lock machine gives the state its new timing; the event is the Report Queue's alone (R37). -/
@[simp] theorem changeTiming_timing (after : Timing) (s : State) : (changeTiming after s).timing = after := by
  simp only [changeTiming, offerReference]; split <;> simp

/-- Numbering the boundary changes the frame counter and the unit's counters alone (R19, R32). -/
theorem numberBoundary_timing (s : State) :
    ∃ n counters, (numberBoundary s).timing = { s.timing with frame := n, counters := counters } := by
  simp only [numberBoundary]
  split
  · exact ⟨_, _, rfl⟩
  · split <;> exact ⟨_, _, rfl⟩

/-- The lock machine at a boundary waits, or acts on a mark taken under MARKS (R29 to R31). -/
theorem referenceBoundary_timing (taken : Option TimeMark) (s : State) :
    (referenceBoundary taken s).timing = waitTiming s.timing ∨
      ∃ m, taken = some m ∧ s.timing.reference = .marks ∧
        (referenceBoundary taken s).timing = markTiming s.timing.nextBoundary m s.timing := by
  cases taken with
  | none => exact .inl (changeTiming_timing _ s)
  | some m =>
    by_cases h : s.timing.reference = .marks
    · exact .inr ⟨m, rfl, h, by simp [referenceBoundary, h]⟩
    · exact .inl (by simp [referenceBoundary, h])

/-- The FTU's work ends with the interval fixed from the period in force as the boundary found it (R19). -/
theorem timingBoundary_timing (s : State) :
    (timingBoundary s).timing = fixedTiming s.timing.period
      (referenceBoundary (takenMark s) (numberBoundary (advanceTo s.timing.nextBoundary s))).timing := by
  simp [timingBoundary]

/-! ### The lock machine keeps K -/

@[simp] theorem waitTiming_k (t : Timing) : (waitTiming t).k = t.k := by
  unfold waitTiming
  repeat' split
  all_goals rfl

@[simp] theorem acquireMark_k (tb : Nat) (m : TimeMark) (t : Timing) : (acquireMark tb m t).k = t.k := by
  unfold acquireMark
  repeat' split
  all_goals rfl

@[simp] theorem trackMark_k (tb : Nat) (m : TimeMark) (t : Timing) : (trackMark tb m t).k = t.k := by
  unfold trackMark; split <;> rfl

@[simp] theorem markTiming_k (tb : Nat) (m : TimeMark) (t : Timing) : (markTiming tb m t).k = t.k := by
  unfold markTiming
  split
  · rfl
  · rfl
  · exact acquireMark_k tb m t
  · exact trackMark_k tb m t

@[simp] theorem fixedTiming_k (period : Nat) (t : Timing) : (fixedTiming period t).k = t.k := rfl
@[simp] theorem fixedTiming_grid_k (period : Nat) (t : Timing) : (fixedTiming period t).grid.k = t.k := rfl

@[simp] theorem referenceBoundary_k (taken : Option TimeMark) (s : State) :
    (referenceBoundary taken s).timing.k = s.timing.k := by
  rcases referenceBoundary_timing taken s with h | ⟨m, -, -, h⟩ <;> simp [h]

@[simp] theorem numberBoundary_k (s : State) : (numberBoundary s).timing.k = s.timing.k := by
  obtain ⟨n, counters, h⟩ := numberBoundary_timing s
  rw [h]

/-- Every boundary keeps K, and makes its grid from it (R33, R34). -/
theorem timingBoundary_k (s : State) :
    (timingBoundary s).timing.k = s.timing.k ∧ (timingBoundary s).timing.grid.k = s.timing.k := by
  simp [timingBoundary_timing]

/-! ### A boundary in FREE -/

/-- Without a reference, FREE lasts (Table 2-2). -/
theorem waitTiming_of_free {t : Timing} (h : t.lock = .free) : waitTiming t = t := by
  simp [waitTiming, marksAcquisitionOver, marksReferenceOver, holdoverIsOver, h]

/-- In FREE there is no phase step: the interval lasts the period (R19). -/
theorem fixedTiming_of_free {t : Timing} (h : t.lock = .free) (period : Nat) :
    (fixedTiming period t).length = period ∧ (fixedTiming period t).nextBoundary = t.nextBoundary + period := by
  simp [fixedTiming, boundaryStep, h]

/-- Under a reference other than MARKS a boundary finds FREE and leaves it as numbered. -/
theorem referenceBoundary_of_free {taken : Option TimeMark} {s : State} (hr : s.timing.reference ≠ .marks)
    (hl : s.timing.lock = .free) : (referenceBoundary taken s).timing = s.timing := by
  rcases referenceBoundary_timing taken s with h | ⟨m, -, hm, -⟩
  · rw [h, waitTiming_of_free hl]
  · exact absurd hm hr

/-- The interval that a boundary begins in FREE, under a reference other than MARKS, lasts the period in force (R19, R22). -/
theorem timingBoundary_of_free {s : State} (hr : s.timing.reference ≠ .marks) (hl : s.timing.lock = .free) :
    (timingBoundary s).timing.length = s.timing.period ∧
      (timingBoundary s).timing.nextBoundary = s.timing.nextBoundary + s.timing.period := by
  obtain ⟨n, counters, h⟩ := numberBoundary_timing (advanceTo s.timing.nextBoundary s)
  rw [advanceTo_timing] at h
  have hk : (referenceBoundary (takenMark s) (numberBoundary (advanceTo s.timing.nextBoundary s))).timing =
      { s.timing with frame := n, counters := counters } := by
    rw [referenceBoundary_of_free (by rwa [h]) (by rwa [h]), h]
  rw [timingBoundary_timing, hk]
  exact fixedTiming_of_free hl _

end Sys2Proof.Machine
end

section
/-! PROOFS. Set Internal Rate and Set PWM Grid, and when each takes effect (R22, R34). -/

namespace Sys2Proof.Machine

/-! ### The commands carried out here -/

theorem exec_setReference (tag : Byte) (code : Nat) (s : State) :
    exec (.setReference tag code) s = engineRuns (doSetReference tag code) s := rfl

theorem exec_frameBoundary (gp : Tab 4 Bool) (o : CommitOrder) (s : State) :
    exec (.frameBoundary gp o) s = .next (frameBoundary gp o s) := rfl

theorem exec_powerOnReset (gp : Tab 4 Bool) (s : State) : exec (.powerOnReset gp) s = .next (powerOnReset gp s) := rfl

theorem exec_lineReset (gp : Tab 4 Bool) (s : State) : exec (.lineReset gp) s = .next (lineReset gp s) := rfl

/-! ### The commands, once the engine has room -/

/-- Set Reference INTERNAL restarts the lock machine on the stored rate (R21). -/
theorem exec_setReference_internal_timing {s t : State} {tag : Byte} (hroom : hasRoom s = true)
    (h : exec (.setReference tag 0) s = .next t) : t.timing = restartReference .internal s.timing := by
  rw [exec_setReference, engineRuns_room _ _ hroom, Host.Outcome.next.injEq] at h
  simp [← h, doSetReference, referenceOfCode]

theorem restartReference_internal (t : Timing) :
    (restartReference .internal t).reference = .internal ∧ (restartReference .internal t).period = t.internalRate :=
  ⟨rfl, rfl⟩

/-- The clamp of K, by cases. -/
theorem clampNat_one_sixteen (k : Nat) : clampNat 1 16 k = if k = 0 then 1 else if 16 < k then 16 else k := by
  unfold clampNat; split_ifs <;> omega

/-! ### Boundaries and resets -/

theorem timing_of_exec_frameBoundary {s t : State} {gp : Tab 4 Bool} {order : CommitOrder}
    (h : exec (.frameBoundary gp order) s = .next t) : t.timing = { (timingBoundary s).timing with samples := gp } := by
  rw [exec_frameBoundary, Host.Outcome.next.injEq] at h
  rw [← h, frameBoundary_timing]

theorem defaults_timing (gp : Tab 4 Bool) (s : State) : (defaults gp s).timing = { Timing.reset with samples := gp } := rfl

theorem powerOnReset_timing (gp : Tab 4 Bool) (s : State) :
    (powerOnReset gp s).timing = { Timing.reset with samples := gp } := by
  rw [powerOnReset, trainPresent_timing, defaults_timing]

theorem lineReset_timing (gp : Tab 4 Bool) (s : State) :
    (lineReset gp s).timing = { Timing.reset with samples := gp } := by
  rw [lineReset, trainPresent_timing, State.setIntake_timing, defaults_timing]

/-- Either reset leaves the timing at its defaults, with the seeding sample (R35, R39). -/
theorem timing_of_exec_reset {s t : State} {gp : Tab 4 Bool}
    (h : exec (.powerOnReset gp) s = .next t ∨ exec (.lineReset gp) s = .next t) :
    t.timing = { Timing.reset with samples := gp } := by
  rcases h with h | h
  · rw [exec_powerOnReset, Host.Outcome.next.injEq] at h
    rw [← h, powerOnReset_timing]
  · rw [exec_lineReset, Host.Outcome.next.injEq] at h
    rw [← h, lineReset_timing]

/-- Settles O12: the command by its one equation, the boundary by the frame of everything but the FTU. -/
theorem internalRateIsClampedAndKept : Obligations.InternalRateIsClampedAndKept := by
  refine ⟨fun s tag ticks hroom => ?_, fun s t gp order hr hl h => ?_, fun s t tag hroom h => ?_⟩
  · exact answers_of_answer (f := doSetInternalRate tag ticks) hroom rfl
  · rw [timing_of_exec_frameBoundary h]
    exact timingBoundary_of_free (by simp [hr]) hl
  · rw [exec_setReference_internal_timing hroom h]
    exact restartReference_internal s.timing

/-- Settles O13: no work of a boundary but the FTU's touches the timing, and the lock machine keeps K. -/
theorem pwmGridTakesItsPeriods : Obligations.PwmGridTakesItsPeriods := by
  refine ⟨fun s tag k hroom => ?_, fun s t gp order h => ?_, fun s t gp h => ?_⟩
  · simp only [← clampNat_one_sixteen]
    exact answers_of_answer (f := doSetPwmGrid tag k) hroom rfl
  · rw [timing_of_exec_frameBoundary h]
    exact timingBoundary_k s
  · rw [timing_of_exec_reset h]
    rfl

end Sys2Proof.Machine
end

section
/-! PROOFS. Validation of the curves: the first fall of a curve is its failure, and Table 3-7 orders the checks (R52). -/

namespace Sys2Proof.Machine

/-! ### A check that makes one test at each index -/

theorem failUnless_eq_none_iff {ok : Bool} {check : Check} {index : Nat} :
    failUnless ok check index = none ↔ ok = true := by
  cases ok <;> simp [failUnless]

/-- A check passes just where its test holds at every index. -/
theorem findSome?_failUnless_eq_none_iff {n : Nat} {ok : Fin n → Bool} {check : Check} :
    ((List.finRange n).findSome? fun i => failUnless (ok i) check i.val) = none ↔ ∀ i, ok i = true := by
  simp [failUnless_eq_none_iff]

/-- A check names the first index at which its test does not hold. -/
theorem findSome?_failUnless_of_first {n : Nat} {ok : Fin n → Bool} {check : Check} {i : Fin n} (hi : ok i = false)
    (hbefore : ∀ j, j < i → ok j = true) :
    ((List.finRange n).findSome? fun i => failUnless (ok i) check i.val) = some ⟨check, i.val⟩ := by
  rw [← Fin.findSome?_eq_findSome?_finRange, Fin.findSome?_eq_some_iff]
  exact ⟨i, by simp [failUnless, hi], fun j hj => failUnless_eq_none_iff.2 (hbefore j hj)⟩

/-! ### The curves -/

/-- Entry i of a curve lies below the entry before it. -/
def CurveFalls (t : Tab 1024 Level) (i : Fin 1024) : Prop :=
  ∃ j : Fin 1024, j.val + 1 = i.val ∧ (t.get i).toNat < (t.get j).toNat

/-- The test of an entry fails just where the curve falls; entry 0 has none before it. -/
theorem curveOk_iff_not_falls {t : Tab 1024 Level} {i : Fin 1024} : curveOk t i = true ↔ ¬CurveFalls t i := by
  simp only [curveOk, Bool.or_eq_true, decide_eq_true_eq, CurveFalls, not_exists, not_and, Nat.not_lt]
  constructor
  · rintro (h0 | hle) j hj
    · omega
    · have hprev : j = ⟨i.val - 1, by omega⟩ := Fin.ext (by simp only; omega)
      exact hprev ▸ hle
  · intro h
    by_cases h0 : i.val = 0
    · exact .inl h0
    · exact .inr (h _ (by simp only; omega))

theorem checkCurve_eq_none_iff {check : Check} {t : Tab 1024 Level} :
    checkCurve check t = none ↔ ∀ i, ¬CurveFalls t i :=
  findSome?_failUnless_eq_none_iff.trans (forall_congr' fun _ => curveOk_iff_not_falls)

theorem checkCurve_of_first_fall {check : Check} {t : Tab 1024 Level} {i : Fin 1024} (hi : CurveFalls t i)
    (hbefore : ∀ j, j < i → ¬CurveFalls t j) : checkCurve check t = some ⟨check, i.val⟩ := by
  have hbad : curveOk t i = false := Bool.eq_false_iff.2 fun hok => curveOk_iff_not_falls.1 hok hi
  exact findSome?_failUnless_of_first hbad fun j hj => curveOk_iff_not_falls.2 (hbefore j hj)

/-! ### The order of the checks -/

/-- Once checks 1 to 5 of Table 3-7 have passed, the wall curve, the light curve and the patch decide, in that order. -/
theorem validate_of_layout_passes {b : Bank} (hcanvas : (checkCanvas b).isNone) (hlengths : (checkLengths b).isNone)
    (hslots : (checkSlots b).isNone) (htiles : (checkTiles b).isNone) (hrings : (checkRings b).isNone) :
    validate b =
      (checkCurve .wallCurve b.wallCurve).or ((checkCurve .lightCurve b.lightCurve).or (checkPatch b)) := by
  simp only [Option.isNone_iff_eq_none] at hcanvas hlengths hslots htiles hrings
  simp only [validate, hcanvas, hlengths, hslots, htiles, hrings, Option.none_or]

/-- Settles O27: each curve's check is decided by its first fall, and a check that passes leaves the answer to the next. -/
theorem curvesMustNotFall : Obligations.CurvesMustNotFall := by
  intro b
  refine ⟨fun check t => ⟨checkCurve_eq_none_iff.2, fun i ⟨hi, hbefore⟩ => checkCurve_of_first_fall hi hbefore⟩,
    fun hcanvas hlengths hslots htiles hrings => ?_⟩
  rw [validate_of_layout_passes hcanvas hlengths hslots htiles hrings]
  refine ⟨fun i ⟨hi, hbefore⟩ => ?_, fun i hwall ⟨hi, hbefore⟩ => ?_, fun hwall hlight => ?_⟩
  · rw [checkCurve_of_first_fall hi hbefore, Option.some_or]
  · rw [checkCurve_eq_none_iff.2 hwall, checkCurve_of_first_fall hi hbefore, Option.none_or, Option.some_or]
  · rw [checkCurve_eq_none_iff.2 hwall, checkCurve_eq_none_iff.2 hlight, Option.none_or, Option.none_or]

end Sys2Proof.Machine
end

section
/-! SUPPORT. What a patch that passes validation says of the wall masters, and which operations of a boundary keep the chain
masters in the wall gain set once it is fixed (R53, R63, R64). -/

namespace Sys2Proof.Machine

/-! ### The channel that names a chain -/

/-- The channel holds a wall-master target whose mask has the bit of the chain (R64). -/
def NamesChain (b : Bank) (c : Fin 8) (ch : Fin 512) : Prop :=
  (b.patch.get ch).kind = 4 ∧ (b.patch.get ch).mask.getLsbD c.val = true

theorem wallMasterChannel_eq_none_iff {b : Bank} {c : Fin 8} :
    wallMasterChannel b c = none ↔ ∀ ch, ¬NamesChain b c ch := by
  simp [wallMasterChannel, NamesChain]

theorem namesChain_of_wallMasterChannel {b : Bank} {c : Fin 8} {ch : Fin 512} (h : wallMasterChannel b c = some ch) :
    NamesChain b c ch := by
  simpa [NamesChain] using List.find?_some h

/-- Two wall-master targets that name one chain conflict (R53). -/
theorem conflicts_of_namesChain {b : Bank} {c : Fin 8} {i j : Fin 512} (hi : NamesChain b c i) (hj : NamesChain b c j) :
    conflicts (b.patch.get i) (b.patch.get j) = true := by
  obtain ⟨hik, him⟩ := hi
  obtain ⟨hjk, hjm⟩ := hj
  have hshared : (b.patch.get i).mask &&& (b.patch.get j).mask ≠ 0 := fun h0 => by
    have hbit : ((b.patch.get i).mask &&& (b.patch.get j).mask).getLsbD c.val = false := by
      rw [h0]; exact BitVec.getLsbD_zero
    rw [BitVec.getLsbD_and, him, hjm] at hbit
    exact absurd hbit (by decide)
  rw [conflicts, hik, hjk]
  exact decide_eq_true hshared

theorem checkPatch_of_validate {b : Bank} (h : validate b = none) : checkPatch b = none := by
  simp only [validate, Option.or_eq_none_iff] at h
  obtain ⟨-, -, -, -, -, -, -, hpatch⟩ := h
  exact hpatch

theorem conflictFree_of_checkPatch {b : Bank} (h : checkPatch b = none) (i : Fin 512) : conflictFree b i = true := by
  have hch : checkChannel b i = none := List.findSome?_eq_none_iff.1 h i (List.mem_finRange i)
  simp only [checkChannel, Option.or_eq_none_iff, failUnless_eq_none_iff] at hch
  obtain ⟨-, -, -, -, hfree⟩ := hch
  exact hfree

/-- A patched channel of a sound patch conflicts with no lower channel (R53). -/
theorem not_conflicts_of_conflictFree {b : Bank} {i j : Fin 512} (h : conflictFree b i = true)
    (hpatched : (b.patch.get i).kind ≠ 0) (hji : j < i) : conflicts (b.patch.get i) (b.patch.get j) = false := by
  simp only [conflictFree, hpatched, decide_false, Bool.false_or, List.all_eq_true, List.mem_finRange, forall_const] at h
  simpa [hji] using h j

theorem le_of_namesChain {b : Bank} {c : Fin 8} {i j : Fin 512} (hv : validate b = none) (hi : NamesChain b c i)
    (hj : NamesChain b c j) : i ≤ j := by
  refine not_lt.1 fun hlt => ?_
  have hpatched : (b.patch.get i).kind ≠ 0 := by
    obtain ⟨hkind, -⟩ := hi
    rw [hkind]; decide
  have hfree := conflictFree_of_checkPatch (checkPatch_of_validate hv) i
  simpa [conflicts_of_namesChain hi hj] using not_conflicts_of_conflictFree hfree hpatched hlt

/-- In a bank that passes validation at most one mask names a chain (R53, R64). -/
theorem namesChain_unique {b : Bank} {c : Fin 8} {i j : Fin 512} (hv : validate b = none) (hi : NamesChain b c i)
    (hj : NamesChain b c j) : i = j := le_antisymm (le_of_namesChain hv hi hj) (le_of_namesChain hv hj hi)

/-- The wall-master channel of a validated bank is the channel that names the chain (R64). -/
theorem wallMasterChannel_of_namesChain {b : Bank} {c : Fin 8} {ch : Fin 512} (hv : validate b = none)
    (h : NamesChain b c ch) : wallMasterChannel b c = some ch := by
  cases hw : wallMasterChannel b c with
  | none => exact absurd h (wallMasterChannel_eq_none_iff.1 hw ch)
  | some i => rw [namesChain_unique hv (namesChain_of_wallMasterChannel hw) h]

theorem chainMaster_of_channel {s : State} {c : Fin 8} {ch : Fin 512} (h : wallMasterChannel s.activeBank c = some ch) :
    chainMaster s c = ((s.merge.look.get ch).level.toNat + 8) / 16 := by
  rw [chainMaster, h]; rfl

theorem chainMaster_of_no_channel {s : State} {c : Fin 8} (h : wallMasterChannel s.activeBank c = none) :
    chainMaster s c = 4096 := by
  rw [chainMaster, h]; rfl

/-! ### The chain masters stand in the wall gain set -/

/-- The wall gain set holds the chain master of every chain, as the look and the active bank give it (R63, R64). -/
def MastersFixed (s : State) : Prop := ∀ c, (s.level.gains.get c).master = chainMaster s c

theorem activeBank_of_banks {s t : State} (h : t.banks = s.banks) : t.activeBank = s.activeBank := by
  rw [State.activeBank, State.activeBank, h]

/-- The chain masters depend on the active bank and the look alone (R64). -/
theorem chainMaster_congr {s t : State} (hbank : t.activeBank = s.activeBank) (hlook : t.merge.look = s.merge.look)
    (c : Fin 8) : chainMaster t c = chainMaster s c := by
  rw [chainMaster, chainMaster, hbank]
  cases wallMasterChannel s.activeBank c with
  | none => rfl
  | some ch => simp only [masterGain, lookLevel, hlook]

theorem mastersFixed_congr {s t : State} (hbank : t.activeBank = s.activeBank) (hlook : t.merge.look = s.merge.look)
    (hgains : t.level.gains = s.level.gains) : MastersFixed t ↔ MastersFixed s := by
  simp only [MastersFixed, chainMaster_congr hbank hlook, hgains]

theorem mastersFixed_fixWallGains (s : State) : MastersFixed (fixWallGains s) := fun c => by
  have hmaster : chainMaster (fixWallGains s) c = chainMaster s c :=
    chainMaster_congr (activeBank_of_banks (by simp [fixWallGains])) (by simp [fixWallGains]) c
  rw [hmaster]
  simp [fixWallGains]

section
variable (s : State)

@[simp] theorem mastersFixed_setIntake (x : Intake) : MastersFixed (s.setIntake x) ↔ MastersFixed s :=
  mastersFixed_congr rfl rfl rfl
@[simp] theorem mastersFixed_setTiming (x : Timing) : MastersFixed (s.setTiming x) ↔ MastersFixed s :=
  mastersFixed_congr rfl rfl rfl
@[simp] theorem mastersFixed_setCanvas (x : Canvas) : MastersFixed (s.setCanvas x) ↔ MastersFixed s :=
  mastersFixed_congr rfl rfl rfl
@[simp] theorem mastersFixed_setPorts (x : Tab 8 Port) : MastersFixed (s.setPorts x) ↔ MastersFixed s :=
  mastersFixed_congr rfl rfl rfl
@[simp] theorem mastersFixed_setLimiter (x : Limiter) : MastersFixed (s.setLimiter x) ↔ MastersFixed s :=
  mastersFixed_congr rfl rfl rfl
@[simp] theorem mastersFixed_setCue (x : Cue) : MastersFixed (s.setCue x) ↔ MastersFixed s :=
  mastersFixed_congr rfl rfl rfl
@[simp] theorem mastersFixed_setDrive (x : Tab 16 PwmOutput) : MastersFixed (s.setDrive x) ↔ MastersFixed s :=
  mastersFixed_congr rfl rfl rfl
@[simp] theorem mastersFixed_setMgmt (x : Mgmt) : MastersFixed (s.setMgmt x) ↔ MastersFixed s :=
  mastersFixed_congr rfl rfl rfl
@[simp] theorem mastersFixed_setFixturePort (p : Fin 2) (x : FixturePort) :
    MastersFixed (s.setFixturePort p x) ↔ MastersFixed s :=
  mastersFixed_congr rfl rfl rfl

/-- Bookkeeping of the Take Controller keeps the active bank, and so the chain masters (R40). -/
theorem mastersFixed_setBanks {x : Banks} (ha : x.bankA = s.banks.bankA) (hb : x.bankB = s.banks.bankB)
    (hd : x.aActive = s.banks.aActive) : MastersFixed (s.setBanks x) ↔ MastersFixed s :=
  mastersFixed_congr (by simp [State.activeBank, ha, hb, hd]) rfl rfl

/-! ### The latches and the outputs -/

@[simp] theorem mastersFixed_latchPorts : MastersFixed (latchPorts s) ↔ MastersFixed s := mastersFixed_setPorts s _

/-- The evaluation of the look fixes GM, and leaves the wall gain set as it stands (R68). -/
@[simp] theorem mastersFixed_evaluateLight : MastersFixed (evaluateLight s) ↔ MastersFixed s :=
  mastersFixed_congr (activeBank_of_banks (by simp [evaluateLight])) (by simp [evaluateLight]) (by simp [evaluateLight])

@[simp] theorem mastersFixed_takeUp : MastersFixed (takeUp s) ↔ MastersFixed s := by
  unfold takeUp; split <;> simp

@[simp] theorem mastersFixed_refreshBoundary (p : Fin 2) : MastersFixed (refreshBoundary p s) ↔ MastersFixed s := by
  unfold refreshBoundary
  repeat' split
  all_goals simp [refreshLatch, shiftNext]

theorem mastersFixed_drainFifo (p : Fin 2) (h : MastersFixed s) : MastersFixed (drainFifo p s) :=
  foldl_keeps MastersFixed _ (fun t e ht => by simpa using ht) _ _ ((mastersFixed_setFixturePort s p _).2 h)

/-! ### The contacts -/

theorem mastersFixed_stopMapping {count : State → State} (hcount : ∀ t, MastersFixed (count t) ↔ MastersFixed t) :
    MastersFixed (stopMapping count s) ↔ MastersFixed s := by
  unfold stopMapping
  repeat' split
  all_goals simp [hcount]

@[simp] theorem mastersFixed_giveUpFrame : MastersFixed (giveUpFrame s) ↔ MastersFixed s := by
  have hcount : ∀ t, MastersFixed (countUnassigned t) ↔ MastersFixed t := fun t => mastersFixed_setCanvas t _
  simp [giveUpFrame, discardAccumulation, remarkBuffer, mastersFixed_stopMapping s hcount]

@[simp] theorem mastersFixed_abandonFrame : MastersFixed (abandonFrame s) ↔ MastersFixed s := by
  unfold abandonFrame
  repeat' split
  all_goals simp

@[simp] theorem mastersFixed_changeWall (cause : HoldCause) (after : Canvas) :
    MastersFixed (changeWall cause after s) ↔ MastersFixed s := by
  unfold changeWall
  repeat' split
  all_goals simp

@[simp] theorem mastersFixed_contactHold (gp : Tab 4 Bool) : MastersFixed (contactHold gp s) ↔ MastersFixed s := by
  simp only [contactHold]; split <;> simp

/-- A take request changes no bank and no designation (R46, R58). -/
@[simp] theorem mastersFixed_requestTake (f : FrameNo) (origin : TakeOrigin) :
    MastersFixed (requestTake f origin s) ↔ MastersFixed s := by
  unfold requestTake
  repeat' split
  all_goals simp [rejectRequest, failTake, acceptTake, mastersFixed_setBanks]

@[simp] theorem mastersFixed_acceptGo (r : CueRecord) (origin : GoOrigin) :
    MastersFixed (acceptGo r origin s) ↔ MastersFixed s := by
  unfold acceptGo; split <;> simp

@[simp] theorem mastersFixed_contactGo (input : Fin 4) : MastersFixed (contactGo input s) ↔ MastersFixed s := by
  unfold contactGo; split <;> simp

theorem mastersFixed_contactGoStep (gp : Tab 4 Bool) (i : Fin 4) (h : MastersFixed s) :
    MastersFixed (contactGoStep gp i s) := by
  unfold contactGoStep; split <;> simp [h]

@[simp] theorem mastersFixed_keepSamples (gp : Tab 4 Bool) : MastersFixed (keepSamples gp s) ↔ MastersFixed s :=
  mastersFixed_setTiming s _

end

/-! ### The boundary's parts -/

theorem mastersFixed_boundaryWall (s : State) : MastersFixed (boundaryWall s) :=
  (mastersFixed_latchPorts _).2 (mastersFixed_fixWallGains _)

theorem mastersFixed_boundaryLight {s : State} (h : MastersFixed s) : MastersFixed (boundaryLight s) := by
  have hrefresh : MastersFixed (forEach refreshBoundary (takeUp s)) :=
    forEach_keeps MastersFixed refreshBoundary (fun p t => (mastersFixed_refreshBoundary t p).2) _
      ((mastersFixed_takeUp s).2 h)
  exact forEach_keeps MastersFixed drainFifo (fun p t => mastersFixed_drainFifo t p) _
    ((mastersFixed_evaluateLight _).2 hrefresh)

theorem mastersFixed_boundaryContacts {s : State} (gp : Tab 4 Bool) (o : CommitOrder) (h : MastersFixed s) :
    MastersFixed (boundaryContacts gp o s) := by
  have hhold : MastersFixed (contactHold gp s) := (mastersFixed_contactHold s gp).2 h
  simp only [boundaryContacts, mastersFixed_keepSamples, takeIf]
  split
  · exact forEach_keeps MastersFixed (contactGoStep gp) (fun i t => mastersFixed_contactGoStep t gp i) _ hhold
  · exact hhold

/-- Every boundary leaves the chain masters of its own look and active bank in the wall gain set (R63). -/
theorem mastersFixed_frameBoundary (gp : Tab 4 Bool) (o : CommitOrder) (s : State) : MastersFixed (frameBoundary gp o s) :=
  mastersFixed_boundaryContacts gp o (mastersFixed_boundaryLight (mastersFixed_boundaryWall _))

end Sys2Proof.Machine
end

section
/-! PROOFS. The chain master of a chain, and the wall gain set that a boundary fixes (R63, R64). -/

namespace Sys2Proof.Machine

/-- Settles O29: validation leaves one channel that can name the chain, and what a boundary does after it has fixed the wall
gain set keeps the look, the active bank and the gains. -/
theorem chainMasterFollowsItsChannel : Obligations.ChainMasterFollowsItsChannel := by
  intro s c
  refine ⟨fun ch hv hnames => ?_, fun hnone => ?_, fun t gp order h => ?_⟩
  · have hch : wallMasterChannel s.activeBank c = some ch := wallMasterChannel_of_namesChain hv hnames
    exact ⟨hch, chainMaster_of_channel hch⟩
  · have hch : wallMasterChannel s.activeBank c = none := wallMasterChannel_eq_none_iff.2 hnone
    exact ⟨hch, chainMaster_of_no_channel hch⟩
  · rw [exec_frameBoundary, Host.Outcome.next.injEq] at h
    exact h ▸ mastersFixed_frameBoundary gp order s c

end Sys2Proof.Machine
end

section
/-! PROOFS. The table curve: the default curve, and a curve that reaches full level in entry 1023 (R69, R70). -/

namespace Sys2Proof.Machine

theorem curvePoint_of_lt (b : Bank) {i : Nat} (h : i < 1024) : curvePoint b i = (b.lightCurve.get ⟨i, h⟩).toNat := dif_pos h

theorem curvePoint_of_ge (b : Bank) {i : Nat} (h : 1024 ≤ i) : curvePoint b i = 65535 := dif_neg (Nat.not_lt.2 h)

/-- In the last segment the curve runs from entry 1023 to the virtual entry 1024 (R69). -/
theorem tableCurve_last_segment (b : Bank) {m : Nat} (hlo : 65472 ≤ m) (hhi : m ≤ 65535) :
    tableCurve b m = (b.lightCurve.get ⟨1023, by decide⟩).toNat +
      ((65535 - (b.lightCurve.get ⟨1023, by decide⟩).toNat) * (m % 64) + 32) / 64 := by
  have hseg : m / 64 = 1023 := by omega
  rw [tableCurve, hseg, curvePoint_of_lt b (by decide), curvePoint_of_ge b (by decide)]

section
variable {b : Bank} (hdefault : ∀ i, (b.lightCurve.get i).toNat = 64 * i.val)
include hdefault

/-- Below the last segment the default curve rises by 64 in each segment, and gives the level itself (R70). -/
theorem tableCurve_default_of_lt {m : Nat} (h : m < 65472) : tableCurve b m = m := by
  rw [tableCurve, curvePoint_of_lt b (show m / 64 < 1024 by omega), curvePoint_of_lt b (show m / 64 + 1 < 1024 by omega),
    hdefault, hdefault]
  simp only
  rw [show 64 * (m / 64 + 1) - 64 * (m / 64) = 64 by omega]
  omega

/-- In its last segment the default curve rises by 63 (R70). -/
theorem tableCurve_default_last {m : Nat} (hlo : 65472 ≤ m) (hhi : m ≤ 65535) :
    tableCurve b m = 65472 + (63 * (m % 64) + 32) / 64 := by
  rw [tableCurve_last_segment b hlo hhi, hdefault, show 64 * (⟨1023, by decide⟩ : Fin 1024).val = 65472 from rfl]

theorem tableCurve_default_of_le {m : Nat} (h : m ≤ 65504) : tableCurve b m = m := by
  rcases Nat.lt_or_ge m 65472 with hlt | hge
  · exact tableCurve_default_of_lt hdefault hlt
  · rw [tableCurve_default_last hdefault hge (by omega)]
    omega

theorem tableCurve_default_of_gt {m : Nat} (hlo : 65505 ≤ m) (hhi : m ≤ 65535) : tableCurve b m = m - 1 := by
  rw [tableCurve_default_last hdefault (by omega) hhi]
  omega

end

/-- Settles O30: below entry 1023 the default curve rises by 64 and in its last segment by 63, so the rounding falls short from
65,505 on; a curve full in entry 1023 does not rise there at all. -/
theorem defaultLightCurve : Obligations.DefaultLightCurve := by
  refine ⟨fun b hdefault => ⟨fun m => tableCurve_default_of_le hdefault, fun m => tableCurve_default_of_gt hdefault,
    tableCurve_default_of_gt hdefault (by decide) (by decide)⟩, fun b hfull m hlo hhi => ?_⟩
  rw [tableCurve_last_segment b hlo hhi, hfull]
  simp

end Sys2Proof.Machine
end

section
/-! SUPPORT. The blocks of the state, and which of them each operation can change: one lemma for each operation. -/

namespace Sys2Proof.Machine

/-- The blocks of the state, one for each field, with the intake's three lanes and the limiter's accumulation on their own. -/
inductive Block where
  | now | lane | buffer | slot | intake | timing | banks | level | canvas | ports | limiter | accumulation | merge
  | cue | drive | fixture | mgmt | sent | draws | pending
deriving DecidableEq

/-- The intake without its lanes. -/
def Intake.unlaned (x : Intake) : Intake := { x with lane := [], buffer := [], slot := none }

@[simp] theorem Intake.unlaned_eq_iff (x y : Intake) : x.unlaned = y.unlaned ↔
    x.link = y.link ∧ x.framer = y.framer ∧ x.unitAddress = y.unitAddress ∧ x.locked = y.locked ∧ x.label = y.label ∧
      x.inUse = y.inUse ∧ x.entries = y.entries ∧ x.linkLost = y.linkLost ∧ x.laneOverflow = y.laneOverflow ∧
      x.counters = y.counters := by
  simp [Intake.unlaned]

/-- The block is the same in two states. -/
def Block.Kept (s t : State) : Block → Prop
  | .now => t.now = s.now
  | .lane => t.intake.lane = s.intake.lane
  | .buffer => t.intake.buffer = s.intake.buffer
  | .slot => t.intake.slot = s.intake.slot
  | .intake => t.intake.unlaned = s.intake.unlaned
  | .timing => t.timing = s.timing
  | .banks => t.banks = s.banks
  | .level => t.level = s.level
  | .canvas => t.canvas = s.canvas
  | .ports => t.ports = s.ports
  | .limiter => t.limiter.chains = s.limiter.chains
  | .accumulation => t.limiter.accumulation = s.limiter.accumulation
  | .merge => t.merge = s.merge
  | .cue => t.cue = s.cue
  | .drive => t.drive = s.drive
  | .fixture => t.fixture = s.fixture
  | .mgmt => t.mgmt = s.mgmt
  | .sent => t.sent = s.sent
  | .draws => t.draws = s.draws
  | .pending => t.pending = s.pending

/-- Every block outside `l` is the same in two states. -/
def OnlyChanges (l : List Block) (s t : State) : Prop := ∀ b, b ∉ l → b.Kept s t

section
variable {l : List Block} {s t : State}

@[simp] theorem OnlyChanges.refl (l : List Block) (s : State) : OnlyChanges l s s := fun b _ => by cases b <;> rfl

theorem OnlyChanges.kept (h : OnlyChanges l s t) {b : Block} (hb : l.contains b = false) : b.Kept s t :=
  h b fun hmem => Bool.false_ne_true (hb.symm.trans (List.contains_iff_mem.mpr hmem))

theorem OnlyChanges.now (h : OnlyChanges l s t) (hl : l.contains .now = false) : t.now = s.now := h.kept hl
theorem OnlyChanges.lane (h : OnlyChanges l s t) (hl : l.contains .lane = false) : t.intake.lane = s.intake.lane :=
  h.kept hl
theorem OnlyChanges.buffer (h : OnlyChanges l s t) (hl : l.contains .buffer = false) :
    t.intake.buffer = s.intake.buffer := h.kept hl
theorem OnlyChanges.slot (h : OnlyChanges l s t) (hl : l.contains .slot = false) : t.intake.slot = s.intake.slot :=
  h.kept hl
theorem OnlyChanges.unlaned (h : OnlyChanges l s t) (hl : l.contains .intake = false) :
    t.intake.unlaned = s.intake.unlaned := h.kept hl
theorem OnlyChanges.timing (h : OnlyChanges l s t) (hl : l.contains .timing = false) : t.timing = s.timing := h.kept hl
theorem OnlyChanges.banks (h : OnlyChanges l s t) (hl : l.contains .banks = false) : t.banks = s.banks := h.kept hl
theorem OnlyChanges.level (h : OnlyChanges l s t) (hl : l.contains .level = false) : t.level = s.level := h.kept hl
theorem OnlyChanges.canvas (h : OnlyChanges l s t) (hl : l.contains .canvas = false) : t.canvas = s.canvas := h.kept hl
theorem OnlyChanges.ports (h : OnlyChanges l s t) (hl : l.contains .ports = false) : t.ports = s.ports := h.kept hl
theorem OnlyChanges.chains (h : OnlyChanges l s t) (hl : l.contains .limiter = false) :
    t.limiter.chains = s.limiter.chains := h.kept hl
theorem OnlyChanges.accumulation (h : OnlyChanges l s t) (hl : l.contains .accumulation = false) :
    t.limiter.accumulation = s.limiter.accumulation := h.kept hl
theorem OnlyChanges.merge (h : OnlyChanges l s t) (hl : l.contains .merge = false) : t.merge = s.merge := h.kept hl
theorem OnlyChanges.cue (h : OnlyChanges l s t) (hl : l.contains .cue = false) : t.cue = s.cue := h.kept hl
theorem OnlyChanges.drive (h : OnlyChanges l s t) (hl : l.contains .drive = false) : t.drive = s.drive := h.kept hl
theorem OnlyChanges.fixture (h : OnlyChanges l s t) (hl : l.contains .fixture = false) : t.fixture = s.fixture :=
  h.kept hl
theorem OnlyChanges.mgmt (h : OnlyChanges l s t) (hl : l.contains .mgmt = false) : t.mgmt = s.mgmt := h.kept hl
theorem OnlyChanges.sent (h : OnlyChanges l s t) (hl : l.contains .sent = false) : t.sent = s.sent := h.kept hl
theorem OnlyChanges.draws (h : OnlyChanges l s t) (hl : l.contains .draws = false) : t.draws = s.draws := h.kept hl
theorem OnlyChanges.pending (h : OnlyChanges l s t) (hl : l.contains .pending = false) : t.pending = s.pending :=
  h.kept hl

theorem Intake.eq_of_unlaned {x y : Intake} (h1 : x.lane = y.lane) (h2 : x.buffer = y.buffer) (h3 : x.slot = y.slot)
    (h : x.unlaned = y.unlaned) : x = y := by
  cases x; cases y; simp_all [Intake.unlaned]

theorem OnlyChanges.intake (h : OnlyChanges l s t) (h1 : l.contains .lane = false) (h2 : l.contains .buffer = false)
    (h3 : l.contains .slot = false) (h4 : l.contains .intake = false) : t.intake = s.intake :=
  Intake.eq_of_unlaned (h.lane h1) (h.buffer h2) (h.slot h3) (h.unlaned h4)

theorem OnlyChanges.limiter (h : OnlyChanges l s t) (h1 : l.contains .limiter = false) (h2 : l.contains .accumulation = false) :
    t.limiter = s.limiter := by
  have hc := h.chains h1
  have ha := h.accumulation h2
  cases ht : t.limiter; cases hs : s.limiter
  simp_all

/-- Blocks of `l` may be changed at will. -/
theorem onlyChanges_congr {u : State} (h : ∀ b, b ∉ l → (b.Kept s u ↔ b.Kept s t)) :
    OnlyChanges l s u ↔ OnlyChanges l s t := forall₂_congr h

/-- A step that changes blocks of `l` alone may follow. -/
theorem OnlyChanges.iff_of {u : State} (h : OnlyChanges l t u) : OnlyChanges l s u ↔ OnlyChanges l s t :=
  onlyChanges_congr fun b hb => by cases b <;> exact Eq.congr_left (h _ hb)

theorem OnlyChanges.mono {l' : List Block} (h : OnlyChanges l s t) (hl : l ⊆ l') : OnlyChanges l' s t :=
  fun b hb => h b fun h' => hb (hl h')

end

/-! ### One-block updates -/

section
variable {l : List Block} {s t : State}

/-- An update that keeps every block outside `l`. -/
theorem onlyChanges_update {u : State} (h : ∀ b, b ∉ l → b.Kept t u) : OnlyChanges l s u ↔ OnlyChanges l s t :=
  OnlyChanges.iff_of h

@[simp] theorem only_setNow (x : Nat) (h : .now ∈ l) : OnlyChanges l s (t.setNow x) ↔ OnlyChanges l s t :=
  onlyChanges_update fun b hb => by cases b <;> simp_all [Block.Kept]

/-- The parts of the intake outside `l` must stay. -/
@[simp] theorem only_setIntake (x : Intake) (h1 : .lane ∈ l ∨ x.lane = t.intake.lane)
    (h2 : .buffer ∈ l ∨ x.buffer = t.intake.buffer) (h3 : .slot ∈ l ∨ x.slot = t.intake.slot)
    (h4 : .intake ∈ l ∨ x.unlaned = t.intake.unlaned) : OnlyChanges l s (t.setIntake x) ↔ OnlyChanges l s t :=
  onlyChanges_update fun b hb => by cases b <;> simp_all [Block.Kept]

@[simp] theorem only_setTiming (x : Timing) (h : .timing ∈ l) : OnlyChanges l s (t.setTiming x) ↔ OnlyChanges l s t :=
  onlyChanges_update fun b hb => by cases b <;> simp_all [Block.Kept]

@[simp] theorem only_setBanks (x : Banks) (h : .banks ∈ l) : OnlyChanges l s (t.setBanks x) ↔ OnlyChanges l s t :=
  onlyChanges_update fun b hb => by cases b <;> simp_all [Block.Kept]

@[simp] theorem only_setLevel (x : LevelPath) (h : .level ∈ l) : OnlyChanges l s (t.setLevel x) ↔ OnlyChanges l s t :=
  onlyChanges_update fun b hb => by cases b <;> simp_all [Block.Kept]

@[simp] theorem only_setCanvas (x : Canvas) (h : .canvas ∈ l) : OnlyChanges l s (t.setCanvas x) ↔ OnlyChanges l s t :=
  onlyChanges_update fun b hb => by cases b <;> simp_all [Block.Kept]

@[simp] theorem only_setPorts (x : Tab 8 Port) (h : .ports ∈ l) : OnlyChanges l s (t.setPorts x) ↔ OnlyChanges l s t :=
  onlyChanges_update fun b hb => by cases b <;> simp_all [Block.Kept]

/-- The parts of the limiter outside `l` must stay. -/
@[simp] theorem only_setLimiter (x : Limiter) (h1 : .limiter ∈ l ∨ x.chains = t.limiter.chains)
    (h2 : .accumulation ∈ l ∨ x.accumulation = t.limiter.accumulation) :
    OnlyChanges l s (t.setLimiter x) ↔ OnlyChanges l s t :=
  onlyChanges_update fun b hb => by cases b <;> simp_all [Block.Kept]

@[simp] theorem only_setMerge (x : Merge) (h : .merge ∈ l) : OnlyChanges l s (t.setMerge x) ↔ OnlyChanges l s t :=
  onlyChanges_update fun b hb => by cases b <;> simp_all [Block.Kept]

@[simp] theorem only_setCue (x : Cue) (h : .cue ∈ l) : OnlyChanges l s (t.setCue x) ↔ OnlyChanges l s t :=
  onlyChanges_update fun b hb => by cases b <;> simp_all [Block.Kept]

@[simp] theorem only_setDrive (x : Tab 16 PwmOutput) (h : .drive ∈ l) : OnlyChanges l s (t.setDrive x) ↔ OnlyChanges l s t :=
  onlyChanges_update fun b hb => by cases b <;> simp_all [Block.Kept]

@[simp] theorem only_setFixture (x : Tab 2 FixturePort) (h : .fixture ∈ l) : OnlyChanges l s (t.setFixture x) ↔ OnlyChanges l s t :=
  onlyChanges_update fun b hb => by cases b <;> simp_all [Block.Kept]

@[simp] theorem only_setMgmt (x : Mgmt) (h : .mgmt ∈ l) : OnlyChanges l s (t.setMgmt x) ↔ OnlyChanges l s t :=
  onlyChanges_update fun b hb => by cases b <;> simp_all [Block.Kept]

@[simp] theorem only_setSent (x : List Emission) (h : .sent ∈ l) : OnlyChanges l s (t.setSent x) ↔ OnlyChanges l s t :=
  onlyChanges_update fun b hb => by cases b <;> simp_all [Block.Kept]

@[simp] theorem only_setDraws (x : Nat) (h : .draws ∈ l) : OnlyChanges l s (t.setDraws x) ↔ OnlyChanges l s t :=
  onlyChanges_update fun b hb => by cases b <;> simp_all [Block.Kept]

@[simp] theorem only_setPending (x : List Instr) (h : .pending ∈ l) : OnlyChanges l s (t.setPending x) ↔ OnlyChanges l s t :=
  onlyChanges_update fun b hb => by cases b <;> simp_all [Block.Kept]

end

/-! ### Shared operations -/

section
variable {l : List Block} {s t : State}

@[simp] theorem only_advanceTo (tick : Nat) (h : .now ∈ l) : OnlyChanges l s (advanceTo tick t) ↔ OnlyChanges l s t := by
  simp [advanceTo, h]

@[simp] theorem only_useDraw (h : .draws ∈ l) : OnlyChanges l s (useDraw t) ↔ OnlyChanges l s t := by simp [useDraw, h]

@[simp] theorem only_emit (e : Emission) (h : .sent ∈ l) : OnlyChanges l s (emit e t) ↔ OnlyChanges l s t := by
  simp [emit, h]

@[simp] theorem only_answer (tag code : Byte) (r : Result) (body : List Byte) (h : .mgmt ∈ l) :
    OnlyChanges l s (answer tag code r body t) ↔ OnlyChanges l s t := by simp [answer, h]

@[simp] theorem only_refuse (tag code : Byte) (r : Result) (h : .mgmt ∈ l) :
    OnlyChanges l s (refuse tag code r t) ↔ OnlyChanges l s t := by simp [refuse, h]

@[simp] theorem only_malformed (tag code : Byte) (h : .mgmt ∈ l) :
    OnlyChanges l s (malformed tag code t) ↔ OnlyChanges l s t := by simp [malformed, h]

@[simp] theorem only_settleEngine (h : .mgmt ∈ l) : OnlyChanges l s (settleEngine t) ↔ OnlyChanges l s t := by
  obtain ⟨stalled, stalls, e, -, -⟩ := settleEngine_cases t
  simp [e, h]

@[simp] theorem only_setPort (p : Fin 8) (x : Port) (h : .ports ∈ l) :
    OnlyChanges l s (t.setPort p x) ↔ OnlyChanges l s t := by simp [State.setPort, h]

@[simp] theorem only_setFixturePort (p : Fin 2) (x : FixturePort) (h : .fixture ∈ l) :
    OnlyChanges l s (t.setFixturePort p x) ↔ OnlyChanges l s t := by simp [State.setFixturePort, h]

@[simp] theorem only_setChain (c : Fin 8) (x : ChainLimiter) (h : .limiter ∈ l) :
    OnlyChanges l s (t.setChain c x) ↔ OnlyChanges l s t := by simp [State.setChain, h]

@[simp] theorem only_setSource (k : Fin 3) (x : Source) (h : .merge ∈ l) :
    OnlyChanges l s (t.setSource k x) ↔ OnlyChanges l s t := by simp [State.setSource, h]

/-- A loop changes what its passes change. -/
@[simp] theorem only_foldl {α : Type} {f : State → α → State} (h : ∀ t a, OnlyChanges l s (f t a) ↔ OnlyChanges l s t)
    (as : List α) : OnlyChanges l s (as.foldl f t) ↔ OnlyChanges l s t := by
  induction as generalizing t with
  | nil => rfl
  | cons a as ih => exact ih.trans (h t a)

@[simp] theorem only_forEach {n : Nat} {f : Fin n → State → State}
    (h : ∀ i t, OnlyChanges l s (f i t) ↔ OnlyChanges l s t) : OnlyChanges l s (forEach f t) ↔ OnlyChanges l s t :=
  only_foldl (fun t i => h i t) _

@[simp] theorem only_takeIf {f : State → State} (h : ∀ t, OnlyChanges l s (f t) ↔ OnlyChanges l s t) (b : Bool) :
    OnlyChanges l s (takeIf b f t) ↔ OnlyChanges l s t := by unfold takeIf; split <;> simp [h]

end

end Sys2Proof.Machine
end

section
/-! SUPPORT. Which blocks each operation of the model can change. -/

namespace Sys2Proof.Machine

/-! ### The chain ports -/

section
variable {l : List Block} {s t : State}

@[simp] theorem only_offerChainState (p : Fin 8) (before : PortState) (cause : ChainCause) (h1 : .mgmt ∈ l) :
    OnlyChanges l s (offerChainState p before cause t) ↔ OnlyChanges l s t := by simp [offerChainState, h1]

@[simp] theorem only_sendChain (p : Fin 8) (m : ChainMessage) (h1 : .sent ∈ l) :
    OnlyChanges l s (sendChain p m t) ↔ OnlyChanges l s t := by unfold sendChain; split <;> simp [h1]

@[simp] theorem only_sendPattern (p : Fin 8) (h1 : .sent ∈ l) :
    OnlyChanges l s (sendPattern p t) ↔ OnlyChanges l s t := by unfold sendPattern; split <;> simp [h1]

@[simp] theorem only_startOffer (p : Fin 8) (w : Lanes) (h1 : .ports ∈ l) (h2 : .sent ∈ l) :
    OnlyChanges l s (startOffer p w t) ↔ OnlyChanges l s t := by simp [startOffer, h1, h2]

@[simp] theorem only_enterTraining (p : Fin 8) (cause : ChainCause)
    (h1 : .ports ∈ l) (h2 : .mgmt ∈ l) (h3 : .sent ∈ l) :
    OnlyChanges l s (enterTraining p cause t) ↔ OnlyChanges l s t := by simp [enterTraining, h1, h2, h3]

@[simp] theorem only_tryTraining (p : Fin 8) (cause : ChainCause)
    (h1 : .ports ∈ l) (h2 : .mgmt ∈ l) (h3 : .sent ∈ l) :
    OnlyChanges l s (tryTraining p cause t) ↔ OnlyChanges l s t := by unfold tryTraining; split <;> simp [h1, h2, h3]

@[simp] theorem only_enterDown (p : Fin 8) (cause : ChainCause) (h1 : .ports ∈ l) (h2 : .mgmt ∈ l) :
    OnlyChanges l s (enterDown p cause t) ↔ OnlyChanges l s t := by simp [enterDown, h1, h2]

@[simp] theorem only_dropUnsent (p : Fin 8) (k : Nat) (h1 : .ports ∈ l) (h2 : .sent ∈ l) :
    OnlyChanges l s (dropUnsent p k t) ↔ OnlyChanges l s t := by simp [dropUnsent, h1, h2]

@[simp] theorem only_breakFrame (p : Fin 8) (h1 : .ports ∈ l) (h2 : .sent ∈ l) (h3 : .draws ∈ l) :
    OnlyChanges l s (breakFrame p t) ↔ OnlyChanges l s t := by simp only [breakFrame]; split <;> simp [h1, h2, h3]

@[simp] theorem only_enterRecovery (p : Fin 8) (cause : ChainCause)
    (h1 : .ports ∈ l) (h2 : .mgmt ∈ l) (h3 : .sent ∈ l) (h4 : .draws ∈ l) :
    OnlyChanges l s (enterRecovery p cause t) ↔ OnlyChanges l s t := by simp [enterRecovery, h1, h2, h3, h4]

@[simp] theorem only_sendCap (p : Fin 8) (h1 : .ports ∈ l) (h2 : .sent ∈ l) :
    OnlyChanges l s (sendCap p t) ↔ OnlyChanges l s t := by unfold sendCap; split <;> simp [h1, h2]

@[simp] theorem only_sendToken (p : Fin 8) (h1 : .ports ∈ l) (h2 : .sent ∈ l) :
    OnlyChanges l s (sendToken p t) ↔ OnlyChanges l s t := by simp [sendToken, h1, h2]

@[simp] theorem only_enterActive (p : Fin 8) (h1 : .ports ∈ l) (h2 : .mgmt ∈ l) (h3 : .sent ∈ l) :
    OnlyChanges l s (enterActive p t) ↔ OnlyChanges l s t := by simp [enterActive, h1, h2, h3]

@[simp] theorem only_losePartner (p : Fin 8) (h1 : .ports ∈ l) (h2 : .mgmt ∈ l) (h3 : .sent ∈ l) (h4 : .draws ∈ l) :
    OnlyChanges l s (losePartner p t) ↔ OnlyChanges l s t := by
  simp only [losePartner]
  repeat' split
  all_goals simp [h1, h2, h3, h4]

@[simp] theorem only_passExchange (p : Fin 8) (h1 : .ports ∈ l) :
    OnlyChanges l s (passExchange p t) ↔ OnlyChanges l s t := by simp [passExchange, h1]

@[simp] theorem only_trainingExchange (p : Fin 8) (width : Nat) (h1 : .ports ∈ l) (h2 : .sent ∈ l) :
    OnlyChanges l s (trainingExchange p width t) ↔ OnlyChanges l s t := by
  simp only [trainingExchange]
  repeat' split
  all_goals simp [h1, h2]

@[simp] theorem only_failTraining (p : Fin 8) (h1 : .ports ∈ l) (h2 : .mgmt ∈ l) :
    OnlyChanges l s (failTraining p t) ↔ OnlyChanges l s t := by simp [failTraining, h1, h2]

@[simp] theorem only_failRecovery (p : Fin 8) (h1 : .ports ∈ l) (h2 : .mgmt ∈ l) (h3 : .sent ∈ l) :
    OnlyChanges l s (failRecovery p t) ↔ OnlyChanges l s t := by simp [failRecovery, h1, h2, h3]

@[simp] theorem only_stepOffer (p : Fin 8) (h1 : .ports ∈ l) (h2 : .sent ∈ l) :
    OnlyChanges l s (stepOffer p t) ↔ OnlyChanges l s t := by simp [stepOffer, h1, h2]

@[simp] theorem only_endHoldoff (p : Fin 8) (h1 : .ports ∈ l) (h2 : .mgmt ∈ l) (h3 : .sent ∈ l) :
    OnlyChanges l s (endHoldoff p t) ↔ OnlyChanges l s t := by simp [endHoldoff, h1, h2, h3]

@[simp] theorem only_trainingBoundary (p : Fin 8) (h1 : .ports ∈ l) (h2 : .mgmt ∈ l) (h3 : .sent ∈ l) :
    OnlyChanges l s (trainingBoundary p t) ↔ OnlyChanges l s t := by
  simp only [trainingBoundary]
  repeat' split
  all_goals simp [h1, h2, h3]

@[simp] theorem only_recordHop (p : Fin 8) (hop : Nat) (h1 : .ports ∈ l) :
    OnlyChanges l s (recordHop p hop t) ↔ OnlyChanges l s t := by unfold recordHop; split <;> simp [h1]

@[simp] theorem only_completeCensus (p : Fin 8) (result : Nat) (h1 : .ports ∈ l) (h2 : .mgmt ∈ l) :
    OnlyChanges l s (completeCensus p result t) ↔ OnlyChanges l s t := by
  simp only [completeCensus]; split <;> simp [h1, h2]

@[simp] theorem only_endWindow (p : Fin 8) (h1 : .now ∈ l) (h2 : .ports ∈ l) (h3 : .mgmt ∈ l) (h4 : .sent ∈ l) :
    OnlyChanges l s (endWindow p t) ↔ OnlyChanges l s t := by
  simp only [endWindow]
  repeat' split
  all_goals simp [h1, h2, h3, h4]

@[simp] theorem only_censusBoundary (p : Fin 8) (h1 : .ports ∈ l) (h2 : .sent ∈ l) :
    OnlyChanges l s (censusBoundary p t) ↔ OnlyChanges l s t := by
  simp only [censusBoundary]
  repeat' split
  all_goals simp [h1, h2]

@[simp] theorem only_addErrors (p : Fin 8) (errors : Nat)
    (h1 : .ports ∈ l) (h2 : .mgmt ∈ l) (h3 : .sent ∈ l) (h4 : .draws ∈ l) :
    OnlyChanges l s (addErrors p errors t) ↔ OnlyChanges l s t := by
  simp only [addErrors]
  repeat' split
  all_goals simp [h1, h2, h3, h4]

@[simp] theorem only_receiveReturn (p : Fin 8) (m : ReturnMessage)
    (h1 : .ports ∈ l) (h2 : .mgmt ∈ l) (h3 : .sent ∈ l) (h4 : .draws ∈ l) :
    OnlyChanges l s (receiveReturn p m t) ↔ OnlyChanges l s t := by
  unfold receiveReturn; split <;> simp [h1, h2, h3, h4]

@[simp] theorem only_retrainPort (tag : Byte) (p : Fin 8)
    (h1 : .ports ∈ l) (h2 : .mgmt ∈ l) (h3 : .sent ∈ l) (h4 : .draws ∈ l) :
    OnlyChanges l s (retrainPort tag p t) ↔ OnlyChanges l s t := by
  unfold retrainPort; split <;> simp [h1, h2, h3, h4]

@[simp] theorem only_enterDisabled (p : Fin 8) (h1 : .ports ∈ l) (h2 : .mgmt ∈ l) :
    OnlyChanges l s (enterDisabled p t) ↔ OnlyChanges l s t := by simp [enterDisabled, h1, h2]

@[simp] theorem only_finishDisable (p : Fin 8) (h1 : .ports ∈ l) (h2 : .mgmt ∈ l) :
    OnlyChanges l s (finishDisable p t) ↔ OnlyChanges l s t := by unfold finishDisable; split <;> simp [h1, h2]

@[simp] theorem only_disablePort (tag : Byte) (p : Fin 8) (h1 : .ports ∈ l) (h2 : .mgmt ∈ l) :
    OnlyChanges l s (disablePort tag p t) ↔ OnlyChanges l s t := by
  simp only [disablePort]
  repeat' split
  all_goals simp [h1, h2]

@[simp] theorem only_enablePort (tag : Byte) (p : Fin 8) (h1 : .ports ∈ l) (h2 : .mgmt ∈ l) (h3 : .sent ∈ l) :
    OnlyChanges l s (enablePort tag p t) ↔ OnlyChanges l s t := by unfold enablePort; split <;> simp [h1, h2, h3]

@[simp] theorem only_latchPorts (h1 : .ports ∈ l) : OnlyChanges l s (latchPorts t) ↔ OnlyChanges l s t := by
  simp [latchPorts, h1]

@[simp] theorem only_handSegment (p : Fin 8) (g : Segment) (h1 : .ports ∈ l) :
    OnlyChanges l s (handSegment p g t) ↔ OnlyChanges l s t := by simp only [handSegment]; split <;> simp [h1]

@[simp] theorem only_markPort (normal : Bool) (p : Fin 8) (h1 : .ports ∈ l) (h2 : .sent ∈ l) :
    OnlyChanges l s (markPort normal p t) ↔ OnlyChanges l s t := by simp only [markPort]; split <;> simp [h1, h2]

@[simp] theorem only_sendMarkers (h1 : .ports ∈ l) (h2 : .sent ∈ l) :
    OnlyChanges l s (sendMarkers t) ↔ OnlyChanges l s t := by simp [sendMarkers, h1, h2]

@[simp] theorem only_portBoundary (p : Fin 8) (h1 : .ports ∈ l) (h2 : .mgmt ∈ l) (h3 : .sent ∈ l) :
    OnlyChanges l s (portBoundary p t) ↔ OnlyChanges l s t := by
  unfold portBoundary
  repeat' split
  all_goals simp [h1, h2, h3]

@[simp] theorem only_portsBoundary (h1 : .ports ∈ l) (h2 : .mgmt ∈ l) (h3 : .sent ∈ l) :
    OnlyChanges l s (portsBoundary t) ↔ OnlyChanges l s t := by simp [portsBoundary, h1, h2, h3]

@[simp] theorem only_trainPresent (h1 : .ports ∈ l) (h2 : .mgmt ∈ l) (h3 : .sent ∈ l) :
    OnlyChanges l s (trainPresent t) ↔ OnlyChanges l s t := by simp [trainPresent, h1, h2, h3]

end

/-! ### The power limiter -/

section
variable {l : List Block} {s t : State}

@[simp] theorem only_beginAccumulation (h1 : .accumulation ∈ l) :
    OnlyChanges l s (beginAccumulation t) ↔ OnlyChanges l s t := by simp [beginAccumulation, h1]

@[simp] theorem only_discardAccumulation (h1 : .accumulation ∈ l) :
    OnlyChanges l s (discardAccumulation t) ↔ OnlyChanges l s t := by simp [discardAccumulation, h1]

@[simp] theorem only_accumulate (entry : Fin 256) (v : Nat × Nat × Nat) (h1 : .accumulation ∈ l) :
    OnlyChanges l s (accumulate entry v t) ↔ OnlyChanges l s t := by unfold accumulate; split <;> simp [h1]

@[simp] theorem only_offerLimiter (c : Fin 8) (before : Nat) (boundary : Option FrameNo) (h1 : .mgmt ∈ l) :
    OnlyChanges l s (offerLimiter c before boundary t) ↔ OnlyChanges l s t := by
  unfold offerLimiter
  repeat' split
  all_goals simp [h1]

@[simp] theorem only_updateChain (c : Fin 8) (h1 : .limiter ∈ l) (h2 : .mgmt ∈ l) :
    OnlyChanges l s (updateChain c t) ↔ OnlyChanges l s t := by
  unfold updateChain
  repeat' split
  all_goals simp [h1, h2]

@[simp] theorem only_limiterBoundary (h1 : .limiter ∈ l) (h2 : .accumulation ∈ l) (h3 : .mgmt ∈ l) :
    OnlyChanges l s (limiterBoundary t) ↔ OnlyChanges l s t := by
  simp only [limiterBoundary]; split <;> simp [h1, h2, h3]

@[simp] theorem only_handCap (p : Fin 8) (watts : Nat) (h1 : .ports ∈ l) :
    OnlyChanges l s (handCap p watts t) ↔ OnlyChanges l s t := by simp [handCap, h1]

@[simp] theorem only_handCaps (c : Fin 8) (watts : Nat) (h1 : .ports ∈ l) :
    OnlyChanges l s (handCaps c watts t) ↔ OnlyChanges l s t := by
  unfold handCaps
  repeat' split
  all_goals simp [h1]

end

/-! ### The canvas -/

section
variable {l : List Block} {s t : State}

@[simp] theorem only_handValues (entry : Fin 256) (values : List (Nat × Nat × Nat)) (h1 : .accumulation ∈ l) :
    OnlyChanges l s (handValues entry values t) ↔ OnlyChanges l s t := by simp [handValues, h1]

@[simp] theorem only_handPiece (x : Piece) (h1 : .ports ∈ l) (h2 : .accumulation ∈ l) :
    OnlyChanges l s (handPiece t x) ↔ OnlyChanges l s t := by simp [handPiece, h1, h2]

@[simp] theorem only_countLate (h1 : .canvas ∈ l) : OnlyChanges l s (countLate t) ↔ OnlyChanges l s t := by
  simp [countLate, h1]

@[simp] theorem only_countUnassigned (h1 : .canvas ∈ l) :
    OnlyChanges l s (countUnassigned t) ↔ OnlyChanges l s t := by simp [countUnassigned, h1]

@[simp] theorem only_stopMapping {count : State → State} (hcount : ∀ t, OnlyChanges l s (count t) ↔ OnlyChanges l s t)
    (h1 : .canvas ∈ l) : OnlyChanges l s (stopMapping count t) ↔ OnlyChanges l s t := by
  unfold stopMapping
  repeat' split
  all_goals simp [h1, hcount]

@[simp] theorem only_remarkBuffer (mark : UnitMark) (h1 : .buffer ∈ l) :
    OnlyChanges l s (remarkBuffer mark t) ↔ OnlyChanges l s t := by simp [remarkBuffer, h1]

@[simp] theorem only_giveUpFrame (h1 : .canvas ∈ l) (h2 : .buffer ∈ l) (h3 : .accumulation ∈ l) :
    OnlyChanges l s (giveUpFrame t) ↔ OnlyChanges l s t := by simp [giveUpFrame, h1, h2, h3]

@[simp] theorem only_abandonFrame (h1 : .canvas ∈ l) (h2 : .buffer ∈ l) (h3 : .accumulation ∈ l) :
    OnlyChanges l s (abandonFrame t) ↔ OnlyChanges l s t := by
  unfold abandonFrame
  repeat' split
  all_goals simp [h1, h2, h3]

@[simp] theorem only_supersedeFrame (h1 : .canvas ∈ l) (h2 : .buffer ∈ l) (h3 : .accumulation ∈ l) :
    OnlyChanges l s (supersedeFrame t) ↔ OnlyChanges l s t := by unfold supersedeFrame; split <;> simp [h1, h2, h3]

@[simp] theorem only_changeWall (cause : HoldCause) (after : Canvas) (h1 : .canvas ∈ l) (h2 : .mgmt ∈ l) :
    OnlyChanges l s (changeWall cause after t) ↔ OnlyChanges l s t := by
  simp only [changeWall]
  repeat' split
  all_goals simp [h1, h2]

@[simp] theorem only_holdWall (h1 : .canvas ∈ l) (h2 : .buffer ∈ l) (h3 : .accumulation ∈ l) (h4 : .mgmt ∈ l) :
    OnlyChanges l s (holdWall t) ↔ OnlyChanges l s t := by unfold holdWall; split <;> simp [h1, h2, h3, h4]

@[simp] theorem only_releaseWall (h1 : .canvas ∈ l) (h2 : .mgmt ∈ l) :
    OnlyChanges l s (releaseWall t) ↔ OnlyChanges l s t := by simp [releaseWall, h1, h2]

@[simp] theorem only_setLightOperator (on : Bool) (h1 : .canvas ∈ l) :
    OnlyChanges l s (setLightOperator on t) ↔ OnlyChanges l s t := by simp [setLightOperator, h1]

@[simp] theorem only_lightHoldBoundary (h1 : .canvas ∈ l) (h2 : .mgmt ∈ l) :
    OnlyChanges l s (lightHoldBoundary t) ↔ OnlyChanges l s t := by
  simp only [lightHoldBoundary]
  repeat' split
  all_goals simp [h1, h2]

@[simp] theorem only_setAutoHold (h1 : .canvas ∈ l) (h2 : .mgmt ∈ l) :
    OnlyChanges l s (setAutoHold t) ↔ OnlyChanges l s t := by simp [setAutoHold, h1, h2]

@[simp] theorem only_autoHoldBoundary (h1 : .canvas ∈ l) (h2 : .mgmt ∈ l) :
    OnlyChanges l s (autoHoldBoundary t) ↔ OnlyChanges l s t := by
  simp only [autoHoldBoundary]
  repeat' split
  all_goals simp [h1, h2]

@[simp] theorem only_beginFrame (number : BitVec 16) (damaged : Bool)
    (h1 : .canvas ∈ l) (h2 : .buffer ∈ l) (h3 : .accumulation ∈ l) (h4 : .mgmt ∈ l) :
    OnlyChanges l s (beginFrame number damaged t) ↔ OnlyChanges l s t := by
  simp only [beginFrame]; split <;> simp [h1, h2, h3, h4]

@[simp] theorem only_lossNotice (number : BitVec 16)
    (h1 : .canvas ∈ l) (h2 : .buffer ∈ l) (h3 : .accumulation ∈ l) (h4 : .mgmt ∈ l) :
    OnlyChanges l s (lossNotice number t) ↔ OnlyChanges l s t := by
  unfold lossNotice
  repeat' split
  all_goals simp [h1, h2, h3, h4]

@[simp] theorem only_handFirst (pieces : List Piece) (handed begun : Nat) (h1 : .ports ∈ l) (h2 : .accumulation ∈ l) :
    OnlyChanges l s (handFirst pieces handed begun t) ↔ OnlyChanges l s t := by
  simp only [handFirst]; split <;> simp [h1, h2]

@[simp] theorem only_handRest (pieces : List Piece) (handed begun : Nat) (h1 : .ports ∈ l) (h2 : .accumulation ∈ l) :
    OnlyChanges l s (handRest pieces handed begun t) ↔ OnlyChanges l s t := by
  unfold handRest; split <;> simp [h1, h2]

@[simp] theorem only_startUnitMapping (u : BufferedUnit)
    (h1 : .canvas ∈ l) (h2 : .ports ∈ l) (h3 : .accumulation ∈ l) (h4 : .draws ∈ l) :
    OnlyChanges l s (startUnitMapping u t) ↔ OnlyChanges l s t := by
  simp only [startUnitMapping]; split <;> simp [h1, h2, h3, h4]

@[simp] theorem only_takeUnit
    (h1 : .buffer ∈ l) (h2 : .canvas ∈ l) (h3 : .ports ∈ l) (h4 : .accumulation ∈ l) (h5 : .draws ∈ l) :
    OnlyChanges l s (takeUnit t) ↔ OnlyChanges l s t := by unfold takeUnit; split <;> simp [h1, h2, h3, h4, h5]

@[simp] theorem only_mapLine (y : Nat) (h1 : .canvas ∈ l) : OnlyChanges l s (mapLine y t) ↔ OnlyChanges l s t := by
  unfold mapLine
  repeat' split
  all_goals simp [h1]

@[simp] theorem only_finishUnit (h1 : .now ∈ l) (h2 : .canvas ∈ l) (h3 : .ports ∈ l) (h4 : .accumulation ∈ l) :
    OnlyChanges l s (finishUnit t) ↔ OnlyChanges l s t := by
  simp only [finishUnit]
  repeat' split
  all_goals simp [h1, h2, h3, h4]

@[simp] theorem only_presentFrame (h1 : .canvas ∈ l) (h2 : .buffer ∈ l) :
    OnlyChanges l s (presentFrame t) ↔ OnlyChanges l s t := by
  simp only [presentFrame]
  repeat' split
  all_goals simp [h1, h2]

end

/-! ### The merge and the levels -/

section
variable {l : List Block} {s t : State}

@[simp] theorem only_silenceTests (h1 : .merge ∈ l) : OnlyChanges l s (silenceTests t) ↔ OnlyChanges l s t := by
  simp [silenceTests, h1]

@[simp] theorem only_applyPriorities (h1 : .merge ∈ l) : OnlyChanges l s (applyPriorities t) ↔ OnlyChanges l s t := by
  simp [applyPriorities, h1]

@[simp] theorem only_requestPriority (source priority : Nat) (h1 : .merge ∈ l) :
    OnlyChanges l s (requestPriority source priority t) ↔ OnlyChanges l s t := by
  unfold requestPriority
  repeat' split
  all_goals simp [h1]

@[simp] theorem only_mergeLook (h1 : .merge ∈ l) : OnlyChanges l s (mergeLook t) ↔ OnlyChanges l s t := by
  simp [mergeLook, h1]

@[simp] theorem only_fixWallGains (h1 : .level ∈ l) : OnlyChanges l s (fixWallGains t) ↔ OnlyChanges l s t := by
  simp [fixWallGains, h1]

@[simp] theorem only_evaluateLight (h1 : .level ∈ l) (h2 : .drive ∈ l) (h3 : .fixture ∈ l) :
    OnlyChanges l s (evaluateLight t) ↔ OnlyChanges l s t := by simp [evaluateLight, h1, h2, h3]

end

/-! ### Timing -/

section
variable {l : List Block} {s t : State}

@[simp] theorem only_offerReference (before : Timing) (h1 : .mgmt ∈ l) :
    OnlyChanges l s (offerReference before t) ↔ OnlyChanges l s t := by
  simp only [offerReference]; split <;> simp [h1]

@[simp] theorem only_changeTiming (after : Timing) (h1 : .timing ∈ l) (h2 : .mgmt ∈ l) :
    OnlyChanges l s (changeTiming after t) ↔ OnlyChanges l s t := by simp [changeTiming, h1, h2]

@[simp] theorem only_numberBoundary (h1 : .slot ∈ l) (h2 : .timing ∈ l) (h3 : .mgmt ∈ l) :
    OnlyChanges l s (numberBoundary t) ↔ OnlyChanges l s t := by
  simp only [numberBoundary]
  repeat' split
  all_goals simp [h1, h2, h3]

@[simp] theorem only_referenceBoundary (taken : Option TimeMark) (h1 : .timing ∈ l) (h2 : .mgmt ∈ l) :
    OnlyChanges l s (referenceBoundary taken t) ↔ OnlyChanges l s t := by
  unfold referenceBoundary
  repeat' split
  all_goals simp [h1, h2]

@[simp] theorem only_timingBoundary (h1 : .now ∈ l) (h2 : .slot ∈ l) (h3 : .timing ∈ l) (h4 : .mgmt ∈ l) :
    OnlyChanges l s (timingBoundary t) ↔ OnlyChanges l s t := by simp [timingBoundary, h1, h2, h3, h4]

@[simp] theorem only_keepSamples (gp : Tab 4 Bool) (h1 : .timing ∈ l) :
    OnlyChanges l s (keepSamples gp t) ↔ OnlyChanges l s t := by simp [keepSamples, h1]

end

/-! ### Banks and takes -/

section
variable {l : List Block} {s t : State}

@[simp] theorem only_writeStaged (tag code : Byte) (table start count : Nat) (ok : Bool) (change : Bank → Bank)
    (h1 : .banks ∈ l) (h2 : .mgmt ∈ l) :
    OnlyChanges l s (writeStaged tag code table start count ok change t) ↔ OnlyChanges l s t := by
  unfold writeStaged
  repeat' split
  all_goals simp [h1, h2]

@[simp] theorem only_writeTable (tag code : Byte) (table size largest width start count : Nat) (elements : List Byte)
    (change : Bank → Bank)
    (h1 : .banks ∈ l) (h2 : .mgmt ∈ l) :
    OnlyChanges l s
    (writeTable tag code table size largest width start count elements change t) ↔ OnlyChanges l s t := by
  unfold writeTable; split <;> simp [h1, h2]

@[simp] theorem only_finishClone (h1 : .banks ∈ l) (h2 : .mgmt ∈ l) :
    OnlyChanges l s (finishClone t) ↔ OnlyChanges l s t := by unfold finishClone; split <;> simp [h1, h2]

@[simp] theorem only_acceptTake (f : FrameNo) (origin : TakeOrigin) (h1 : .banks ∈ l) :
    OnlyChanges l s (acceptTake f origin t) ↔ OnlyChanges l s t := by simp [acceptTake, h1]

@[simp] theorem only_failTake (record : TakeRecord) (reason : FailReason) (h1 : .banks ∈ l) (h2 : .mgmt ∈ l) :
    OnlyChanges l s (failTake record reason t) ↔ OnlyChanges l s t := by simp [failTake, h1, h2]

@[simp] theorem only_rejectRequest (record : TakeRecord) (reason : FailReason) (h1 : .banks ∈ l) (h2 : .mgmt ∈ l) :
    OnlyChanges l s (rejectRequest record reason t) ↔ OnlyChanges l s t := by simp [rejectRequest, h1, h2]

@[simp] theorem only_requestTake (f : FrameNo) (origin : TakeOrigin) (h1 : .banks ∈ l) (h2 : .mgmt ∈ l) :
    OnlyChanges l s (requestTake f origin t) ↔ OnlyChanges l s t := by
  unfold requestTake
  repeat' split
  all_goals simp [h1, h2]

@[simp] theorem only_endValidation (h1 : .banks ∈ l) (h2 : .mgmt ∈ l) :
    OnlyChanges l s (endValidation t) ↔ OnlyChanges l s t := by
  unfold endValidation
  repeat' split
  all_goals simp [h1, h2]

@[simp] theorem only_cancelRecord (tag : Byte) (record : TakeRecord) (h1 : .banks ∈ l) (h2 : .mgmt ∈ l) :
    OnlyChanges l s (cancelRecord tag record t) ↔ OnlyChanges l s t := by simp [cancelRecord, h1, h2]

@[simp] theorem only_commitTake (record : TakeRecord) (h1 : .banks ∈ l) (h2 : .mgmt ∈ l) :
    OnlyChanges l s (commitTake record t) ↔ OnlyChanges l s t := by simp [commitTake, h1, h2]

@[simp] theorem only_takeBoundary (h1 : .banks ∈ l) (h2 : .mgmt ∈ l) :
    OnlyChanges l s (takeBoundary t) ↔ OnlyChanges l s t := by
  unfold takeBoundary
  repeat' split
  all_goals simp [h1, h2]

end

/-! ### Cues and contacts -/

section
variable {l : List Block} {s t : State}

@[simp] theorem only_acceptGo (r : CueRecord) (origin : GoOrigin) (h1 : .cue ∈ l) (h2 : .banks ∈ l) (h3 : .mgmt ∈ l) :
    OnlyChanges l s (acceptGo r origin t) ↔ OnlyChanges l s t := by simp only [acceptGo]; split <;> simp [h1, h2, h3]

@[simp] theorem only_answerGo (tag code : Byte) (incoming : Option CueRecord) (origin : GoOrigin) (refusal : Result)
    (h1 : .cue ∈ l) (h2 : .banks ∈ l) (h3 : .mgmt ∈ l) :
    OnlyChanges l s (answerGo tag code incoming origin refusal t) ↔ OnlyChanges l s t := by
  unfold answerGo; split <;> simp [h1, h2, h3]

@[simp] theorem only_contactGo (input : Fin 4) (h1 : .cue ∈ l) (h2 : .banks ∈ l) (h3 : .mgmt ∈ l) :
    OnlyChanges l s (contactGo input t) ↔ OnlyChanges l s t := by unfold contactGo; split <;> simp [h1, h2, h3]

@[simp] theorem only_startFade (h1 : .cue ∈ l) (h2 : .mgmt ∈ l) :
    OnlyChanges l s (startFade t) ↔ OnlyChanges l s t := by unfold startFade; split <;> simp [h1, h2]

@[simp] theorem only_stepFade (h1 : .cue ∈ l) : OnlyChanges l s (stepFade t) ↔ OnlyChanges l s t := by
  simp [stepFade, h1]

@[simp] theorem only_completeFade (h1 : .cue ∈ l) (h2 : .mgmt ∈ l) :
    OnlyChanges l s (completeFade t) ↔ OnlyChanges l s t := by simp [completeFade, h1, h2]

@[simp] theorem only_fireFollow (h1 : .cue ∈ l) (h2 : .banks ∈ l) (h3 : .mgmt ∈ l) :
    OnlyChanges l s (fireFollow t) ↔ OnlyChanges l s t := by simp only [fireFollow]; split <;> simp [h1, h2, h3]

@[simp] theorem only_testCompletion (h1 : .cue ∈ l) (h2 : .mgmt ∈ l) :
    OnlyChanges l s (testCompletion t) ↔ OnlyChanges l s t := by unfold testCompletion; split <;> simp [h1, h2]

@[simp] theorem only_testFollow (h1 : .cue ∈ l) (h2 : .banks ∈ l) (h3 : .mgmt ∈ l) :
    OnlyChanges l s (testFollow t) ↔ OnlyChanges l s t := by unfold testFollow; split <;> simp [h1, h2, h3]

@[simp] theorem only_cueBoundary (h1 : .cue ∈ l) (h2 : .banks ∈ l) (h3 : .mgmt ∈ l) :
    OnlyChanges l s (cueBoundary t) ↔ OnlyChanges l s t := by
  unfold cueBoundary
  repeat' split
  all_goals simp [h1, h2, h3]

@[simp] theorem only_contactTake (gp : Tab 4 Bool) (i : Fin 4) (h1 : .banks ∈ l) (h2 : .mgmt ∈ l) :
    OnlyChanges l s (contactTake gp i t) ↔ OnlyChanges l s t := by unfold contactTake; split <;> simp [h1, h2]

@[simp] theorem only_contactTakes (gp : Tab 4 Bool) (h1 : .banks ∈ l) (h2 : .mgmt ∈ l) :
    OnlyChanges l s (contactTakes gp t) ↔ OnlyChanges l s t := by simp [contactTakes, h1, h2]

@[simp] theorem only_contactHold (gp : Tab 4 Bool)
    (h1 : .canvas ∈ l) (h2 : .buffer ∈ l) (h3 : .accumulation ∈ l) (h4 : .mgmt ∈ l) :
    OnlyChanges l s (contactHold gp t) ↔ OnlyChanges l s t := by
  simp only [contactHold]; split <;> simp [h1, h2, h3, h4]

@[simp] theorem only_contactGoStep (gp : Tab 4 Bool) (i : Fin 4) (h1 : .cue ∈ l) (h2 : .banks ∈ l) (h3 : .mgmt ∈ l) :
    OnlyChanges l s (contactGoStep gp i t) ↔ OnlyChanges l s t := by unfold contactGoStep; split <;> simp [h1, h2, h3]

@[simp] theorem only_contactGos (gp : Tab 4 Bool) (h1 : .cue ∈ l) (h2 : .banks ∈ l) (h3 : .mgmt ∈ l) :
    OnlyChanges l s (contactGos gp t) ↔ OnlyChanges l s t := by simp [contactGos, h1, h2, h3]

end

/-! ### The outputs -/

section
variable {l : List Block} {s t : State}

@[simp] theorem only_requestSettings (o : Fin 16) (x : PwmSettings) (h1 : .drive ∈ l) :
    OnlyChanges l s (requestSettings o x t) ↔ OnlyChanges l s t := by simp [requestSettings, h1]

@[simp] theorem only_applySettings (h1 : .drive ∈ l) : OnlyChanges l s (applySettings t) ↔ OnlyChanges l s t := by
  simp [applySettings, h1]

@[simp] theorem only_takeUp (h1 : .drive ∈ l) : OnlyChanges l s (takeUp t) ↔ OnlyChanges l s t := by
  unfold takeUp; split <;> simp [h1]

@[simp] theorem only_endQuery (p : Fin 2) (h1 : .fixture ∈ l) :
    OnlyChanges l s (endQuery p t) ↔ OnlyChanges l s t := by simp [endQuery, h1]

@[simp] theorem only_answerQuery (p : Fin 2) (r : Result) (body : List Byte) (h1 : .fixture ∈ l) (h2 : .mgmt ∈ l) :
    OnlyChanges l s (answerQuery p r body t) ↔ OnlyChanges l s t := by unfold answerQuery; split <;> simp [h1, h2]

@[simp] theorem only_shiftNext (p : Fin 2) (h1 : .fixture ∈ l) :
    OnlyChanges l s (shiftNext p t) ↔ OnlyChanges l s t := by simp [shiftNext, h1]

@[simp] theorem only_endShifterFrame (p : Fin 2) (h1 : .now ∈ l) (h2 : .fixture ∈ l) (h3 : .sent ∈ l) :
    OnlyChanges l s (endShifterFrame p t) ↔ OnlyChanges l s t := by
  simp only [endShifterFrame]
  repeat' split
  all_goals simp [h1, h2, h3]

@[simp] theorem only_cutFrame (p : Fin 2) (h1 : .fixture ∈ l) (h2 : .sent ∈ l) :
    OnlyChanges l s (cutFrame p t) ↔ OnlyChanges l s t := by
  simp only [cutFrame]
  repeat' split
  all_goals simp [h1, h2]

@[simp] theorem only_switchOff (p : Fin 2) (h1 : .fixture ∈ l) (h2 : .mgmt ∈ l) (h3 : .sent ∈ l) :
    OnlyChanges l s (switchOff p t) ↔ OnlyChanges l s t := by simp [switchOff, h1, h2, h3]

@[simp] theorem only_switchOn (p : Fin 2) (h1 : .fixture ∈ l) :
    OnlyChanges l s (switchOn p t) ↔ OnlyChanges l s t := by simp [switchOn, h1]

@[simp] theorem only_storeRate (p : Fin 2) (rate : BitRate) (divisor : Nat) (h1 : .fixture ∈ l) :
    OnlyChanges l s (storeRate p rate divisor t) ↔ OnlyChanges l s t := by simp [storeRate, h1]

@[simp] theorem only_enablePortTo (p : Fin 2) (enable : Bool) (h1 : .fixture ∈ l) (h2 : .mgmt ∈ l) (h3 : .sent ∈ l) :
    OnlyChanges l s (enablePortTo p enable t) ↔ OnlyChanges l s t := by
  unfold enablePortTo
  repeat' split
  all_goals simp [h1, h2, h3]

@[simp] theorem only_acceptQuery (tag : Byte) (p : Fin 2) (address : Nat) (kind : QueryKind) (h1 : .fixture ∈ l) :
    OnlyChanges l s (acceptQuery tag p address kind t) ↔ OnlyChanges l s t := by simp [acceptQuery, h1]

@[simp] theorem only_refreshLatch (p : Fin 2) (h1 : .fixture ∈ l) :
    OnlyChanges l s (refreshLatch p t) ↔ OnlyChanges l s t := by simp [refreshLatch, h1]

@[simp] theorem only_refreshBoundary (p : Fin 2) (h1 : .fixture ∈ l) :
    OnlyChanges l s (refreshBoundary p t) ↔ OnlyChanges l s t := by
  unfold refreshBoundary
  repeat' split
  all_goals simp [h1]

@[simp] theorem only_receiveCharacter (p : Fin 2) (data : Byte) (parity : Bool) (line : Framing) (h1 : .fixture ∈ l) :
    OnlyChanges l s (receiveCharacter p data parity line t) ↔ OnlyChanges l s t := by
  unfold receiveCharacter; split <;> simp [h1]

@[simp] theorem only_takeReply (p : Fin 2) (f : RxFrame) (h1 : .fixture ∈ l) (h2 : .mgmt ∈ l) :
    OnlyChanges l s (takeReply p f t) ↔ OnlyChanges l s t := by simp only [takeReply]; split <;> simp [h1, h2]

@[simp] theorem only_closeWithoutReply (p : Fin 2) (h1 : .fixture ∈ l) (h2 : .mgmt ∈ l) :
    OnlyChanges l s (closeWithoutReply p t) ↔ OnlyChanges l s t := by simp [closeWithoutReply, h1, h2]

@[simp] theorem only_passFrame (p : Fin 2) (q : Query) (f : RxFrame) (h1 : .fixture ∈ l) (h2 : .mgmt ∈ l) :
    OnlyChanges l s (passFrame p q f t) ↔ OnlyChanges l s t := by simp only [passFrame]; split <;> simp [h1, h2]

@[simp] theorem only_endRxFrame (p : Fin 2) (h1 : .fixture ∈ l) (h2 : .mgmt ∈ l) :
    OnlyChanges l s (endRxFrame p t) ↔ OnlyChanges l s t := by
  simp only [endRxFrame]
  repeat' split
  all_goals simp [h1, h2]

@[simp] theorem only_closeWindow (p : Fin 2) (h1 : .now ∈ l) (h2 : .fixture ∈ l) (h3 : .mgmt ∈ l) :
    OnlyChanges l s (closeWindow p t) ↔ OnlyChanges l s t := by
  simp only [closeWindow]
  repeat' split
  all_goals simp [h1, h2, h3]

@[simp] theorem only_drainFifo (p : Fin 2) (h1 : .fixture ∈ l) (h2 : .mgmt ∈ l) :
    OnlyChanges l s (drainFifo p t) ↔ OnlyChanges l s t := by simp [drainFifo, h1, h2]

end

/-! ### The lanes, the engine and the status commands -/

section
variable {l : List Block} {s t : State}

@[simp] theorem only_linkUp (h1 : .intake ∈ l) (h2 : .mgmt ∈ l) : OnlyChanges l s (linkUp t) ↔ OnlyChanges l s t := by
  unfold linkUp; split <;> simp [h1, h2]

@[simp] theorem only_linkDown (h1 : .intake ∈ l) (h2 : .mgmt ∈ l) :
    OnlyChanges l s (linkDown t) ↔ OnlyChanges l s t := by
  simp only [linkDown]
  repeat' split
  all_goals simp [h1, h2]

@[simp] theorem only_joinLane (payload : List Byte) (h1 : .lane ∈ l) (h2 : .intake ∈ l) (h3 : .mgmt ∈ l) :
    OnlyChanges l s (joinLane payload t) ↔ OnlyChanges l s t := by simp only [joinLane]; split <;> simp [h1, h2, h3]

@[simp] theorem only_writeLevelUnit (source : Fin 4) (payload : List Byte) (h1 : .intake ∈ l) (h2 : .merge ∈ l) :
    OnlyChanges l s (writeLevelUnit source payload t) ↔ OnlyChanges l s t := by
  simp only [writeLevelUnit]; split <;> simp [h1, h2]

@[simp] theorem only_fillSlot (payload : List Byte) (h1 : .slot ∈ l) (h2 : .intake ∈ l) :
    OnlyChanges l s (fillSlot payload t) ↔ OnlyChanges l s t := by simp [fillSlot, h1, h2]

@[simp] theorem only_sendReport (h1 : .mgmt ∈ l) (h2 : .sent ∈ l) :
    OnlyChanges l s (sendReport t) ↔ OnlyChanges l s t := by unfold sendReport; split <;> simp [h1, h2]

@[simp] theorem only_clearFlags (block mask : Nat)
    (h1 : .intake ∈ l) (h2 : .timing ∈ l) (h3 : .banks ∈ l) (h4 : .canvas ∈ l) (h5 : .ports ∈ l) (h6 : .merge ∈ l)
    (h7 : .fixture ∈ l) (h8 : .mgmt ∈ l) :
    OnlyChanges l s (clearFlags block mask t) ↔ OnlyChanges l s t := by
  unfold clearFlags; split <;> simp [h1, h2, h3, h4, h5, h6, h7, h8]

@[simp] theorem only_clearBlock (block : Nat)
    (h1 : .intake ∈ l) (h2 : .timing ∈ l) (h3 : .banks ∈ l) (h4 : .canvas ∈ l) (h5 : .ports ∈ l) (h6 : .limiter ∈ l)
    (h7 : .merge ∈ l) (h8 : .cue ∈ l) (h9 : .fixture ∈ l) (h10 : .mgmt ∈ l) :
    OnlyChanges l s (clearBlock block t) ↔ OnlyChanges l s t := by
  unfold clearBlock; split <;> simp [h1, h2, h3, h4, h5, h6, h7, h8, h9, h10]

@[simp] theorem only_flushLanes (h1 : .buffer ∈ l) (h2 : .slot ∈ l) :
    OnlyChanges l s (flushLanes t) ↔ OnlyChanges l s t := by simp [flushLanes, h1, h2]

@[simp] theorem only_flushSources (h1 : .merge ∈ l) : OnlyChanges l s (flushSources t) ↔ OnlyChanges l s t := by
  simp [flushSources, h1]

end

end Sys2Proof.Machine
end

section
/-! SUPPORT. Picture units, received units and boundaries: which blocks they can change. -/

namespace Sys2Proof.Machine

section
variable {l : List Block} {s t : State}

@[simp] theorem only_checkLine (u : PictureUnit) (r : FrameRecord) (h : .canvas ∈ l) :
    OnlyChanges l s (checkLine u r t).2 ↔ OnlyChanges l s t := by
  simp only [checkLine]
  repeat' split
  all_goals simp [h]

@[simp] theorem only_judgeUnit (u : PictureUnit) (h : .canvas ∈ l) :
    OnlyChanges l s (judgeUnit u t).2 ↔ OnlyChanges l s t := by
  unfold judgeUnit
  repeat' split
  all_goals simp [h]

@[simp] theorem only_trackUnit (u : PictureUnit) (h1 : .canvas ∈ l) (h2 : .buffer ∈ l)
    (h3 : .accumulation ∈ l) (h4 : .mgmt ∈ l) : OnlyChanges l s (trackUnit u t).2 ↔ OnlyChanges l s t := by
  unfold trackUnit; split <;> simp [h1, h2, h3, h4]

@[simp] theorem only_joinBuffer (u : PictureUnit) (h1 : .canvas ∈ l) (h2 : .buffer ∈ l)
    (h3 : .accumulation ∈ l) (h4 : .mgmt ∈ l) (h5 : .intake ∈ l) :
    OnlyChanges l s (joinBuffer u t) ↔ OnlyChanges l s t := by
  simp only [joinBuffer]; split <;> simp [h1, h2, h3, h4, h5]

@[simp] theorem only_enterLane (e : FilterEntry) (payload : List Byte) (h1 : .canvas ∈ l) (h2 : .lane ∈ l)
    (h3 : .buffer ∈ l) (h4 : .slot ∈ l) (h5 : .intake ∈ l) (h6 : .accumulation ∈ l) (h7 : .mgmt ∈ l) (h8 : .merge ∈ l) :
    OnlyChanges l s (enterLane e payload t) ↔ OnlyChanges l s t := by
  unfold enterLane; split <;> simp [h1, h2, h3, h4, h5, h6, h7, h8]

@[simp] theorem only_receiveUnit (tick : Nat) (payload : List Byte) (crc : BitVec 32) (h0 : .now ∈ l) (h1 : .canvas ∈ l)
    (h2 : .lane ∈ l) (h3 : .buffer ∈ l) (h4 : .slot ∈ l) (h5 : .intake ∈ l) (h6 : .accumulation ∈ l) (h7 : .mgmt ∈ l)
    (h8 : .merge ∈ l) :
    OnlyChanges l s (receiveUnit tick payload crc t) ↔ OnlyChanges l s t := by
  simp only [receiveUnit, completeUnit, classify]
  repeat' split
  all_goals simp [h0, h1, h2, h3, h4, h5, h6, h7, h8, countUnmatched, countFiltered, countClassLength, countCrcError,
    countNotAddressed]

end

/-! ### The parts of a boundary -/

section
variable (s : State)

theorem boundaryOpening_only :
    OnlyChanges [.now, .slot, .buffer, .timing, .mgmt, .canvas, .drive, .merge] s (boundaryOpening s) := by
  simp [boundaryOpening]

theorem takesAtBoundary_only (gp : Tab 4 Bool) (o : CommitOrder) :
    OnlyChanges [.cue, .banks, .mgmt] s (takesAtBoundary gp o s) := by simp [takesAtBoundary]

theorem boundaryLook_only (gp : Tab 4 Bool) (o : CommitOrder) :
    OnlyChanges [.cue, .banks, .mgmt, .merge] s (boundaryLook gp o s) := by simp [boundaryLook, takesAtBoundary]

theorem boundaryWall_only : OnlyChanges [.canvas, .mgmt, .ports, .sent, .limiter, .accumulation, .level] s (boundaryWall s) := by
  simp [boundaryWall]

theorem boundaryLight_only : OnlyChanges [.drive, .fixture, .level, .mgmt] s (boundaryLight s) := by
  simp [boundaryLight]

theorem boundaryContacts_only (gp : Tab 4 Bool) (o : CommitOrder) :
    OnlyChanges [.canvas, .buffer, .accumulation, .mgmt, .cue, .banks, .timing] s (boundaryContacts gp o s) := by
  simp [boundaryContacts]

end

end Sys2Proof.Machine
end

section
/-! SUPPORT. What each command does to the state once the engine runs it, which blocks it can change, and how to show that
every step keeps a property. -/

namespace Sys2Proof.Machine

/-- What a command does: a management command without the engine's test of room and without its settling of the stall. -/
def run : Instr → State → State
  | .powerOnReset gp => powerOnReset gp
  | .lineReset gp => lineReset gp
  | .linkUp => linkUp
  | .linkDown => linkDown
  | .huntByte b => fun s => s.setIntake (huntByte b s.intake)
  | .headerReceived streamId address length => fun s => s.setIntake (readHeader streamId address length s.intake)
  | .unitReceived t payload crc => receiveUnit t payload crc
  | .managementUnitStart t => startUnit t
  | .reportTransmitted => sendReport
  | .setIdentity tag address label => doSetIdentity tag address label
  | .setFilter tag index value mask cls source => doSetFilter tag index value mask cls source
  | .setFiltersInUse tag count => doSetFiltersInUse tag count
  | .setReference tag code => doSetReference tag code
  | .setInternalRate tag ticks => doSetInternalRate tag ticks
  | .setPhaseOffset tag ticks => doSetPhaseOffset tag ticks
  | .setPwmGrid tag k => doSetPwmGrid tag k
  | .setContactFunction tag input function => doSetContactFunction tag input function
  | .writeTileEntries tag start count elements => doWriteTileEntries tag start count elements
  | .writeChainLengths tag start count elements => doWriteChainLengths tag start count elements
  | .writeRingFlags tag flags => doWriteRingFlags tag flags
  | .writeCanvasSize tag width height => doWriteCanvasSize tag width height
  | .writeWallCurve tag start count elements => doWriteWallCurve tag start count elements
  | .writeLightCurve tag start count elements => doWriteLightCurve tag start count elements
  | .writePatch tag start count elements => doWritePatch tag start count elements
  | .writeSlotCounts tag start count elements => doWriteSlotCounts tag start count elements
  | .readTable tag bank table start count => doReadTable tag bank table start count
  | .clone tag => doClone tag
  | .cloneComplete => finishClone
  | .take tag request frame => doTake tag request frame
  | .validationEnd => endValidation
  | .cancelTake tag => doCancelTake tag
  | .hold tag scope => doHold tag scope
  | .release tag scope => doRelease tag scope
  | .chainRetrain tag port => doChainRetrain tag port
  | .chainDisable tag port => doChainDisable tag port
  | .chainEnable tag port => doChainEnable tag port
  | .setChainBudget tag chain budget step => doSetChainBudget tag chain budget step
  | .setSourcePriority tag source priority => doSetSourcePriority tag source priority
  | .setSourceTimeout tag source timeout => doSetSourceTimeout tag source timeout
  | .writeCue tag number up down delay follow link pairs => doWriteCue tag number up down delay follow link pairs
  | .deleteCue tag number => doDeleteCue tag number
  | .readCue tag number => doReadCue tag number
  | .go tag => doGo tag
  | .goTo tag number => doGoTo tag number
  | .back tag => doBack tag
  | .halt tag => doHalt tag
  | .resume tag => doResume tag
  | .clearPlayback tag => doClearPlayback tag
  | .setPwmOutput tag output alignment polarity phase pair => doSetPwmOutput tag output alignment polarity phase pair
  | .setFixturePort t tag port enable rate divisor => doSetFixturePort t tag port enable rate divisor
  | .queryFixture t tag port address kind => doQueryFixture t tag port address kind
  | .setEventMask tag mask => doSetEventMask tag mask
  | .queryStatus t tag block => doQueryStatus t tag block
  | .clearStatus tag block mask => doClearStatus tag block mask
  | .clearCounters tag block => doClearCounters tag block
  | .flushInputs tag => doFlushInputs tag
  | .frameBoundary gp order => frameBoundary gp order
  | .sourceSilenceTimeout k => fun s => if silenceIsOver (s.source k) then s.setSource k (goSilent (s.source k)) else s
  | .fadeStart => fun s => if fadeStartDue s.cue then startFade s else s
  | .fadeComplete => testCompletion
  | .followGo => testFollow
  | .autoHoldSet => fun s => if autoHoldDue s.canvas then setAutoHold s else s
  | .trainingTimeout p => fun s => if trainingIsOver (s.port p) then failTraining p s else s
  | .recoveryFailure p => fun s => if recoveryIsOver (s.port p) then failRecovery p s else s
  | .holdoffEnd p => fun s => if holdoffIsOver (s.port p) then endHoldoff p s else s
  | .periodicCensus p => fun s => if censusIsDue (s.port p) then censusBoundary p s else s
  | .fixtureRefresh p => fun s => if refreshDue (s.fixturePort p) then refreshLatch p s else s
  | .holdoverEnd => fun s => if holdoverIsOver s.timing then changeTiming (endHoldover s.timing) s else s
  | .marksAcquisitionTimeout => fun s =>
    if marksAcquisitionOver s.timing then changeTiming (timeOutAcquisition s.timing) s else s
  | .marksReferenceLost => fun s =>
    if marksReferenceOver s.timing then changeTiming (enterHoldover s.timing) s else s
  | .genlockPulse tick => fun s => changeTiming (pulseTiming tick s.timing) (advanceTo tick s)
  | .acquisitionTimeout => fun s =>
    match s.timing.lastPulse with
    | none => s
    | some tick =>
      if s.timing.reference = .genlock ∧ s.timing.lock = .acquiring then
        changeTiming (timeOutAcquisition s.timing) (advanceTo (tick + Config.acquisitionTicks) s)
      else s
  | .referenceLost => fun s =>
    match s.timing.lastPulse with
    | none => s
    | some tick =>
      if s.timing.reference = .genlock ∧ s.timing.lock = .locked then
        changeTiming (enterHoldover s.timing) (advanceTo (tick + 3 * s.timing.period / 2) s)
      else s
  | .mappingUnitTake => takeUnit
  | .mappingUnitEnd => finishUnit
  | .partnerPresent p => fun s => tryTraining p .partnerPresent (s.setPort p { s.port p with partner := true })
  | .partnerLost p => losePartner p
  | .trainingComplete p exchange => fun s =>
    receiveReturn p (.trainingComplete exchange.width) (advanceTo exchange.tick s)
  | .censusAnswer p hop => receiveReturn p (.censusAnswer hop)
  | .censusWindowEnd p => endWindow p
  | .symbolError p errors => receiveReturn p (.symbolErrors errors)
  | .shifterFrameEnd p => endShifterFrame p
  | .fixtureCharacter p data parity line => receiveCharacter p data parity line
  | .fixtureFrameEnd p => endRxFrame p
  | .replyWindowClose p => closeWindow p

/-- A management command runs where the engine has room, and the engine is then settled; every other command runs (R174). -/
theorem exec_eq (c : Instr) (s : State) :
    exec c s = if isManagement c then engineRuns (run c) s else .next (run c s) := by
  cases c <;> rfl

/-- The blocks that a command can change, apart from the start of a management unit, which can be any management command. -/
def touches : Instr → List Block
  | .powerOnReset _ | .lineReset _ =>
    [.now, .lane, .buffer, .slot, .intake, .timing, .banks, .level, .canvas, .ports, .limiter, .accumulation, .merge, .cue, .drive,
      .fixture, .mgmt, .sent]
  | .linkUp | .linkDown => [.intake, .mgmt]
  | .huntByte _ | .headerReceived _ _ _ => [.intake]
  | .unitReceived _ _ _ => [.now, .canvas, .lane, .buffer, .slot, .intake, .accumulation, .mgmt, .merge]
  | .managementUnitStart _ =>
    [.now, .lane, .buffer, .slot, .intake, .timing, .banks, .level, .canvas, .ports, .limiter, .accumulation, .merge, .cue, .drive,
      .fixture, .mgmt, .sent, .draws]
  | .reportTransmitted => [.mgmt, .sent]
  | .setIdentity _ _ _ | .setFilter _ _ _ _ _ _ | .setFiltersInUse _ _ => [.intake, .mgmt]
  | .setReference _ _ | .setInternalRate _ _ | .setPhaseOffset _ _ | .setPwmGrid _ _ | .setContactFunction _ _ _ =>
    [.timing, .mgmt]
  | .writeTileEntries _ _ _ _ | .writeChainLengths _ _ _ _ | .writeRingFlags _ _ | .writeCanvasSize _ _ _
  | .writeWallCurve _ _ _ _ | .writeLightCurve _ _ _ _ | .writePatch _ _ _ _ | .writeSlotCounts _ _ _ _ => [.banks, .mgmt]
  | .readTable _ _ _ _ _ | .readCue _ _ | .setEventMask _ _ => [.mgmt]
  | .clone _ | .cloneComplete | .take _ _ _ | .validationEnd | .cancelTake _ => [.banks, .mgmt]
  | .hold _ _ => [.canvas, .buffer, .accumulation, .mgmt]
  | .release _ _ => [.canvas, .mgmt]
  | .chainRetrain _ _ => [.ports, .mgmt, .sent, .draws]
  | .chainDisable _ _ => [.ports, .mgmt]
  | .chainEnable _ _ => [.ports, .mgmt, .sent]
  | .setChainBudget _ _ _ _ => [.limiter, .ports, .mgmt]
  | .setSourcePriority _ _ _ | .setSourceTimeout _ _ _ => [.merge, .mgmt]
  | .writeCue _ _ _ _ _ _ _ _ | .deleteCue _ _ | .halt _ | .resume _ | .clearPlayback _ => [.cue, .mgmt]
  | .go _ | .goTo _ _ | .back _ | .followGo => [.cue, .banks, .mgmt]
  | .fadeStart | .fadeComplete => [.cue, .mgmt]
  | .setPwmOutput _ _ _ _ _ _ => [.drive, .mgmt]
  | .setFixturePort _ _ _ _ _ _ => [.now, .fixture, .mgmt, .sent]
  | .queryFixture _ _ _ _ _ => [.now, .fixture, .mgmt]
  | .queryStatus _ _ _ => [.now, .mgmt]
  | .clearStatus _ _ _ => [.intake, .timing, .banks, .canvas, .ports, .merge, .fixture, .mgmt]
  | .clearCounters _ _ => [.intake, .timing, .banks, .canvas, .ports, .limiter, .merge, .cue, .fixture, .mgmt]
  | .flushInputs _ => [.canvas, .buffer, .slot, .accumulation, .merge, .mgmt]
  | .frameBoundary _ _ =>
    [.now, .slot, .buffer, .timing, .banks, .level, .canvas, .ports, .limiter, .accumulation, .merge, .cue, .drive, .fixture,
      .mgmt, .sent]
  | .sourceSilenceTimeout _ => [.merge]
  | .autoHoldSet => [.canvas, .mgmt]
  | .trainingTimeout _ => [.ports, .mgmt]
  | .recoveryFailure _ | .holdoffEnd _ | .partnerPresent _ => [.ports, .mgmt, .sent]
  | .periodicCensus _ => [.ports, .sent]
  | .fixtureRefresh _ | .fixtureCharacter _ _ _ _ => [.fixture]
  | .holdoverEnd | .marksAcquisitionTimeout | .marksReferenceLost => [.timing, .mgmt]
  | .genlockPulse _ | .acquisitionTimeout | .referenceLost => [.now, .timing, .mgmt]
  | .mappingUnitTake => [.buffer, .canvas, .ports, .accumulation, .draws]
  | .mappingUnitEnd => [.now, .canvas, .ports, .accumulation]
  | .partnerLost _ | .censusAnswer _ _ | .symbolError _ _ => [.ports, .mgmt, .sent, .draws]
  | .trainingComplete _ _ => [.now, .ports, .mgmt, .sent, .draws]
  | .censusWindowEnd _ => [.now, .ports, .mgmt, .sent]
  | .shifterFrameEnd _ => [.now, .fixture, .sent]
  | .fixtureFrameEnd _ => [.fixture, .mgmt]
  | .replyWindowClose _ => [.now, .fixture, .mgmt]

/-! ### The management commands -/

section
variable {l : List Block} {s t : State}

@[simp] theorem only_doSetIdentity (tag : Byte) (address : Nat) (label : List Byte) (h1 : .intake ∈ l)
    (h2 : .mgmt ∈ l) :
    OnlyChanges l s (doSetIdentity tag address label t) ↔ OnlyChanges l s t := by
  simp only [doSetIdentity]
  repeat' split
  all_goals simp [h1, h2]

@[simp] theorem only_doSetFilter (tag : Byte) (index value mask cls source : Nat) (h1 : .intake ∈ l)
    (h2 : .mgmt ∈ l) :
    OnlyChanges l s (doSetFilter tag index value mask cls source t) ↔ OnlyChanges l s t := by
  simp only [doSetFilter]
  repeat' split
  all_goals simp [h1, h2]

@[simp] theorem only_doSetFiltersInUse (tag : Byte) (count : Nat) (h1 : .intake ∈ l) (h2 : .mgmt ∈ l) :
    OnlyChanges l s (doSetFiltersInUse tag count t) ↔ OnlyChanges l s t := by
  unfold doSetFiltersInUse; split <;> simp [h1, h2]

@[simp] theorem only_doSetReference (tag : Byte) (code : Nat) (h1 : .timing ∈ l) (h2 : .mgmt ∈ l) :
    OnlyChanges l s (doSetReference tag code t) ↔ OnlyChanges l s t := by
  unfold doSetReference; split <;> simp [h1, h2]

@[simp] theorem only_doSetInternalRate (tag : Byte) (ticks : Nat) (h1 : .timing ∈ l) (h2 : .mgmt ∈ l) :
    OnlyChanges l s (doSetInternalRate tag ticks t) ↔ OnlyChanges l s t := by simp [doSetInternalRate, h1, h2]

@[simp] theorem only_doSetPhaseOffset (tag : Byte) (ticks : Nat) (h1 : .timing ∈ l) (h2 : .mgmt ∈ l) :
    OnlyChanges l s (doSetPhaseOffset tag ticks t) ↔ OnlyChanges l s t := by simp [doSetPhaseOffset, h1, h2]

@[simp] theorem only_doSetPwmGrid (tag : Byte) (k : Nat) (h1 : .timing ∈ l) (h2 : .mgmt ∈ l) :
    OnlyChanges l s (doSetPwmGrid tag k t) ↔ OnlyChanges l s t := by simp [doSetPwmGrid, h1, h2]

@[simp] theorem only_doSetContactFunction (tag : Byte) (input function : Nat) (h1 : .timing ∈ l) (h2 : .mgmt ∈ l) :
    OnlyChanges l s (doSetContactFunction tag input function t) ↔ OnlyChanges l s t := by
  unfold doSetContactFunction; split <;> simp [h1, h2]

@[simp] theorem only_doWriteTileEntries (tag : Byte) (start count : Nat) (elements : List Byte) (h1 : .banks ∈ l)
    (h2 : .mgmt ∈ l) :
    OnlyChanges l s (doWriteTileEntries tag start count elements t) ↔ OnlyChanges l s t := by
  simp [doWriteTileEntries, h1, h2]

@[simp] theorem only_doWriteChainLengths (tag : Byte) (start count : Nat) (elements : List Byte)
    (h1 : .banks ∈ l) (h2 : .mgmt ∈ l) :
    OnlyChanges l s (doWriteChainLengths tag start count elements t) ↔ OnlyChanges l s t := by
  simp [doWriteChainLengths, h1, h2]

@[simp] theorem only_doWriteRingFlags (tag : Byte) (flags : Nat) (h1 : .banks ∈ l) (h2 : .mgmt ∈ l) :
    OnlyChanges l s (doWriteRingFlags tag flags t) ↔ OnlyChanges l s t := by simp [doWriteRingFlags, h1, h2]

@[simp] theorem only_doWriteCanvasSize (tag : Byte) (width height : Nat) (h1 : .banks ∈ l) (h2 : .mgmt ∈ l) :
    OnlyChanges l s (doWriteCanvasSize tag width height t) ↔ OnlyChanges l s t := by
  simp [doWriteCanvasSize, h1, h2]

@[simp] theorem only_doWriteWallCurve (tag : Byte) (start count : Nat) (elements : List Byte) (h1 : .banks ∈ l)
    (h2 : .mgmt ∈ l) :
    OnlyChanges l s (doWriteWallCurve tag start count elements t) ↔ OnlyChanges l s t := by
  simp [doWriteWallCurve, h1, h2]

@[simp] theorem only_doWriteLightCurve (tag : Byte) (start count : Nat) (elements : List Byte) (h1 : .banks ∈ l)
    (h2 : .mgmt ∈ l) :
    OnlyChanges l s (doWriteLightCurve tag start count elements t) ↔ OnlyChanges l s t := by
  simp [doWriteLightCurve, h1, h2]

@[simp] theorem only_doWritePatch (tag : Byte) (start count : Nat) (elements : List Byte) (h1 : .banks ∈ l)
    (h2 : .mgmt ∈ l) :
    OnlyChanges l s (doWritePatch tag start count elements t) ↔ OnlyChanges l s t := by
  simp [doWritePatch, h1, h2]

@[simp] theorem only_doWriteSlotCounts (tag : Byte) (start count : Nat) (elements : List Byte) (h1 : .banks ∈ l)
    (h2 : .mgmt ∈ l) :
    OnlyChanges l s (doWriteSlotCounts tag start count elements t) ↔ OnlyChanges l s t := by
  simp [doWriteSlotCounts, h1, h2]

@[simp] theorem only_doReadTable (tag : Byte) (bank table start count : Nat) (h1 : .mgmt ∈ l) :
    OnlyChanges l s (doReadTable tag bank table start count t) ↔ OnlyChanges l s t := by
  simp only [doReadTable]
  repeat' split
  all_goals simp [h1]

@[simp] theorem only_doClone (tag : Byte) (h1 : .banks ∈ l) (h2 : .mgmt ∈ l) :
    OnlyChanges l s (doClone tag t) ↔ OnlyChanges l s t := by
  simp only [doClone]
  repeat' split
  all_goals simp [h1, h2]

@[simp] theorem only_doTake (tag : Byte) (request frame : Nat) (h1 : .banks ∈ l) (h2 : .mgmt ∈ l) :
    OnlyChanges l s (doTake tag request frame t) ↔ OnlyChanges l s t := by
  simp only [doTake]
  repeat' split
  all_goals simp [h1, h2]

@[simp] theorem only_doCancelTake (tag : Byte) (h1 : .banks ∈ l) (h2 : .mgmt ∈ l) :
    OnlyChanges l s (doCancelTake tag t) ↔ OnlyChanges l s t := by unfold doCancelTake; split <;> simp [h1, h2]

@[simp] theorem only_doHold (tag : Byte) (scope : Nat) (h1 : .canvas ∈ l) (h2 : .buffer ∈ l)
    (h3 : .accumulation ∈ l) (h4 : .mgmt ∈ l) :
    OnlyChanges l s (doHold tag scope t) ↔ OnlyChanges l s t := by
  simp only [doHold]
  repeat' split
  all_goals simp [h1, h2, h3, h4]

@[simp] theorem only_doRelease (tag : Byte) (scope : Nat) (h1 : .canvas ∈ l) (h2 : .mgmt ∈ l) :
    OnlyChanges l s (doRelease tag scope t) ↔ OnlyChanges l s t := by
  simp only [doRelease]
  repeat' split
  all_goals simp [h1, h2]

@[simp] theorem only_doChainRetrain (tag : Byte) (port : Nat) (h1 : .ports ∈ l) (h2 : .mgmt ∈ l) (h3 : .sent ∈ l)
    (h4 : .draws ∈ l) :
    OnlyChanges l s (doChainRetrain tag port t) ↔ OnlyChanges l s t := by
  unfold doChainRetrain; split <;> simp [h1, h2, h3, h4]

@[simp] theorem only_doChainDisable (tag : Byte) (port : Nat) (h1 : .ports ∈ l) (h2 : .mgmt ∈ l) :
    OnlyChanges l s (doChainDisable tag port t) ↔ OnlyChanges l s t := by
  unfold doChainDisable; split <;> simp [h1, h2]

@[simp] theorem only_doChainEnable (tag : Byte) (port : Nat) (h1 : .ports ∈ l) (h2 : .mgmt ∈ l) (h3 : .sent ∈ l) :
    OnlyChanges l s (doChainEnable tag port t) ↔ OnlyChanges l s t := by
  unfold doChainEnable; split <;> simp [h1, h2, h3]

@[simp] theorem only_doSetChainBudget (tag : Byte) (chain budget step : Nat) (h1 : .limiter ∈ l)
    (h2 : .ports ∈ l) (h3 : .mgmt ∈ l) :
    OnlyChanges l s (doSetChainBudget tag chain budget step t) ↔ OnlyChanges l s t := by
  unfold doSetChainBudget; split <;> simp [h1, h2, h3]

@[simp] theorem only_doSetSourcePriority (tag : Byte) (source priority : Nat) (h1 : .merge ∈ l) (h2 : .mgmt ∈ l) :
    OnlyChanges l s (doSetSourcePriority tag source priority t) ↔ OnlyChanges l s t := by
  unfold doSetSourcePriority; split <;> simp [h1, h2]

@[simp] theorem only_doSetSourceTimeout (tag : Byte) (source timeout : Nat) (h1 : .merge ∈ l) (h2 : .mgmt ∈ l) :
    OnlyChanges l s (doSetSourceTimeout tag source timeout t) ↔ OnlyChanges l s t := by
  simp only [doSetSourceTimeout]
  repeat' split
  all_goals simp [h1, h2]

@[simp] theorem only_doWriteCue (tag : Byte) (number up down delay : Nat) (follow : Option Nat) (link : Bool)
    (pairs : List (Nat × Nat)) (h1 : .cue ∈ l) (h2 : .mgmt ∈ l) :
    OnlyChanges l s (doWriteCue tag number up down delay follow link pairs t) ↔ OnlyChanges l s t := by
  simp only [doWriteCue]
  repeat' split
  all_goals simp [h1, h2]

@[simp] theorem only_doDeleteCue (tag : Byte) (number : Nat) (h1 : .cue ∈ l) (h2 : .mgmt ∈ l) :
    OnlyChanges l s (doDeleteCue tag number t) ↔ OnlyChanges l s t := by
  simp only [doDeleteCue]
  repeat' split
  all_goals simp [h1, h2]

@[simp] theorem only_doReadCue (tag : Byte) (number : Nat) (h1 : .mgmt ∈ l) :
    OnlyChanges l s (doReadCue tag number t) ↔ OnlyChanges l s t := by
  simp only [doReadCue]
  repeat' split
  all_goals simp [h1]

@[simp] theorem only_doGo (tag : Byte) (h1 : .cue ∈ l) (h2 : .banks ∈ l) (h3 : .mgmt ∈ l) :
    OnlyChanges l s (doGo tag t) ↔ OnlyChanges l s t := by simp [doGo, h1, h2, h3]

@[simp] theorem only_doGoTo (tag : Byte) (number : Nat) (h1 : .cue ∈ l) (h2 : .banks ∈ l) (h3 : .mgmt ∈ l) :
    OnlyChanges l s (doGoTo tag number t) ↔ OnlyChanges l s t := by simp [doGoTo, h1, h2, h3]

@[simp] theorem only_doBack (tag : Byte) (h1 : .cue ∈ l) (h2 : .banks ∈ l) (h3 : .mgmt ∈ l) :
    OnlyChanges l s (doBack tag t) ↔ OnlyChanges l s t := by simp [doBack, h1, h2, h3]

@[simp] theorem only_doHalt (tag : Byte) (h1 : .cue ∈ l) (h2 : .mgmt ∈ l) :
    OnlyChanges l s (doHalt tag t) ↔ OnlyChanges l s t := by
  simp only [doHalt]
  repeat' split
  all_goals simp [h1, h2]

@[simp] theorem only_doResume (tag : Byte) (h1 : .cue ∈ l) (h2 : .mgmt ∈ l) :
    OnlyChanges l s (doResume tag t) ↔ OnlyChanges l s t := by unfold doResume; split <;> simp [h1, h2]

@[simp] theorem only_doClearPlayback (tag : Byte) (h1 : .cue ∈ l) (h2 : .mgmt ∈ l) :
    OnlyChanges l s (doClearPlayback tag t) ↔ OnlyChanges l s t := by
  unfold doClearPlayback; split <;> simp [h1, h2]

@[simp] theorem only_doSetPwmOutput (tag : Byte) (output alignment polarity phase : Nat) (pair : Bool)
    (h1 : .drive ∈ l) (h2 : .mgmt ∈ l) :
    OnlyChanges l s (doSetPwmOutput tag output alignment polarity phase pair t) ↔ OnlyChanges l s t := by
  simp only [doSetPwmOutput]
  repeat' split
  all_goals simp [h1, h2]

@[simp] theorem only_doSetFixturePort (tick : Nat) (tag : Byte) (port : Nat) (enable : Bool) (rate divisor : Nat)
    (h1 : .now ∈ l) (h2 : .fixture ∈ l) (h3 : .mgmt ∈ l) (h4 : .sent ∈ l) :
    OnlyChanges l s (doSetFixturePort tick tag port enable rate divisor t) ↔ OnlyChanges l s t := by
  simp only [doSetFixturePort]
  repeat' split
  all_goals simp [h1, h2, h3, h4]

@[simp] theorem only_doQueryFixture (tick : Nat) (tag : Byte) (port address kind : Nat) (h1 : .now ∈ l)
    (h2 : .fixture ∈ l) (h3 : .mgmt ∈ l) :
    OnlyChanges l s (doQueryFixture tick tag port address kind t) ↔ OnlyChanges l s t := by
  simp only [doQueryFixture]
  repeat' split
  all_goals simp [h1, h2, h3]

@[simp] theorem only_doSetEventMask (tag : Byte) (mask : Nat) (h1 : .mgmt ∈ l) :
    OnlyChanges l s (doSetEventMask tag mask t) ↔ OnlyChanges l s t := by
  unfold doSetEventMask; split <;> simp [h1]

@[simp] theorem only_doQueryStatus (tick : Nat) (tag : Byte) (block : Nat) (h1 : .now ∈ l) (h2 : .mgmt ∈ l) :
    OnlyChanges l s (doQueryStatus tick tag block t) ↔ OnlyChanges l s t := by
  unfold doQueryStatus; split <;> simp [h1, h2]

@[simp] theorem only_doClearStatus (tag : Byte) (block mask : Nat) (h1 : .intake ∈ l) (h2 : .timing ∈ l)
    (h3 : .banks ∈ l) (h4 : .canvas ∈ l) (h5 : .ports ∈ l) (h6 : .merge ∈ l) (h7 : .fixture ∈ l) (h8 : .mgmt ∈ l) :
    OnlyChanges l s (doClearStatus tag block mask t) ↔ OnlyChanges l s t := by
  unfold doClearStatus; split <;> simp [h1, h2, h3, h4, h5, h6, h7, h8]

@[simp] theorem only_doClearCounters (tag : Byte) (block : Nat) (h1 : .intake ∈ l) (h2 : .timing ∈ l)
    (h3 : .banks ∈ l) (h4 : .canvas ∈ l) (h5 : .ports ∈ l) (h6 : .limiter ∈ l) (h7 : .merge ∈ l) (h8 : .cue ∈ l)
    (h9 : .fixture ∈ l) (h10 : .mgmt ∈ l) :
    OnlyChanges l s (doClearCounters tag block t) ↔ OnlyChanges l s t := by
  unfold doClearCounters; split <;> simp [h1, h2, h3, h4, h5, h6, h7, h8, h9, h10]

@[simp] theorem only_doFlushInputs (tag : Byte) (h1 : .canvas ∈ l) (h2 : .buffer ∈ l) (h3 : .slot ∈ l)
    (h4 : .accumulation ∈ l) (h5 : .merge ∈ l) (h6 : .mgmt ∈ l) :
    OnlyChanges l s (doFlushInputs tag t) ↔ OnlyChanges l s t := by simp [doFlushInputs, h1, h2, h3, h4, h5, h6]

end

/-! ### The resets, and every command -/

theorem defaults_only (gp : Tab 4 Bool) (s : State) :
    OnlyChanges (touches (.powerOnReset gp)) s (defaults gp s) := fun b hb => by
  cases b <;> simp [touches, Block.Kept, defaults] at hb ⊢

theorem trainPresent_only (s : State) : OnlyChanges [.ports, .mgmt, .sent] s (trainPresent s) := by simp

theorem powerOnReset_only (gp : Tab 4 Bool) (s : State) :
    OnlyChanges (touches (.powerOnReset gp)) s (powerOnReset gp s) := by
  simp [powerOnReset, touches]
  exact defaults_only gp s

theorem lineReset_only (gp : Tab 4 Bool) (s : State) :
    OnlyChanges (touches (.lineReset gp)) s (lineReset gp s) := by
  simp [lineReset, touches]
  exact defaults_only gp s

theorem huntByte_lanes (b : Byte) (x : Intake) :
    (huntByte b x).lane = x.lane ∧ (huntByte b x).buffer = x.buffer ∧ (huntByte b x).slot = x.slot := by
  simp only [huntByte, hunt, skipBytes]
  repeat' split
  all_goals exact ⟨rfl, rfl, rfl⟩

theorem readHeader_lanes (streamId address length : Nat) (x : Intake) :
    (readHeader streamId address length x).lane = x.lane ∧ (readHeader streamId address length x).buffer = x.buffer ∧
      (readHeader streamId address length x).slot = x.slot := by
  unfold readHeader
  repeat' split
  all_goals exact ⟨rfl, rfl, rfl⟩

/-- Each command changes the blocks it touches, and no other (rows of spec/opcode_table.json). -/
theorem run_only (c : Instr) (hc : ∀ tick, c ≠ .managementUnitStart tick) (s : State) :
    OnlyChanges (touches c) s (run c s) := by
  cases c with
  | powerOnReset gp => exact powerOnReset_only gp s
  | lineReset gp => exact lineReset_only gp s
  | managementUnitStart tick => exact absurd rfl (hc tick)
  | huntByte b => simp [run, touches, huntByte_lanes]
  | headerReceived streamId address length => simp [run, touches, readHeader_lanes]
  | frameBoundary gp o =>
    simp [run, frameBoundary, boundaryContacts, boundaryLight, boundaryWall, boundaryLook, takesAtBoundary, boundaryOpening,
      touches]
  | _ =>
    simp only [run]
    repeat' split
    all_goals simp [touches]

end Sys2Proof.Machine
end

section
/-! SUPPORT. How every step keeps a property: the commands on their own, the start of a management unit, and the properties
that read some blocks alone. -/

namespace Sys2Proof.Machine

/-! ### The start of a management unit -/

/-- What a unit started at that tick does: it is malformed, or it does what a management command of the tick does (R175). -/
def RunsCommand (tick : Nat) (u : MgmtUnit) (s t : State) : Prop :=
  t = malformed u.tag u.code s ∨ ∃ c, (managementBody tick c).isSome = true ∧ t = run c s

theorem isManagement_of_body {tick : Nat} {c : Instr} (h : (managementBody tick c).isSome = true) : isManagement c = true := by
  cases c <;> simp_all [managementBody, isManagement]

theorem runsCommand_fixedBody {tick n : Nat} {u : MgmtUnit} {s : State} (c : Instr) (hc : (managementBody tick c).isSome = true) :
    RunsCommand tick u s (fixedBody n u (run c) s) := by
  unfold fixedBody
  split
  · exact .inr ⟨c, hc, rfl⟩
  · exact .inl rfl

theorem runsCommand_tableBody {tick : Nat} {u : MgmtUnit} {s : State} {f : Nat → Nat → List Byte → State → State}
    (c : Nat → Nat → List Byte → Instr) (hc : ∀ start count elements, (managementBody tick (c start count elements)).isSome = true)
    (hf : ∀ start count elements, f start count elements = run (c start count elements)) :
    RunsCommand tick u s (tableBody u f s) := by
  unfold tableBody
  split
  · exact .inr ⟨_, hc _ _ _, by rw [hf]⟩
  · exact .inl rfl

theorem runsCommand_cueBody (tick : Nat) (u : MgmtUnit) (s : State) : RunsCommand tick u s (cueBody u s) := by
  simp only [cueBody]
  split
  · exact .inr ⟨.writeCue _ _ _ _ _ _ _ _, rfl, rfl⟩
  · exact .inl rfl

theorem runsCommand_runUnit (tick : Nat) (u : MgmtUnit) (s : State) : RunsCommand tick u s (runUnit tick u s) := by
  simp only [runUnit]
  split
  · exact runsCommand_fixedBody (.setIdentity _ _ _) rfl
  · exact runsCommand_fixedBody (.setFilter _ _ _ _ _ _) rfl
  · exact runsCommand_fixedBody (.setFiltersInUse _ _) rfl
  · exact runsCommand_fixedBody (.setReference _ _) rfl
  · exact runsCommand_fixedBody (.setInternalRate _ _) rfl
  · exact runsCommand_fixedBody (.setPhaseOffset _ _) rfl
  · exact runsCommand_fixedBody (.setPwmGrid _ _) rfl
  · exact runsCommand_fixedBody (.setContactFunction _ _ _) rfl
  · exact runsCommand_tableBody (.writeTileEntries u.tag) (fun _ _ _ => rfl) fun _ _ _ => rfl
  · exact runsCommand_tableBody (.writeChainLengths u.tag) (fun _ _ _ => rfl) fun _ _ _ => rfl
  · exact runsCommand_fixedBody (.writeRingFlags _ _) rfl
  · exact runsCommand_fixedBody (.writeCanvasSize _ _ _) rfl
  · exact runsCommand_tableBody (.writeWallCurve u.tag) (fun _ _ _ => rfl) fun _ _ _ => rfl
  · exact runsCommand_tableBody (.writeLightCurve u.tag) (fun _ _ _ => rfl) fun _ _ _ => rfl
  · exact runsCommand_tableBody (.writePatch u.tag) (fun _ _ _ => rfl) fun _ _ _ => rfl
  · exact runsCommand_tableBody (.writeSlotCounts u.tag) (fun _ _ _ => rfl) fun _ _ _ => rfl
  · exact runsCommand_fixedBody (.readTable _ _ _ _ _) rfl
  · exact runsCommand_fixedBody (.clone _) rfl
  · exact runsCommand_fixedBody (.take _ _ _) rfl
  · exact runsCommand_fixedBody (.cancelTake _) rfl
  · exact runsCommand_fixedBody (.hold _ _) rfl
  · exact runsCommand_fixedBody (.release _ _) rfl
  · exact runsCommand_fixedBody (.chainRetrain _ _) rfl
  · exact runsCommand_fixedBody (.chainDisable _ _) rfl
  · exact runsCommand_fixedBody (.chainEnable _ _) rfl
  · exact runsCommand_fixedBody (.setChainBudget _ _ _ _) rfl
  · exact runsCommand_fixedBody (.setSourcePriority _ _ _) rfl
  · exact runsCommand_fixedBody (.setSourceTimeout _ _ _) rfl
  · exact runsCommand_cueBody tick u s
  · exact runsCommand_fixedBody (.deleteCue _ _) rfl
  · exact runsCommand_fixedBody (.readCue _ _) rfl
  · exact runsCommand_fixedBody (.go _) rfl
  · exact runsCommand_fixedBody (.goTo _ _) rfl
  · exact runsCommand_fixedBody (.back _) rfl
  · exact runsCommand_fixedBody (.halt _) rfl
  · exact runsCommand_fixedBody (.resume _) rfl
  · exact runsCommand_fixedBody (.clearPlayback _) rfl
  · exact runsCommand_fixedBody (.setPwmOutput _ _ _ _ _ _) rfl
  · exact runsCommand_fixedBody (.setFixturePort _ _ _ _ _ _) (by simp [managementBody])
  · exact runsCommand_fixedBody (.queryFixture _ _ _ _ _) (by simp [managementBody])
  · exact runsCommand_fixedBody (.setEventMask _ _) rfl
  · exact runsCommand_fixedBody (.queryStatus _ _ _) (by simp [managementBody])
  · exact runsCommand_fixedBody (.clearStatus _ _ _) rfl
  · exact runsCommand_fixedBody (.clearCounters _ _) rfl
  · exact runsCommand_fixedBody (.flushInputs _) rfl
  · exact .inl rfl

/-! ### Every step -/

theorem ne_managementUnitStart {c : Instr} (h : isManagement c = true) (tick : Nat) : c ≠ .managementUnitStart tick := by
  rintro rfl; simp [isManagement] at h

/-- What `step` does: nothing, or the front command on the state with the rest of the queue. -/
theorem step_eq_next {s t : State} (h : step s = .next t) : t = s ∨ ∃ c rest, exec c (s.setPending rest) = .next t := by
  unfold step at h
  split at h
  · exact .inl (Host.Outcome.next.inj h).symm
  · exact .inr ⟨_, _, h⟩

/-- A property that every command keeps, and each part of the start of a management unit, is kept by every step. -/
theorem step_keeps {P : State → Prop} (pending : ∀ s l, P s → P (s.setPending l)) (settle : ∀ s, P s → P (settleEngine s))
    (tick : ∀ s n, P s → P (advanceTo n s)) (wrong : ∀ s tag code, P s → P (malformed tag code s))
    (taken : ∀ s u rest, s.intake.lane = u :: rest → P s → P (s.setIntake { s.intake with lane := rest }))
    (command : ∀ c s, (∀ n, c ≠ .managementUnitStart n) → P s → P (run c s))
    {s t : State} (h : step s = .next t) (hs : P s) : P t := by
  have hmanagement : ∀ c s, isManagement c = true → P s → P (run c s) := fun c s hc =>
    command c s (ne_managementUnitStart hc)
  have hstart : ∀ n s, P s → P (startUnit n s) := by
    intro n s hs
    have ha := tick s n hs
    simp only [startUnit]
    split
    · exact settle _ ha
    · next u rest hl =>
      split
      · refine settle _ ?_
        rcases runsCommand_runUnit n u ((advanceTo n s).setIntake { (advanceTo n s).intake with lane := rest }) with
          he | ⟨c, hc, he⟩
        · exact he ▸ wrong _ _ _ (taken _ _ _ hl ha)
        · exact he ▸ hmanagement c _ (isManagement_of_body hc) (taken _ _ _ hl ha)
      · exact settle _ ha
  rcases step_eq_next h with rfl | ⟨c, rest, he⟩
  · exact hs
  · have hp := pending s rest hs
    rw [exec_eq] at he
    split at he
    · next hc =>
      rw [← Host.Outcome.next.inj he]
      split
      · exact settle _ (hmanagement c _ hc hp)
      · exact hp
    · rw [← Host.Outcome.next.inj he]
      by_cases hu : ∃ n, c = .managementUnitStart n
      · obtain ⟨n, rfl⟩ := hu
        exact hstart n _ hp
      · exact command c _ (fun n e => hu ⟨n, e⟩) hp

/-! ### Properties of some blocks -/

/-- The property is one of the blocks in `l` alone. -/
def Reads (l : List Block) (P : State → Prop) : Prop := ∀ s t, (∀ b ∈ l, b.Kept s t) → P s → P t

theorem Reads.keeps {l m : List Block} {P : State → Prop} (hP : Reads l P) {s t : State} (h : OnlyChanges m s t)
    (hd : ∀ b ∈ l, b ∉ m) (hs : P s) : P t := hP s t (fun b hb => h b (hd b hb)) hs

/-- A property of some blocks is kept by every step, where each command that touches one of the blocks keeps it, and where
a unit taken from the lane does. -/
theorem Reads.step_keeps {l : List Block} {P : State → Prop} (hP : Reads l P)
    (hl : ∀ b ∈ l, b ∉ [Block.now, Block.mgmt, Block.pending])
    (taken : .lane ∈ l → ∀ s rest, P s → P (s.setIntake { s.intake with lane := rest }))
    (command : ∀ c s, (∃ b ∈ l, b ∈ touches c) → (∀ n, c ≠ .managementUnitStart n) → P s → P (run c s))
    {s t : State} (h : step s = .next t) (hs : P s) : P t := by
  refine Machine.step_keeps (P := P) (fun s x => hP.keeps (m := [.now, .mgmt, .pending]) (by simp) hl)
    (fun s => hP.keeps (m := [.now, .mgmt, .pending]) (by simp) hl)
    (fun s n => hP.keeps (m := [.now, .mgmt, .pending]) (by simp) hl)
    (fun s tag code => hP.keeps (m := [.now, .mgmt, .pending]) (by simp) hl)
    (fun s _ rest _ hs => ?_) (fun c s hc hs => ?_) h hs
  · by_cases hlane : .lane ∈ l
    · exact taken hlane s rest hs
    · exact hP.keeps (m := [.lane]) (by simp) (fun b hb hm => hlane (List.mem_singleton.mp hm ▸ hb)) hs
  · by_cases hd : ∃ b ∈ l, b ∈ touches c
    · exact command c s hd hc hs
    · exact hP.keeps (run_only c hc s) (fun b hb hm => hd ⟨b, hb, hm⟩) hs

end Sys2Proof.Machine
end

section
/-! SUPPORT. The cue list, the cue of reference, and what playback makes of the cue block (section 9). -/

namespace Sys2Proof.Machine

/-! ### The sorted list -/

/-- The records stand in strictly ascending order of their numbers (R145). -/
def Ascending (list : List CueRecord) : Prop := list.Pairwise fun a b => a.number < b.number

theorem Ascending.eq_of_number_eq {list : List CueRecord} (h : Ascending list) {a b : CueRecord} (ha : a ∈ list)
    (hb : b ∈ list) (hn : a.number = b.number) : a = b := by
  induction list with
  | nil => cases ha
  | cons x rest ih =>
    obtain ⟨hx, hrest⟩ := List.pairwise_cons.mp h
    rcases List.mem_cons.mp ha with ea | ha <;> rcases List.mem_cons.mp hb with eb | hb
    · rw [ea, eb]
    · have := hx b hb; rw [ea] at hn; omega
    · have := hx a ha; rw [eb] at hn; omega
    · exact ih hrest ha hb

theorem findCue_eq_none_iff {list : List CueRecord} {number : Nat} :
    findCue list number = none ↔ ∀ r ∈ list, r.number ≠ number := by simp [findCue]

theorem findCue_ne_none_iff {list : List CueRecord} {number : Nat} :
    findCue list number ≠ none ↔ ∃ r ∈ list, r.number = number := by simp [findCue_eq_none_iff]

theorem mem_of_findCue {list : List CueRecord} {number : Nat} {r : CueRecord} (h : findCue list number = some r) :
    r ∈ list ∧ r.number = number := ⟨List.mem_of_find?_eq_some h, by simpa using List.find?_some h⟩

theorem findCue_of_mem {list : List CueRecord} (h : Ascending list) {r : CueRecord} (hr : r ∈ list) :
    findCue list r.number = some r := by
  rcases hf : findCue list r.number with _ | x
  · exact absurd rfl (findCue_eq_none_iff.mp hf r hr)
  · obtain ⟨hx, hn⟩ := mem_of_findCue hf
    rw [h.eq_of_number_eq hx hr hn]

theorem isLiveCue_iff {c : Cue} {number : Nat} :
    isLiveCue c number = true ↔ c.current = some number ∨ c.target = some number := by simp [isLiveCue]

/-! ### Writing and deleting -/

/-- A written record joins the list, or takes the place of the one of its number (R145, R146). -/
theorem mem_putCue {list : List CueRecord} (h : Ascending list) {r x : CueRecord} :
    x ∈ putCue r list ↔ x = r ∨ (x ∈ list ∧ x.number ≠ r.number) := by
  induction list with
  | nil => simp [putCue]
  | cons a rest ih =>
    obtain ⟨ha, hrest⟩ := List.pairwise_cons.mp h
    have hgt : a.number ≥ r.number → x ∈ rest → x.number ≠ r.number := fun hge hx => by have := ha x hx; omega
    unfold putCue
    split
    · next hlt =>
      have hmem : x ∈ a :: rest → x.number ≠ r.number := by
        rintro (_ | ⟨_, hx⟩)
        · omega
        · exact hgt hlt.le hx
      rw [List.mem_cons]
      exact or_congr_right ⟨fun hx => ⟨hx, hmem hx⟩, And.left⟩
    · split
      · next heq =>
        rw [List.mem_cons, List.mem_cons]
        refine or_congr_right ⟨fun hx => ⟨.inr hx, hgt heq.le hx⟩, ?_⟩
        rintro ⟨rfl | hx, hn⟩
        · exact absurd heq.symm hn
        · exact hx
      · next hne =>
        rw [List.mem_cons, List.mem_cons, ih hrest]
        have : x = a → x.number ≠ r.number := by rintro rfl; omega
        tauto

theorem ascending_putCue {list : List CueRecord} (h : Ascending list) (r : CueRecord) : Ascending (putCue r list) := by
  induction list with
  | nil => simp [putCue, Ascending]
  | cons a rest ih =>
    obtain ⟨ha, hrest⟩ := List.pairwise_cons.mp h
    unfold putCue
    split
    · next hlt =>
      refine List.pairwise_cons.mpr ⟨fun x hx => ?_, h⟩
      rcases List.mem_cons.mp hx with rfl | hx
      · exact hlt
      · exact hlt.trans (ha x hx)
    · split
      · next heq => exact List.pairwise_cons.mpr ⟨fun x hx => by have := ha x hx; omega, hrest⟩
      · next hne =>
        refine List.pairwise_cons.mpr ⟨fun x hx => ?_, ih hrest⟩
        rcases (mem_putCue hrest).mp hx with rfl | ⟨hx, -⟩
        · omega
        · exact ha x hx

theorem length_putCue_le (r : CueRecord) (list : List CueRecord) : (putCue r list).length ≤ list.length + 1 := by
  induction list with
  | nil => simp [putCue]
  | cons a rest ih => unfold putCue; split_ifs <;> simp_all

/-- A record that takes the place of another leaves the length as it is. -/
theorem length_putCue_of_mem {list : List CueRecord} (h : Ascending list) {r x : CueRecord} (hx : x ∈ list)
    (hn : x.number = r.number) : (putCue r list).length = list.length := by
  induction list with
  | nil => cases hx
  | cons a rest ih =>
    obtain ⟨ha, hrest⟩ := List.pairwise_cons.mp h
    rcases List.mem_cons.mp hx with rfl | hx
    · simp [putCue, hn]
    · have := ha x hx
      have h1 : ¬r.number < a.number := by omega
      have h2 : r.number ≠ a.number := by omega
      simp [putCue, h1, h2, ih hrest hx]

/-! ### The cue of a Go -/

theorem nextCue_mem {c : Cue} {r : CueRecord} (h : nextCue c = some r) : r ∈ c.list := by
  unfold nextCue at h
  split at h
  · exact List.mem_of_mem_head? h
  · exact List.mem_of_find?_eq_some h

theorem previousCue_mem {c : Cue} {r : CueRecord} (h : previousCue c = some r) : r ∈ c.list := by
  unfold previousCue at h
  split at h
  · cases h
  · exact List.mem_of_mem_filter (List.mem_of_getLast? h)

/-! ### What each operation makes of the cue block -/

theorem requestTake_cue (f : FrameNo) (origin : TakeOrigin) (s : State) : (requestTake f origin s).cue = s.cue :=
  OnlyChanges.cue (l := [.banks, .mgmt]) (by simp) rfl

@[simp] theorem acceptGo_cue (r : CueRecord) (origin : GoOrigin) (s : State) :
    (acceptGo r origin s).cue = goCue s.frameNo r origin s.cue := by
  simp only [acceptGo]; split <;> simp [requestTake_cue]

theorem contactGo_cue (input : Fin 4) (s : State) :
    (contactGo input s).cue = match nextCue s.cue with
      | some r => goCue s.frameNo r (.contact input) s.cue
      | none => { s.cue with counters := { s.cue.counters with
          contactGosRefused := bump s.cue.counters.contactGosRefused } } := by
  unfold contactGo; cases nextCue s.cue <;> simp

/-- The cue block where a fade has started from the fade table `fade` (R151). -/
def fadingCue (fade : Tab 512 (Option FadeChannel)) (c : Cue) : Cue :=
  { c with state := .fading, elapsed := 0, fade := fade, cover := fadeCover 0 fade }

theorem startFade_cue {s : State} {r : CueRecord} (h : s.cue.target.bind (findCue s.cue.list) = some r) :
    (startFade s).cue = fadingCue (Tab.ofFn (fadeChannel s r)) s.cue := by
  simp [startFade, h, fadingCue]

theorem startFade_of_none {s : State} (h : s.cue.target.bind (findCue s.cue.list) = none) : startFade s = s := by
  simp [startFade, h]

/-- The cue block one boundary further in a fade (R152). -/
def steppedCue (c : Cue) : Cue := { c with elapsed := c.elapsed + 1, cover := fadeCover (c.elapsed + 1) c.fade }

@[simp] theorem stepFade_cue (s : State) : (stepFade s).cue = steppedCue s.cue := rfl

/-- The cue block where the target's fade has completed at boundary `n` (R153). -/
def completedCue (n : FrameNo) (c : Cue) : Cue :=
  { c with
    state := .resting, current := c.target, target := none
    follow := ((c.target.bind (findCue c.list)).bind CueRecord.follow).map fun f => n + BitVec.ofNat 32 f
    counters := { c.counters with fadesCompleted := bump c.counters.fadesCompleted } }

@[simp] theorem completeFade_cue (s : State) : (completeFade s).cue = completedCue s.frameNo s.cue := rfl

theorem testCompletion_cue (s : State) :
    (testCompletion s).cue = if fadeIsOver s.cue then completedCue s.frameNo s.cue else s.cue := by
  unfold testCompletion; split <;> rfl

/-- The cue block where a follow has fired at boundary `n` (R149). -/
def followedCue (n : FrameNo) (c : Cue) : Cue :=
  match nextCue c with
  | some r => goCue n r .follow { c with follow := none }
  | none => { c with follow := none, counters := { c.counters with followsRefused := bump c.counters.followsRefused } }

theorem nextCue_follow (c : Cue) (f : Option FrameNo) : nextCue { c with follow := f } = nextCue c := rfl

@[simp] theorem fireFollow_cue (s : State) : (fireFollow s).cue = followedCue s.frameNo s.cue := by
  simp only [fireFollow, State.setCue_cue, nextCue_follow, followedCue]
  cases nextCue s.cue <;> simp [State.frameNo]

theorem testFollow_cue (s : State) :
    (testFollow s).cue = if followDue s then followedCue s.frameNo s.cue else s.cue := by
  unfold testFollow; split <;> simp

end Sys2Proof.Machine
end

section
/-! PROOFS. Every step keeps the cue list sorted and playback's cues in it (R145 to R157). -/

namespace Sys2Proof.Machine

/-- What `CueSound` says of the cue block. -/
def CueOk (c : Cue) : Prop :=
  c.list.length ≤ 64 ∧ Ascending c.list ∧
    (∀ r ∈ c.list, 1 ≤ r.number ∧ r.number ≤ 999 ∧ 1 ≤ r.pairs.length ∧ r.pairs.length ≤ 48) ∧
    (∀ n, isLiveCue c n = true → findCue c.list n ≠ none) ∧
    (c.state = .idle → c.current = none ∧ c.target = none ∧ ∀ ch, c.cover.get ch = none) ∧
    (c.state = .resting → c.target = none ∧ c.current ≠ none) ∧
    (c.state ≠ .idle → c.state ≠ .resting → c.target ≠ none) ∧
    (c.follow ≠ none → c.state = .resting)

theorem cueSound_iff (s : State) : CueSound s ↔ CueOk s.cue := Iff.rfl

theorem cueSound_reads : Reads [.cue] CueSound := fun s t h hs => by
  have hc : t.cue = s.cue := h .cue (by simp)
  rw [cueSound_iff, hc]
  exact hs

/-! ### Playback -/

theorem CueOk.goCue {c : Cue} (h : CueOk c) {r : CueRecord} (hr : r ∈ c.list) (n : FrameNo) (origin : GoOrigin) :
    CueOk (goCue n r origin c) := by
  obtain ⟨hlen, hasc, hrange, hlive, hidle, hrest, htarget, hfollow⟩ := h
  refine ⟨hlen, hasc, hrange, fun k hk => ?_, nofun, nofun, fun _ _ => by simp [Machine.goCue], fun h => absurd rfl h⟩
  rcases isLiveCue_iff.mp hk with hk | hk
  · exact hlive k (isLiveCue_iff.mpr (.inl hk))
  · rw [← Option.some.inj hk]
    exact findCue_ne_none_iff.mpr ⟨r, hr, rfl⟩

theorem CueOk.noFollow {c : Cue} (h : CueOk c) : CueOk { c with follow := none } := by
  obtain ⟨hlen, hasc, hrange, hlive, hidle, hrest, htarget, hfollow⟩ := h
  exact ⟨hlen, hasc, hrange, hlive, hidle, hrest, htarget, fun h => absurd rfl h⟩

/-- The counters are no part of it. -/
theorem CueOk.counters {c : Cue} (h : CueOk c) (k : CueCounters) : CueOk { c with counters := k } := h

theorem CueOk.followedCue {c : Cue} (h : CueOk c) (n : FrameNo) : CueOk (followedCue n c) := by
  unfold Machine.followedCue
  split
  · next r hr => exact h.noFollow.goCue (nextCue_mem hr) _ _
  · exact h.noFollow.counters _

theorem CueOk.fadingCue {c : Cue} (h : CueOk c) (hs : c.state = .delay) (fade : Tab 512 (Option FadeChannel)) :
    CueOk (fadingCue fade c) := by
  obtain ⟨hlen, hasc, hrange, hlive, hidle, hrest, htarget, hfollow⟩ := h
  refine ⟨hlen, hasc, hrange, hlive, nofun, nofun, fun _ _ => htarget (by simp [hs]) (by simp [hs]), fun hf => ?_⟩
  exact absurd (hfollow hf) (by simp [hs])

theorem CueOk.steppedCue {c : Cue} (h : CueOk c) (hs : c.state = .fading) : CueOk (steppedCue c) := by
  obtain ⟨hlen, hasc, hrange, hlive, hidle, hrest, htarget, hfollow⟩ := h
  refine ⟨hlen, hasc, hrange, hlive, fun hi => ?_, hrest, htarget, hfollow⟩
  exact absurd (hs.symm.trans hi) (by decide)

theorem CueOk.completedCue {c : Cue} (h : CueOk c) (hs : c.state = .fading) (n : FrameNo) : CueOk (completedCue n c) := by
  obtain ⟨hlen, hasc, hrange, hlive, hidle, hrest, htarget, hfollow⟩ := h
  refine ⟨hlen, hasc, hrange, fun k hk => ?_, nofun, fun _ => ⟨rfl, htarget (by simp [hs]) (by simp [hs])⟩,
    fun _ hr => absurd rfl hr, fun _ => rfl⟩
  rcases isLiveCue_iff.mp hk with hk | hk
  · exact hlive k (isLiveCue_iff.mpr (.inr hk))
  · cases hk

theorem CueOk.restCue {c : Cue} (h : CueOk c) (hs : c.state = .resting) : CueOk (restCue c) := by
  obtain ⟨hlen, hasc, hrange, hlive, hidle, hrest, htarget, hfollow⟩ := h
  unfold Machine.restCue
  split
  · exact ⟨hlen, hasc, hrange, hlive, hidle, hrest, htarget, hfollow⟩
  · exact ⟨hlen, hasc, hrange, hlive, fun hi => absurd (hs.symm.trans hi) (by decide), hrest, htarget, hfollow⟩

/-- Another state of playback, between those that have a target. -/
theorem CueOk.withTarget {c : Cue} (h : CueOk c) (hi : c.state ≠ .idle) (hr : c.state ≠ .resting) {p : PlayState}
    (hpi : p ≠ .idle) (hpr : p ≠ .resting) : CueOk { c with state := p } := by
  obtain ⟨hlen, hasc, hrange, hlive, hidle, hrest, htarget, hfollow⟩ := h
  exact ⟨hlen, hasc, hrange, hlive, fun h => absurd h hpi, fun h => absurd h hpr, fun _ _ => htarget hi hr,
    fun hf => absurd (hfollow hf) hr⟩

theorem CueOk.clearCue {c : Cue} (h : CueOk c) : CueOk (clearCue c) := by
  obtain ⟨hlen, hasc, hrange, -⟩ := h
  refine ⟨hlen, hasc, hrange, fun k hk => ?_, fun _ => ⟨rfl, rfl, fun ch => by simp [Machine.clearCue]⟩, nofun,
    fun hi => absurd rfl hi, fun hf => absurd rfl hf⟩
  rcases isLiveCue_iff.mp hk with hk | hk <;> cases hk

/-! ### The list -/

/-- A list with the cues of playback in it may take the list's place. -/
theorem CueOk.withList {c : Cue} (h : CueOk c) {list : List CueRecord} (hlen : list.length ≤ 64) (hasc : Ascending list)
    (hrange : ∀ r ∈ list, 1 ≤ r.number ∧ r.number ≤ 999 ∧ 1 ≤ r.pairs.length ∧ r.pairs.length ≤ 48)
    (hlive : ∀ r ∈ c.list, isLiveCue c r.number = true → r ∈ list) : CueOk { c with list := list } := by
  obtain ⟨-, -, -, hlive', hrest⟩ := h
  refine ⟨hlen, hasc, hrange, fun k hk => ?_, hrest⟩
  obtain ⟨r, hr, rfl⟩ := findCue_ne_none_iff.mp (hlive' k hk)
  exact findCue_ne_none_iff.mpr ⟨r, hlive r hr hk, rfl⟩

theorem CueOk.putCue {c : Cue} (h : CueOk c) {r : CueRecord} (hr : isLiveCue c r.number ≠ true)
    (hrange : 1 ≤ r.number ∧ r.number ≤ 999 ∧ 1 ≤ r.pairs.length ∧ r.pairs.length ≤ 48)
    (hroom : (∃ x ∈ c.list, x.number = r.number) ∨ c.list.length < 64) :
    CueOk { c with list := putCue r c.list } := by
  have hcopy := h
  obtain ⟨hlen, hasc, hrange', -⟩ := h
  refine hcopy.withList ?_ (ascending_putCue hasc r) (fun x hx => ?_) fun x hx hl => ?_
  · rcases hroom with ⟨x, hx, hn⟩ | hlt
    · rw [length_putCue_of_mem hasc hx hn]; exact hlen
    · have := length_putCue_le r c.list; omega
  · rcases (mem_putCue hasc).mp hx with rfl | ⟨hx, -⟩
    · exact hrange
    · exact hrange' x hx
  · exact (mem_putCue hasc).mpr (.inr ⟨hx, fun e => hr (e ▸ hl)⟩)

theorem CueOk.deleteCue {c : Cue} (h : CueOk c) {number : Nat} (hl : isLiveCue c number ≠ true) :
    CueOk { c with list := c.list.filter fun r => decide (r.number ≠ number) } := by
  have hcopy := h
  obtain ⟨hlen, hasc, hrange, -⟩ := h
  refine hcopy.withList ((List.length_filter_le _ _).trans hlen) (hasc.filter _)
    (fun r hr => hrange r (List.mem_of_mem_filter hr)) fun r hr hk => List.mem_filter.mpr ⟨hr, ?_⟩
  exact decide_eq_true fun e => hl (e ▸ hk)

theorem pairs_of_cueInRange {number : Nat} {pairs : List (Nat × Nat)} (h : cueInRange number pairs = true) :
    1 ≤ number ∧ number ≤ 999 ∧ 1 ≤ (cuePairs pairs).length ∧ (cuePairs pairs).length ≤ 48 := by
  simp only [cueInRange, Config.pairRoom, Bool.and_eq_true, decide_eq_true_eq] at h
  obtain ⟨⟨⟨⟨⟨h1, h2⟩, h3⟩, h4⟩, -⟩, -⟩ := h
  exact ⟨h1, h2, by simpa [cuePairs] using h3, by simpa [cuePairs] using of_decide_eq_true h4⟩

/-! ### The commands -/

/-- A state with a cue block that is sound. -/
theorem cueSound_of_cue {s : State} {c : Cue} (h : CueOk c) (hs : s.cue = c) : CueSound s := by
  rw [cueSound_iff, hs]; exact h

theorem cueSound_answerGo {s : State} (hs : CueSound s) (tag code : Byte) {incoming : Option CueRecord}
    (hi : ∀ r, incoming = some r → r ∈ s.cue.list) (origin : GoOrigin) (refusal : Result) :
    CueSound (answerGo tag code incoming origin refusal s) := by
  cases incoming with
  | none => exact hs
  | some r => exact cueSound_of_cue (CueOk.goCue hs (hi r rfl) s.frameNo origin) (by simp [answerGo, answer])

theorem cueSound_testFollow {s : State} (hs : CueSound s) : CueSound (testFollow s) := by
  rw [cueSound_iff, testFollow_cue]
  split
  · exact CueOk.followedCue hs _
  · exact hs

theorem cueSound_testCompletion {s : State} (hs : CueSound s) : CueSound (testCompletion s) := by
  rw [cueSound_iff, testCompletion_cue]
  split
  · next h =>
    simp only [fadeIsOver, Bool.and_eq_true, decide_eq_true_eq] at h
    exact CueOk.completedCue hs h.1 _
  · exact hs

theorem cueSound_startFade {s : State} (hs : CueSound s) (hd : fadeStartDue s.cue = true) : CueSound (startFade s) := by
  simp only [fadeStartDue, Bool.and_eq_true, decide_eq_true_eq] at hd
  rcases hr : s.cue.target.bind (findCue s.cue.list) with _ | r
  · rwa [startFade_of_none hr]
  · exact cueSound_of_cue (CueOk.fadingCue hs hd.1 _) (startFade_cue hr)

theorem cueSound_cueBoundary {s : State} (hs : CueSound s) : CueSound (cueBoundary s) := by
  unfold cueBoundary
  split
  · exact hs
  · next hd =>
    split
    · next h => exact cueSound_testFollow (cueSound_testCompletion (cueSound_startFade hs h))
    · exact cueSound_of_cue (c := { s.cue with delayLeft := s.cue.delayLeft - 1 }) hs rfl
  · next hf => exact cueSound_testFollow (cueSound_testCompletion (CueOk.steppedCue hs hf))
  · exact hs
  · exact hs
  · next hr => exact cueSound_testFollow (CueOk.restCue hs hr)

theorem cueSound_contactGoStep (gp : Tab 4 Bool) (i : Fin 4) {s : State} (hs : CueSound s) :
    CueSound (contactGoStep gp i s) := by
  unfold contactGoStep
  split
  · rw [cueSound_iff, contactGo_cue]
    split
    · next r hr => exact CueOk.goCue hs (nextCue_mem hr) _ _
    · exact CueOk.counters hs _
  · exact hs

theorem cueSound_contactGos (gp : Tab 4 Bool) {s : State} (hs : CueSound s) : CueSound (contactGos gp s) :=
  forEach_keeps CueSound _ (fun i _ => cueSound_contactGoStep gp i) s hs

theorem takeIf_keeps {P : State → Prop} {f : State → State} (h : ∀ s, P s → P (f s)) (b : Bool) {s : State} (hs : P s) :
    P (takeIf b f s) := by
  unfold takeIf; split
  · exact h s hs
  · exact hs

theorem cueSound_frameBoundary (gp : Tab 4 Bool) (o : CommitOrder) {s : State} (hs : CueSound s) :
    CueSound (frameBoundary gp o s) := by
  have hgos : ∀ s, CueSound s → CueSound (contactGos gp s) := fun s => cueSound_contactGos gp
  have hcue : ∀ s, CueSound s → CueSound (cueBoundary s) := fun s => cueSound_cueBoundary
  have htakes : ∀ s, CueSound s → CueSound (contactTakes gp s) := fun s =>
    cueSound_reads.keeps (m := [.banks, .mgmt]) (by simp) (by decide)
  have hcommit : ∀ s, CueSound s → CueSound (takeBoundary s) := fun s =>
    cueSound_reads.keeps (m := [.banks, .mgmt]) (by simp) (by decide)
  have hopening := cueSound_reads.keeps (boundaryOpening_only s) (by decide) hs
  have hlook : CueSound (boundaryLook gp o (boundaryOpening s)) := by
    refine cueSound_reads.keeps (m := [.merge]) (s := takesAtBoundary gp o (boundaryOpening s)) (by simp [boundaryLook])
      (by decide) ?_
    exact takeIf_keeps hcue _ (takeIf_keeps htakes _ (hcommit _ (takeIf_keeps hgos _ (takeIf_keeps hcue _
      (takeIf_keeps htakes _ hopening)))))
  have hlight := cueSound_reads.keeps (boundaryLight_only _) (by decide)
    (cueSound_reads.keeps (boundaryWall_only _) (by decide) hlook)
  rw [frameBoundary, boundaryContacts]
  refine cueSound_reads.keeps (m := [.timing]) ((only_keepSamples gp (by simp)).mpr (.refl _ _)) (by decide) (takeIf_keeps hgos _ ?_)
  exact cueSound_reads.keeps (m := [.canvas, .buffer, .accumulation, .mgmt]) (by simp) (by decide) hlight

theorem cueOk_reset : CueOk Cue.reset :=
  ⟨by simp [Cue.reset], by simp [Cue.reset, Ascending], by simp [Cue.reset], fun n hn => by simp [isLiveCue, Cue.reset] at hn,
    fun _ => ⟨rfl, rfl, fun ch => Tab.get_replicate none ch⟩, nofun, fun h => absurd rfl h, fun h => absurd rfl h⟩

theorem cueSound_run (c : Instr) {s : State} (hc : ∃ b ∈ [Block.cue], b ∈ touches c) (hu : ∀ n, c ≠ .managementUnitStart n)
    (hs : CueSound s) : CueSound (run c s) := by
  obtain ⟨b, hb, hc⟩ := hc
  obtain rfl := List.mem_singleton.mp hb
  cases c with
  | managementUnitStart n => exact absurd rfl (hu n)
  | powerOnReset gp => exact cueSound_reads.keeps (trainPresent_only (defaults gp s)) (by decide) cueOk_reset
  | lineReset gp =>
    exact cueSound_reads.keeps (trainPresent_only ((defaults gp s).setIntake (keptIdentity s.intake))) (by decide) cueOk_reset
  | frameBoundary gp o => exact cueSound_frameBoundary gp o hs
  | writeCue tag number up down delay follow link pairs =>
    simp only [run, doWriteCue]
    split
    · exact hs
    · next hrange =>
      split
      · exact hs
      · next hlive =>
        split
        · exact hs
        · next hfull =>
          simp only [Bool.not_eq_true', Bool.not_eq_false] at hrange
          refine CueOk.putCue hs (by simpa using hlive) (pairs_of_cueInRange hrange) ?_
          simp only [Option.isNone_iff_eq_none, Config.cueRoom, not_and_or, not_le] at hfull
          exact hfull.imp_left findCue_ne_none_iff.mp
  | deleteCue tag number =>
    simp only [run, doDeleteCue]
    split
    · exact hs
    · next hlive =>
      split
      · exact hs
      · exact CueOk.deleteCue hs hlive
  | go tag => exact cueSound_answerGo hs _ _ (fun r => nextCue_mem) _ _
  | goTo tag number => exact cueSound_answerGo hs _ _ (fun r hr => (mem_of_findCue hr).1) _ _
  | back tag => exact cueSound_answerGo hs _ _ (fun r => previousCue_mem) _ _
  | halt tag =>
    simp only [run, doHalt]
    split
    · next h => exact CueOk.withTarget hs (by simp [h]) (by simp [h]) (p := .haltedDelay) nofun nofun
    · next h => exact CueOk.withTarget hs (by simp [h]) (by simp [h]) (p := .haltedFading) nofun nofun
    · exact hs
    · exact hs
    · split
      · exact CueOk.noFollow hs
      · exact hs
    · exact hs
  | resume tag =>
    simp only [run, doResume]
    split
    · next h => exact CueOk.withTarget hs (by simp [h]) (by simp [h]) (p := .delay) nofun nofun
    · next h => exact CueOk.withTarget hs (by simp [h]) (by simp [h]) (p := .fading) nofun nofun
    all_goals exact hs
  | clearPlayback tag =>
    simp only [run, doClearPlayback]
    split
    · exact hs
    · exact CueOk.clearCue hs
  | fadeStart =>
    simp only [run]
    split
    · next h => exact cueSound_startFade hs h
    · exact hs
  | fadeComplete => exact cueSound_testCompletion hs
  | followGo => exact cueSound_testFollow hs
  | clearCounters tag block =>
    simp only [run, doClearCounters, clearBlock]
    repeat' split
    all_goals exact hs
  | _ => simp [touches] at hc

/-- Settles O60: every operation on the cue block keeps what `CueSound` says, and no other command touches it. -/
theorem stepsKeepCueListSound : Obligations.StepsKeepCueListSound := fun _ _ h hs =>
  cueSound_reads.step_keeps (by decide) (by simp) (fun c _ hc hu => cueSound_run c hc hu) h hs

end Sys2Proof.Machine
end

section
/-! PROOFS. The queue of commands: a step runs the front one, each ends in a next state, and a management command waits for
room (R174). -/

namespace Sys2Proof.Machine

/-- Settles O1: by the two cases of `step`. -/
theorem stepRunsFrontCommand : Obligations.StepRunsFrontCommand :=
  ⟨fun _ _ _ => rfl, fun s h => by unfold step; rw [h]⟩

/-- No command touches the queue of waiting commands. -/
theorem pending_notMem_touches (c : Instr) : .pending ∉ touches c := by cases c <;> simp [touches]

theorem run_pending {c : Instr} (hc : ∀ n, c ≠ .managementUnitStart n) (s : State) : (run c s).pending = s.pending :=
  (run_only c hc s).pending (by simpa using pending_notMem_touches c)

theorem settleEngine_pending (s : State) : (settleEngine s).pending = s.pending :=
  OnlyChanges.pending (l := [.mgmt]) (by simp) rfl

theorem startUnit_pending (tick : Nat) (s : State) : (startUnit tick s).pending = s.pending := by
  simp only [startUnit]
  split
  · rw [settleEngine_pending]; rfl
  · next u rest _ =>
    split
    · rw [settleEngine_pending]
      rcases runsCommand_runUnit tick u ((advanceTo tick s).setIntake { (advanceTo tick s).intake with lane := rest }) with
        h | ⟨c, hc, h⟩
      · rw [h]; rfl
      · rw [h, run_pending (ne_managementUnitStart (isManagement_of_body hc))]; rfl
    · rw [settleEngine_pending]; rfl

theorem exec_of_not_management {c : Instr} (h : isManagement c = false) (s : State) : exec c s = .next (run c s) := by
  simp [exec_eq, h]

theorem exec_of_management {c : Instr} (h : isManagement c = true) (s : State) : exec c s = engineRuns (run c) s := by
  simp [exec_eq, h]

/-- Settles O2: a management command runs or waits, and every other command runs; neither touches the queue. -/
theorem everyCommandCompletes : Obligations.EveryCommandCompletes := by
  intro c s
  by_cases hc : isManagement c = true
  · rw [exec_of_management hc]
    refine ⟨_, rfl, ?_⟩
    split
    · rw [settleEngine_pending, run_pending (ne_managementUnitStart hc)]
    · rfl
  · refine ⟨_, exec_of_not_management (by simpa using hc) s, ?_⟩
    by_cases hu : ∃ n, c = .managementUnitStart n
    · obtain ⟨n, rfl⟩ := hu
      exact startUnit_pending n s
    · exact run_pending (fun n e => hu ⟨n, e⟩) s

/-- Settles O3: the engine's own test of room comes before the command. -/
theorem commandsWaitForRoom : Obligations.CommandsWaitForRoom := fun c s hc hroom => by
  rw [exec_of_management hc, engineRuns_noRoom]
  exact Bool.eq_false_iff.mpr fun h => absurd ((hasRoom_iff s).mp h) (by omega)

end Sys2Proof.Machine
end

section
/-! PROOFS. The PWM grid divides every interval (R33). -/

namespace Sys2Proof.Machine

/-- The prescales, in rising order (R33). -/
def prescales : List Nat := [1, 2, 4, 8, 16, 32, 64, 128]

/-- The prescale is the first that brings N to at most 65535; the others before it do not. -/
theorem prescale_spec {length k : Nat} (h : length / k < 128 * 65536) :
    prescale length k ∈ prescales ∧ length / (k * prescale length k) ≤ 65535 ∧
      ∀ p ∈ prescales, p < prescale length k → 65535 < length / (k * p) := by
  have hq : ∀ p, length / (k * p) = length / k / p := fun p => (Nat.div_div_eq_div_mul length k p).symm
  have hfound : decide (length / (k * 128) ≤ 65535) = true := by
    rw [hq]; exact decide_eq_true (by omega)
  rcases hf : prescales.find? (fun p => decide (length / (k * p) ≤ 65535)) with _ | p
  · exact absurd hfound (List.find?_eq_none.mp hf 128 (by decide))
  · have hp : prescale length k = p := by
      change (prescales.find? _).getD 128 = p
      rw [hf]; rfl
    obtain ⟨h1, before, after, he, hbefore⟩ := List.find?_eq_some_iff_append.mp hf
    refine ⟨by rw [hp, he]; simp, by rw [hp]; exact of_decide_eq_true h1, fun r hr hlt => ?_⟩
    rw [hp] at hlt
    have hsorted : (before ++ p :: after).Pairwise (· < ·) := he ▸ (by decide : prescales.Pairwise (· < ·))
    have hmem : r ∈ before := by
      rw [he] at hr
      rcases List.mem_append.mp hr with hr | hr
      · exact hr
      · rcases List.mem_cons.mp hr with rfl | hr
        · omega
        · have := (List.pairwise_cons.mp (List.pairwise_append.mp hsorted).2.1).1 r hr
          omega
    simpa using hbefore r hmem

/-- With a quotient of at least 32768 for every step, N stands between 32768 and 65535: the prescale before the one chosen
leaves more than 65535, and half of that is at least 32768. -/
theorem gridOf_n_bounds {length k : Nat} (h1 : 32768 ≤ length / k) (h2 : length / k < 128 * 65536) :
    32768 ≤ (gridOf length k).n ∧ (gridOf length k).n ≤ 65535 := by
  obtain ⟨hmem, hle, hbefore⟩ := prescale_spec h2
  refine ⟨?_, hle⟩
  have hhalf : ∀ p, p ∈ prescales → p < prescale length k → 65535 < length / k / p := fun p hp hlt => by
    rw [Nat.div_div_eq_div_mul]; exact hbefore p hp hlt
  change 32768 ≤ length / (k * prescale length k)
  rw [← Nat.div_div_eq_div_mul]
  generalize prescale length k = p at hmem hhalf
  simp only [prescales, List.mem_cons, List.not_mem_nil, or_false] at hmem
  rcases hmem with rfl | rfl | rfl | rfl | rfl | rfl | rfl | rfl
  · simpa using h1
  · have := hhalf 1 (by decide) (by decide); omega
  · have := hhalf 2 (by decide) (by decide); omega
  · have := hhalf 4 (by decide) (by decide); omega
  · have := hhalf 8 (by decide) (by decide); omega
  · have := hhalf 16 (by decide) (by decide); omega
  · have := hhalf 32 (by decide) (by decide); omega
  · have := hhalf 64 (by decide) (by decide); omega

theorem gridSound_gridOf {length k : Nat} (h1 : 996094 ≤ length) (h2 : length ≤ 4517578) (hk1 : 1 ≤ k) (hk2 : k ≤ 16) :
    GridSound (gridOf length k) length := by
  have hlow : 32768 ≤ length / k := (Nat.le_div_iff_mul_le hk1).mpr (by nlinarith)
  have hhigh : length / k < 128 * 65536 := (Nat.div_le_self length k).trans_lt (by omega)
  obtain ⟨hmem, -, -⟩ := prescale_spec hhigh
  obtain ⟨hn1, hn2⟩ := gridOf_n_bounds hlow hhigh
  have hpos : 0 < k * prescale length k := by
    have : 0 < prescale length k := by
      have hall : ∀ p ∈ prescales, 0 < p := by decide
      exact hall _ hmem
    positivity
  have hdiv := Nat.div_add_mod length (k * prescale length k)
  have hmod := Nat.mod_lt length hpos
  refine ⟨hk1, hk2, hmem, hn1, hn2, ?_, ?_⟩
  · exact Nat.add_sub_cancel' (by simp only [gridOf]; omega)
  · simp only [gridOf]; omega

/-- Settles O18: the prescale is the first that fits, and an interval of this length leaves at least 62255 ticks a period. -/
theorem pwmGridDividesTheInterval : Obligations.PwmGridDividesTheInterval := fun length k h1 h2 hk1 hk2 =>
  ⟨gridSound_gridOf h1 h2 hk1 hk2, (prescale_spec ((Nat.div_le_self length k).trans_lt (by omega))).2.2⟩

end Sys2Proof.Machine
end

section
/-! PROOFS. Every step keeps period, interval and grid in their ranges, and the lock machine's facts (R19 to R34). -/

namespace Sys2Proof.Machine

/-- What `TimingSound` says of the numbers: period, rate, length, K and grid in their ranges. -/
def TimingRanges (t : Timing) : Prop :=
  InRange t.period ∧ InRange t.internalRate ∧ 996094 ≤ t.length ∧ t.length ≤ 4517578 ∧ 1 ≤ t.k ∧ t.k ≤ 16 ∧
    GridSound t.grid t.length

/-- What `TimingSound` says of the lock machine. -/
def LockOk (t : Timing) : Prop :=
  (t.lock ≠ .locked → t.settled = false ∧ t.phaseError = 0) ∧
    (t.reference = .internal → t.lock = .free ∧ t.period = t.internalRate) ∧
    (t.reference = .genlock → t.lock = .acquiring ∨ t.lock = .locked → t.lastPulse ≠ none)

theorem timingSound_iff (s : State) : TimingSound s ↔ TimingRanges s.timing ∧ LockOk s.timing := by
  simp only [TimingSound, TimingRanges, LockOk]; tauto

theorem timingSound_reads : Reads [.timing] TimingSound := fun s t h hs => by
  have ht : t.timing = s.timing := h .timing (by simp)
  rw [timingSound_iff, ht, ← timingSound_iff]
  exact hs

/-! ### Periods -/

theorem inRange_clampPeriod (v : Nat) : InRange (clampPeriod v) := by
  simp only [InRange, clampPeriod, clampNat, Config.minPeriod, Config.maxPeriod]; omega

theorem inPeriodRange_iff {v : Int} : inPeriodRange v = true ↔ 1000000 ≤ v ∧ v ≤ 4500000 :=
  (Bool.and_eq_true_iff).trans (and_congr decide_eq_true_iff decide_eq_true_iff)

/-- The tracked period lies between the period and the measured interval (R26, R31). -/
theorem inRange_trackPeriod {period : Nat} {measured : Int} (hp : InRange period) (hm : inPeriodRange measured = true) :
    InRange (trackPeriod period measured) ∧
      (trackPeriod period measured : Int) = period + Int.tdiv (measured - period) 16 := by
  obtain ⟨hm1, hm2⟩ := inPeriodRange_iff.mp hm
  simp only [InRange, Config.minPeriod, Config.maxPeriod] at hp ⊢
  have hbetween : 1000000 ≤ (period : Int) + Int.tdiv (measured - period) 16 ∧
      (period : Int) + Int.tdiv (measured - period) 16 ≤ 4500000 := by
    rcases Int.le_total 0 (measured - period) with h | h
    · rw [Int.tdiv_eq_ediv_of_nonneg h]; omega
    · have hneg : Int.tdiv (measured - period) 16 = -((period - measured) / 16) := by
        rw [← Int.tdiv_eq_ediv_of_nonneg (by omega), ← Int.neg_tdiv, Int.neg_sub]
      rw [hneg]; omega
  have hcast : (trackPeriod period measured : Int) = period + Int.tdiv (measured - period) 16 :=
    Int.toNat_of_nonneg (by omega)
  exact ⟨by omega, hcast⟩

/-- Another period in range. -/
theorem TimingRanges.withPeriod {t t' : Timing} (h : TimingRanges t) (hp : InRange t'.period)
    (hr : t'.internalRate = t.internalRate) (hl : t'.length = t.length) (hk : t'.k = t.k) (hg : t'.grid = t.grid) :
    TimingRanges t' := by
  obtain ⟨-, h2, h3, h4, h5, h6, h7⟩ := h
  refine ⟨hp, ?_⟩
  rw [hr, hl, hk, hg]
  exact ⟨h2, h3, h4, h5, h6, h7⟩

/-! ### The lock machine -/

/-- In a state other than LOCKED, with its phase cleared, what counts is the reference. -/
theorem lockOk_of_not_locked {t : Timing} (hs : t.settled = false) (he : t.phaseError = 0)
    (hi : t.reference = .internal → t.lock = .free ∧ t.period = t.internalRate)
    (hg : t.reference = .genlock → t.lock = .acquiring ∨ t.lock = .locked → t.lastPulse ≠ none) : LockOk t :=
  ⟨fun _ => ⟨hs, he⟩, hi, hg⟩

theorem lockOk_of_locked {t : Timing} (hl : t.lock = .locked) (hi : t.reference ≠ .internal)
    (hg : t.reference = .genlock → t.lastPulse ≠ none) : LockOk t :=
  ⟨fun h => absurd hl h, fun h => absurd h hi, fun h _ => hg h⟩

/-- Both parts. -/
def TimingOk (t : Timing) : Prop := TimingRanges t ∧ LockOk t

section
variable {t : Timing}

theorem TimingOk.enterHoldover (h : TimingOk t) (hr : t.reference ≠ .internal) : TimingOk (enterHoldover t) :=
  ⟨h.1, lockOk_of_not_locked rfl rfl (fun h => absurd h hr) (fun _ hl => by rcases hl with hl | hl <;> cases hl)⟩

theorem TimingOk.timeOutAcquisition (h : TimingOk t) (hr : t.reference ≠ .internal) : TimingOk (timeOutAcquisition t) :=
  ⟨h.1, lockOk_of_not_locked rfl rfl (fun h => absurd h hr) (fun _ hl => by rcases hl with hl | hl <;> cases hl)⟩

theorem TimingOk.endHoldover (h : TimingOk t) (hl : t.lock = .holdover) : TimingOk (endHoldover t) :=
  ⟨h.1, lockOk_of_not_locked rfl rfl (fun hi => absurd (h.2.2.1 hi).1 (by simp [hl]))
    (fun _ hl => by rcases hl with hl | hl <;> cases hl)⟩

theorem TimingOk.countInvalid (h : TimingOk t) : TimingOk (countInvalid t) := h

theorem TimingOk.restartReference (h : TimingOk t) (r : Reference) : TimingOk (restartReference r t) := by
  refine ⟨h.1.withPeriod ?_ rfl rfl rfl rfl, lockOk_of_not_locked rfl rfl (fun hi => ⟨rfl, ?_⟩)
    (fun _ hl => by rcases hl with hl | hl <;> cases hl)⟩
  · obtain ⟨⟨hp, hr, -⟩, -⟩ := h
    simp only [Machine.restartReference]; split
    · exact hr
    · exact hp
  · exact if_pos hi

/-! ### Genlock -/

theorem TimingOk.startPulseRun (h : TimingOk t) (hr : t.reference = .genlock) (tick : Nat) :
    TimingOk (startPulseRun tick t) :=
  ⟨h.1, lockOk_of_not_locked rfl rfl (fun hi => absurd (hi.symm.trans hr) (by decide)) (fun _ _ => by simp [Machine.startPulseRun])⟩

theorem TimingOk.acquirePulse (h : TimingOk t) (hr : t.reference = .genlock) (hl : t.lock = .acquiring) (tick : Nat) :
    TimingOk (acquirePulse tick t) := by
  have hni : t.reference ≠ .internal := by simp [hr]
  obtain ⟨hranges, hlock⟩ := h
  obtain ⟨hsettled, herror⟩ := hlock.1 (by simp [hl])
  simp only [Machine.acquirePulse]
  split
  · split
    · exact ⟨hranges.withPeriod (inRange_clampPeriod _) rfl rfl rfl rfl,
        lockOk_of_locked rfl hni (fun _ => by simp [lockToRun, setError])⟩
    · exact ⟨hranges, lockOk_of_not_locked hsettled herror (fun h => absurd h hni) (fun _ _ => by simp)⟩
  · exact ⟨hranges, lockOk_of_not_locked hsettled herror (fun h => absurd h hni) (fun _ _ => by simp [Machine.countInvalid])⟩

theorem TimingOk.trackPulse (h : TimingOk t) (hr : t.reference = .genlock) (hl : t.lock = .locked) (tick : Nat) :
    TimingOk (trackPulse tick t) := by
  simp only [Machine.trackPulse]
  split
  · next hin =>
    exact ⟨h.1.withPeriod (inRange_trackPeriod h.1.1 hin).1 rfl rfl rfl rfl,
      lockOk_of_locked hl (by simp [setError, hr]) (fun _ => by simp [setError])⟩
  · exact h.countInvalid

theorem TimingOk.pulseTiming (h : TimingOk t) (tick : Nat) : TimingOk (pulseTiming tick t) := by
  unfold Machine.pulseTiming
  split
  · next hr =>
    split
    · exact h.startPulseRun hr tick
    · exact h.startPulseRun hr tick
    · next hl => exact h.acquirePulse hr hl tick
    · next hl => exact h.trackPulse hr hl tick
  · exact h

/-! ### Marks -/

theorem TimingOk.startMarkRun (h : TimingOk t) (hr : t.reference = .marks) (m : TimeMark) : TimingOk (startMarkRun m t) :=
  ⟨h.1, lockOk_of_not_locked rfl rfl (fun hi => absurd (hi.symm.trans hr) (by decide))
    (fun hg => absurd (hg.symm.trans hr) (by decide))⟩

theorem TimingOk.acquireMark (h : TimingOk t) (hr : t.reference = .marks) (hl : t.lock = .acquiring) (tb : Nat)
    (m : TimeMark) : TimingOk (acquireMark tb m t) := by
  have hni : t.reference ≠ .internal := by simp [hr]
  have hng : t.reference ≠ .genlock := by simp [hr]
  obtain ⟨hsettled, herror⟩ := h.2.1 (by simp [hl])
  unfold Machine.acquireMark
  split
  · exact (h.startMarkRun hr m).countInvalid
  · split
    · exact ⟨h.1, lockOk_of_not_locked hsettled herror (fun h => absurd h hni) (fun h => absurd h hng)⟩
    · split
      · exact ⟨h.1.withPeriod (inRange_clampPeriod _) rfl rfl rfl rfl, lockOk_of_locked rfl hni (fun h => absurd h hng)⟩
      · exact (h.startMarkRun hr m).countInvalid

theorem inPeriodRange_of_periodEstimate {a b : TimeMark} {estimate : Int} (h : periodEstimate a b = some estimate) :
    inPeriodRange estimate = true := by
  simp only [periodEstimate] at h
  split at h
  · next hv => exact Option.some.inj h ▸ hv.2
  · cases h

theorem TimingOk.trackMark (h : TimingOk t) (hr : t.reference = .marks) (hl : t.lock = .locked) (tb : Nat) (m : TimeMark) :
    TimingOk (trackMark tb m t) := by
  have hni : t.reference ≠ .internal := by simp [hr]
  have hng : t.reference ≠ .genlock := by simp [hr]
  simp only [Machine.trackMark]
  split
  · exact ⟨h.1, lockOk_of_locked hl hni fun h => absurd h hng⟩
  · next he =>
    exact ⟨h.1.withPeriod (inRange_trackPeriod h.1.1 (inPeriodRange_of_periodEstimate he)).1 rfl rfl rfl rfl, lockOk_of_locked hl hni fun h => absurd h hng⟩

theorem TimingOk.markTiming (h : TimingOk t) (hr : t.reference = .marks) (tb : Nat) (m : TimeMark) :
    TimingOk (markTiming tb m t) := by
  unfold Machine.markTiming
  split
  · exact h.startMarkRun hr m
  · exact h.startMarkRun hr m
  · next hl => exact h.acquireMark hr hl tb m
  · next hl => exact h.trackMark hr hl tb m

theorem TimingOk.waitTiming (h : TimingOk t) : TimingOk (waitTiming t) := by
  unfold Machine.waitTiming
  split
  · next ho =>
    simp only [marksAcquisitionOver, Bool.and_eq_true, decide_eq_true_eq] at ho
    exact h.timeOutAcquisition (by simp [ho.1.1])
  · split
    · next ho =>
      simp only [marksReferenceOver, Bool.and_eq_true, decide_eq_true_eq] at ho
      exact h.enterHoldover (by simp [ho.1.1])
    · split
      · next ho =>
        simp only [holdoverIsOver, Bool.and_eq_true, decide_eq_true_eq] at ho
        exact h.endHoldover ho.1
      · split
        · exact h
        · split <;> exact h

/-! ### The boundary -/

/-- The phase step is at most period/256 either way (R19). -/
theorem boundaryStep_bounds (t : Timing) (period : Nat) :
    -((period / 256 : Nat) : Int) ≤ boundaryStep t period ∧ boundaryStep t period ≤ (period / 256 : Nat) := by
  simp only [boundaryStep, phaseStep]; split <;> omega

theorem boundaryStep_of_not_locked {period : Nat} (h : t.lock ≠ .locked) : boundaryStep t period = 0 := by
  simp [boundaryStep, h]

theorem TimingOk.fixedTiming (h : TimingOk t) {period : Nat} (hp : InRange period) : TimingOk (fixedTiming period t) := by
  obtain ⟨⟨hperiod, hrate, -, -, hk1, hk2, -⟩, hlock⟩ := h
  have hstep := boundaryStep_bounds t period
  have hlen : 996094 ≤ ((period : Int) - boundaryStep t period).toNat ∧
      ((period : Int) - boundaryStep t period).toNat ≤ 4517578 := by
    simp only [InRange, Config.minPeriod, Config.maxPeriod] at hp; omega
  refine ⟨⟨hperiod, hrate, hlen.1, hlen.2, hk1, hk2, gridSound_gridOf hlen.1 hlen.2 hk1 hk2⟩, fun hl => ?_, hlock.2⟩
  obtain ⟨hsettled, herror⟩ := hlock.1 hl
  have hl' : t.lock ≠ .locked := hl
  simp [Machine.fixedTiming, hl', boundaryStep_of_not_locked hl', hsettled, herror]

theorem timingOk_timingBoundary {s : State} (h : TimingOk s.timing) : TimingOk (timingBoundary s).timing := by
  obtain ⟨n, counters, hn⟩ := numberBoundary_timing (advanceTo s.timing.nextBoundary s)
  rw [advanceTo_timing] at hn
  have hnumber : TimingOk (numberBoundary (advanceTo s.timing.nextBoundary s)).timing := by rw [hn]; exact h
  rw [timingBoundary_timing]
  refine TimingOk.fixedTiming ?_ h.1.1
  rcases referenceBoundary_timing (takenMark s) (numberBoundary (advanceTo s.timing.nextBoundary s)) with he | ⟨m, -, hr, he⟩
  · rw [he]; exact hnumber.waitTiming
  · rw [he]; exact hnumber.markTiming hr _ m

end

/-! ### The commands -/

theorem timingSound_iff_ok (s : State) : TimingSound s ↔ TimingOk s.timing := timingSound_iff s

theorem timingRanges_reset : TimingRanges Timing.reset := by
  unfold TimingRanges InRange GridSound; decide

theorem timingOk_reset (gp : Tab 4 Bool) : TimingOk { Timing.reset with samples := gp } :=
  ⟨timingRanges_reset,
    lockOk_of_not_locked rfl rfl (fun _ => ⟨rfl, rfl⟩) nofun⟩

theorem timingSound_changeTiming {s : State} {after : Timing} (h : TimingOk after) : TimingSound (changeTiming after s) := by
  rw [timingSound_iff_ok, changeTiming_timing]; exact h

theorem TimingOk.setInternalRate {t : Timing} (h : TimingOk t) {rate : Nat} (hr : InRange rate) :
    TimingOk { t with internalRate := rate, period := if t.reference = .internal then rate else t.period } := by
  obtain ⟨⟨hp, -, hrest⟩, hsettled, hinternal, hgenlock⟩ := h
  refine ⟨⟨?_, hr, hrest⟩, hsettled, fun hi => ⟨(hinternal hi).1, if_pos hi⟩, hgenlock⟩
  dsimp only
  split
  · exact hr
  · exact hp

theorem TimingOk.setPwmGrid {t : Timing} (h : TimingOk t) (k : Nat) : TimingOk { t with k := clampNat 1 16 k } := by
  obtain ⟨⟨h1, h2, h3, h4, -, -, h7⟩, hlock⟩ := h
  refine ⟨⟨h1, h2, h3, h4, ?_, ?_, h7⟩, hlock⟩ <;> simp only [clampNat] <;> omega

theorem timingSound_run (c : Instr) {s : State} (hc : ∃ b ∈ [Block.timing], b ∈ touches c)
    (hu : ∀ n, c ≠ .managementUnitStart n) (hs : TimingSound s) : TimingSound (run c s) := by
  obtain ⟨b, hb, hc⟩ := hc
  obtain rfl := List.mem_singleton.mp hb
  have hok := (timingSound_iff_ok s).mp hs
  cases c with
  | managementUnitStart n => exact absurd rfl (hu n)
  | powerOnReset gp =>
    rw [timingSound_iff_ok, run, powerOnReset_timing]; exact timingOk_reset gp
  | lineReset gp =>
    rw [timingSound_iff_ok, run, lineReset_timing]; exact timingOk_reset gp
  | frameBoundary gp o =>
    rw [timingSound_iff_ok, run, frameBoundary_timing]; exact timingOk_timingBoundary hok
  | setReference tag code =>
    simp only [run, doSetReference]
    split
    · exact hs
    · rw [timingSound_iff_ok, answer_timing, changeTiming_timing]; exact hok.restartReference _
  | setInternalRate tag ticks =>
    exact (timingSound_iff_ok _).mpr (hok.setInternalRate (inRange_clampPeriod ticks))
  | setPhaseOffset tag ticks => exact (timingSound_iff_ok _).mpr hok
  | setPwmGrid tag k => exact (timingSound_iff_ok _).mpr (hok.setPwmGrid k)
  | setContactFunction tag input function =>
    simp only [run, doSetContactFunction]
    split <;> exact (timingSound_iff_ok _).mpr hok
  | clearStatus tag block mask =>
    simp only [run, doClearStatus, clearFlags]
    repeat' split
    all_goals exact (timingSound_iff_ok _).mpr hok
  | clearCounters tag block =>
    simp only [run, doClearCounters, clearBlock]
    repeat' split
    all_goals exact (timingSound_iff_ok _).mpr hok
  | holdoverEnd =>
    simp only [run]
    split
    · next h =>
      simp only [holdoverIsOver, Bool.and_eq_true, decide_eq_true_eq] at h
      exact timingSound_changeTiming (hok.endHoldover h.1)
    · exact hs
  | marksAcquisitionTimeout =>
    simp only [run]
    split
    · next h =>
      simp only [marksAcquisitionOver, Bool.and_eq_true, decide_eq_true_eq] at h
      exact timingSound_changeTiming (hok.timeOutAcquisition (by simp [h.1.1]))
    · exact hs
  | marksReferenceLost =>
    simp only [run]
    split
    · next h =>
      simp only [marksReferenceOver, Bool.and_eq_true, decide_eq_true_eq] at h
      exact timingSound_changeTiming (hok.enterHoldover (by simp [h.1.1]))
    · exact hs
  | genlockPulse tick => exact timingSound_changeTiming (hok.pulseTiming tick)
  | acquisitionTimeout =>
    simp only [run]
    split
    · exact hs
    · split
      · next h => exact timingSound_changeTiming (hok.timeOutAcquisition (by simp [h.1]))
      · exact hs
  | referenceLost =>
    simp only [run]
    split
    · exact hs
    · split
      · next h => exact timingSound_changeTiming (hok.enterHoldover (by simp [h.1]))
      · exact hs
  | _ => simp [touches] at hc

/-- Settles O56: every operation on the timing keeps what `TimingSound` says, and no other command touches it. -/
theorem stepsKeepTimingInRange : Obligations.StepsKeepTimingInRange := fun _ _ h hs =>
  timingSound_reads.step_keeps (by decide) (by simp) (fun c _ hc hu => timingSound_run c hc hu) h hs

end Sys2Proof.Machine
end

section
/-! PROOFS. Section 2: the lock machine's changes, Set Reference, Set Phase Offset, Set Contact Function, genlock pulses, and
the ends of acquisition, lock and HOLDOVER. -/

namespace Sys2Proof.Machine

/-- A management command that the engine runs and that ends in an answer adds that answer, settles the stall, and changes
nothing else. -/
theorem answers_exec {c : Instr} (hc : isManagement c = true) {s s' : State} {tag code : Byte} {r : Result}
    {body : List Byte} (hroom : hasRoom s = true) (h : run c s = answer tag code r body s') :
    Answers (exec c s) s' (.answer tag code r body) := by
  rw [exec_of_management hc]; exact answers_of_answer hroom h

/-- A management command that the engine runs and that answers later. -/
theorem reserves_exec {c : Instr} (hc : isManagement c = true) {s s' : State} (hroom : hasRoom s = true)
    (h : run c s = s') : Reserves (exec c s) s' := by
  rw [exec_of_management hc]; exact reserves_of_eq hroom h

/-! ### Changes of the lock machine -/

/-- The body of REFERENCE_STATE (R37). -/
def referenceBody (before after : Timing) : List Byte :=
  u8 after.reference.code ++ u8 before.lock.code ++ u8 after.lock.code ++ flag after.settled ++ u32 after.period

/-- A change of lock state, or of phase settled in LOCKED, is told of (R37). -/
theorem changeTiming_of_change {s : State} {after : Timing}
    (h : s.timing.lock ≠ after.lock ∨ (after.lock = .locked ∧ s.timing.settled ≠ after.settled)) :
    changeTiming after s = (s.setTiming after).setMgmt (s.mgmt.offer .referenceState (referenceBody s.timing after)) :=
  if_pos h

/-- Any other change is not (R37). -/
theorem changeTiming_of_same {s : State} {after : Timing} (h : s.timing.lock = after.lock)
    (hs : after.lock = .locked → s.timing.settled = after.settled) : changeTiming after s = s.setTiming after := by
  have hno : ¬(s.timing.lock ≠ after.lock ∨ (after.lock = .locked ∧ s.timing.settled ≠ after.settled)) := by tauto
  exact if_neg hno

@[simp] theorem referenceOfCode_code (r : Reference) : referenceOfCode r.code = some r := by cases r <;> rfl

theorem referenceOfCode_of_le {code : Nat} (h : 3 ≤ code) : referenceOfCode code = none := by
  obtain ⟨k, rfl⟩ := Nat.exists_eq_add_of_le' h; rfl

@[simp] theorem functionOfCode_code (f : ContactFunction) : functionOfCode f.code = some f := by cases f <;> rfl

theorem functionOfCode_of_lt {code : Nat} (h : 3 < code) : functionOfCode code = none := by
  obtain ⟨k, rfl⟩ := Nat.exists_eq_add_of_le' h; rfl

@[simp] theorem finOf_val {n : Nat} (i : Fin n) : finOf n i.val = some i := by simp [finOf]

theorem finOf_of_le {n v : Nat} (h : n ≤ v) : finOf n v = none := by simp [finOf, Nat.not_lt.mpr h]

theorem finOf_of_lt {n v : Nat} (h : v < n) : finOf n v = some ⟨v, h⟩ := by simp [finOf, h]

/-- Settles O11: by whether the lock state changes, and for Set Reference by whether it was FREE before. -/
theorem referenceRestartsLock : Obligations.ReferenceRestartsLock := by
  refine ⟨fun s after => ⟨changeTiming_of_change, changeTiming_of_same⟩, fun s tag r hroom => ⟨?_, fun code hcode => ?_⟩⟩
  · refine answers_exec rfl hroom ?_
    simp only [run, doSetReference, referenceOfCode_code, changeTiming_timing]
    by_cases hfree : s.timing.lock = .free
    · rw [if_pos hfree, changeTiming_of_same (after := restartReference r s.timing) hfree nofun]; rfl
    · rw [if_neg hfree, changeTiming_of_change (after := restartReference r s.timing) (.inl hfree)]; rfl
  · exact answers_exec rfl hroom (by simp only [run, doSetReference, referenceOfCode_of_le hcode]; rfl)

/-- Settles O14: the commands' own equations, by whether input and function are known. -/
theorem offsetAndFunctionsAreStored : Obligations.OffsetAndFunctionsAreStored := by
  refine ⟨fun s tag ticks hroom => answers_exec rfl hroom rfl, fun s tag input f hroom => answers_exec rfl hroom ?_,
    fun s tag input function hroom h => answers_exec rfl hroom ?_⟩
  · simp only [run, doSetContactFunction, finOf_val, functionOfCode_code]
  · simp only [run, doSetContactFunction]
    rcases h with h | h
    · rw [finOf_of_le h]; rfl
    · rw [functionOfCode_of_lt h]
      cases finOf 4 input <;> rfl

/-! ### Phase errors -/

/-- The wrapped difference is the phase error of an instant against a boundary (R28). -/
theorem phaseOf_wrapError (boundary instant : Nat) {period : Nat} (h : 0 < period) :
    PhaseOf (wrapError ((boundary : Int) - (instant : Nat)) period) boundary instant period := by
  have hpos : (0 : Int) < period := by omega
  have h0 := Int.emod_nonneg ((boundary : Int) - instant) hpos.ne'
  have h1 := Int.emod_lt_of_pos ((boundary : Int) - instant) hpos
  have hd : (period : Int) ∣ (boundary : Int) - instant - ((boundary : Int) - instant) % period :=
    Int.dvd_self_sub_emod
  simp only [wrapError]
  split
  · exact ⟨by omega, by omega, Int.emod_eq_zero_of_dvd hd⟩
  · refine ⟨by omega, by omega, Int.emod_eq_zero_of_dvd ?_⟩
    have := Int.dvd_add hd (dvd_refl (period : Int))
    rwa [show ∀ a b c : Int, a - b + c = a - (b - c) by intros; ring] at this

/-! ### Genlock pulses -/

theorem exec_genlockPulse (tick : Nat) (s : State) :
    exec (.genlockPulse tick) s = .next (changeTiming (pulseTiming tick s.timing) (s.setNow (max s.now tick))) := rfl

theorem inPeriodRange_natCast {v : Nat} : inPeriodRange (v : Int) = true ↔ 1000000 ≤ v ∧ v ≤ 4500000 := by
  rw [inPeriodRange_iff]; omega

/-- What an interval of a run must be (R24). -/
theorem isConsistent_iff {t : Timing} {interval : Nat} :
    isConsistent t interval = true ↔ (1000000 ≤ interval ∧ interval ≤ 4500000) ∧
      (t.run.count = 0 ∨ ((interval : Int) - t.run.first).natAbs ≤ t.period / 1024) := by
  simp only [isConsistent, Bool.and_eq_true, inPeriodRange_natCast, Bool.or_eq_true, decide_eq_true_eq]

theorem clampPeriod_of_inRange {v : Nat} (h : InRange v) : clampPeriod v = v := by
  simp only [InRange, clampPeriod, clampNat, Config.minPeriod, Config.maxPeriod] at *; omega

section
variable {t : Timing} {tick p : Nat}

theorem acquirePulse_of_inconsistent (hp : t.lastPulse = some p) (h : isConsistent t (tick - p) ≠ true) :
    acquirePulse tick t = countInvalid { t with lastPulse := some tick, run := ⟨0, 0, 0⟩ } := by
  simp [acquirePulse, hp, h]

theorem acquirePulse_of_consistent (hp : t.lastPulse = some p) (h : isConsistent t (tick - p) = true) :
    acquirePulse tick t =
      if t.run.count = 3 then lockToRun tick (extendRun t.run (tick - p)) t
      else { t with lastPulse := some tick, run := extendRun t.run (tick - p) } := by
  simp [acquirePulse, hp, h, extendRun]

theorem trackPulse_of_outOfRange (hp : t.lastPulse = some p) (h : inPeriodRange ((tick - p : Nat) : Int) ≠ true) :
    trackPulse tick t = countInvalid t := by simp only [trackPulse, hp, Option.getD_some, if_neg h]

theorem trackPulse_of_inRange (hp : t.lastPulse = some p) (h : inPeriodRange ((tick - p : Nat) : Int) = true) :
    trackPulse tick t =
      let t' := { t with lastPulse := some tick, period := trackPeriod t.period (tick - p : Nat) }
      setError (pulseError t' tick) t' := by simp only [trackPulse, hp, Option.getD_some, if_pos h]

end

/-- Settles O15: by the lock state, then by the tests of the interval. -/
theorem genlockPulsesAcquireAndTrack : Obligations.GenlockPulsesAcquireAndTrack := by
  intro s tick t s' answered
  have hans : ∀ {t'}, pulseTiming tick t = t' → answered t' := fun h => by
    change exec (.genlockPulse tick) s = _
    rw [exec_genlockPulse, h]
  refine ⟨fun hr => ?_, fun hr hl => hans ?_, fun p hr hl hp => ?_, fun p hr hl hp hperiod => ?_⟩
  · rw [exec_genlockPulse, show pulseTiming tick s.timing = s.timing from if_neg hr]
    exact congrArg _ (changeTiming_of_same rfl fun _ => rfl)
  · rcases hl with hl | hl <;> simp only [pulseTiming, if_pos hr, hl] <;> rfl
  · intro interval inRange near run
    have hpulse : pulseTiming tick t = acquirePulse tick t := by simp only [pulseTiming, if_pos hr, hl]
    refine ⟨fun h => hans ?_, fun h1 h2 h3 => hans ?_, fun h1 h2 h3 h4 h5 => ?_⟩
    · have hno : isConsistent t (tick - p) ≠ true := fun hc => h (isConsistent_iff.mp hc)
      rw [hpulse, acquirePulse_of_inconsistent hp hno]; rfl
    · rw [hpulse, acquirePulse_of_consistent hp (isConsistent_iff.mpr ⟨h1, h2⟩), if_neg h3]; rfl
    · have hin : InRange (run.sum / 4) := by simp only [InRange, Config.minPeriod, Config.maxPeriod]; omega
      refine ⟨_, phaseOf_wrapError _ _ (by simp only [InRange, Config.minPeriod] at hin; omega), hans ?_⟩
      rw [hpulse, acquirePulse_of_consistent hp (isConsistent_iff.mpr ⟨h1, h2⟩), if_pos h3]
      simp only [lockToRun, setError, pulseError, offsetInUse, isSettled]
      rw [show (extendRun t.run (tick - p)).sum / 4 = run.sum / 4 from rfl, clampPeriod_of_inRange hin]
      rfl
  · intro interval
    have hpulse : pulseTiming tick t = trackPulse tick t := by simp only [pulseTiming, if_pos hr, hl]
    refine ⟨fun h => hans ?_, fun h1 h2 => ?_⟩
    · rw [hpulse, trackPulse_of_outOfRange hp fun hi => h (inPeriodRange_natCast.mp hi)]; rfl
    · have hi := inPeriodRange_natCast.mpr ⟨h1, h2⟩
      obtain ⟨hin, hcast⟩ := inRange_trackPeriod hperiod hi
      refine ⟨_, _, hcast, phaseOf_wrapError _ _ (by simp only [InRange, Config.minPeriod] at hin; omega), hans ?_⟩
      rw [hpulse, trackPulse_of_inRange hp hi]; rfl

/-! ### Lost references -/

/-- Settles O16: each row by its own test. -/
theorem lostReferencesTimeOut : Obligations.LostReferencesTimeOut := by
  intro s t free holdover
  refine ⟨fun p hr hl hp => ?_, fun p hr hl hp => ?_, fun hr hl hw => ?_, fun hr hl hw => ?_, fun hl hw => ?_⟩
  · rw [exec_of_not_management rfl]
    simp only [run, show s.timing.lastPulse = some p from hp]
    exact congrArg _ (if_pos ⟨hr, hl⟩)
  · rw [exec_of_not_management rfl]
    simp only [run, show s.timing.lastPulse = some p from hp]
    exact congrArg _ (if_pos ⟨hr, hl⟩)
  · have ho : marksAcquisitionOver s.timing = true := by
      simp only [marksAcquisitionOver, show s.timing.reference = .marks from hr, show s.timing.lock = .acquiring from hl,
        show s.timing.markWait = 99 from hw]; rfl
    exact congrArg _ (if_pos ho)
  · have ho : marksReferenceOver s.timing = true := by
      simp only [marksReferenceOver, show s.timing.reference = .marks from hr, show s.timing.lock = .locked from hl,
        show s.timing.markWait = 99 from hw]; rfl
    exact congrArg _ (if_pos ho)
  · have ho : holdoverIsOver s.timing = true := by
      simp only [holdoverIsOver, show s.timing.lock = .holdover from hl, show s.timing.holdoverCount = 249 from hw]; rfl
    exact congrArg _ (if_pos ho)

end Sys2Proof.Machine
end

section
/-! PROOFS. Section 1: the program link, the framer, the unit filter, the intake lanes, and their commands. -/

namespace Sys2Proof.Machine

/-! ### Bytes of a part of a payload -/

theorem byteAt_drop (l : List Byte) (n i : Nat) : byteAt (l.drop n) i = byteAt l (n + i) := by
  simp [byteAt, List.getD_eq_getElem?_getD]

theorem byteAt_take (l : List Byte) {n i : Nat} (h : i < n) : byteAt (l.take n) i = byteAt l i := by
  simp [byteAt, List.getD_eq_getElem?_getD, List.getElem?_take, h]

theorem wordAt_drop (l : List Byte) (n i : Nat) : wordAt (l.drop n) i = wordAt l (n + i) := by
  simp [wordAt, byteAt_drop, Nat.add_assoc]

theorem wordAt_take (l : List Byte) {n i : Nat} (h : i + 1 < n) : wordAt (l.take n) i = wordAt l i := by
  simp [wordAt, byteAt_take l h, byteAt_take l (Nat.lt_of_succ_lt h)]

@[simp] theorem length_elementsOf {α : Type} (size : Nat) (read : List Byte → α) (count : Nat) (l : List Byte) :
    (elementsOf size read count l).length = count := by simp [elementsOf]

theorem getElem?_elementsOf {α : Type} (size : Nat) (read : List Byte → α) {count k : Nat} (h : k < count) (l : List Byte) :
    (elementsOf size read count l)[k]? = some (read ((l.drop (k * size)).take size)) := by
  simp [elementsOf, h]

/-! ### The link and the framer -/

/-- Settles O4: by the state of the link. -/
theorem linkChangesState : Obligations.LinkChangesState := by
  refine ⟨fun s h => ?_, fun s h => ?_, fun s h => ?_, fun s h => ?_⟩
  · rw [exec_of_not_management rfl]
    simp only [run, linkUp, h, Mgmt.linkReturns]
    by_cases hc : s.mgmt.cut = true <;> by_cases hq : s.mgmt.queue = [] <;> simp [hc, hq]
  · rw [exec_of_not_management rfl]; simp only [run, linkUp, h]
  · rw [exec_of_not_management rfl]; simp only [run, linkDown, h]
  · have hq : (!s.mgmt.queue.isEmpty) = decide (s.mgmt.queue ≠ []) := by cases s.mgmt.queue <;> rfl
    rw [exec_of_not_management rfl]
    simp only [run, linkDown, h, hq]
    cases s.intake.framer <;> rfl

theorem huntByte_of_hunt {x : Intake} {held : Bool} (hl : x.link = .up) (hf : x.framer = .hunt held) (b : Byte) :
    huntByte b x = hunt held b x := by simp only [huntByte, hl, hf]

theorem readHeader_of_header {x : Intake} (hl : x.link = .up) (hf : x.framer = .header) (streamId address length : Nat) :
    readHeader streamId address length x =
      if 4 ≤ length ∧ length ≤ 8192 then { x with framer := .body streamId address length }
      else { x with
        framer := .hunt false, counters := { x.counters with lengthErrors := bump x.counters.lengthErrors } } := by
  unfold readHeader; rw [hl, hf]

theorem huntByte_of_down {x : Intake} (hl : x.link = .down) (b : Byte) : huntByte b x = x := by
  unfold huntByte; rw [hl]

theorem readHeader_of_down {x : Intake} (hl : x.link = .down) (streamId address length : Nat) :
    readHeader streamId address length x = x := by unfold readHeader; rw [hl]

/-- Settles O5: by the link, the framer's state, and the byte or length received. -/
theorem framerFindsAndMeasuresUnits : Obligations.FramerFindsAndMeasuresUnits := by
  refine ⟨fun s b hl hf => ?_, fun s b hl hf => ?_, fun s streamId address length hl hf => ?_,
    fun s b streamId address length hl => ⟨?_, ?_⟩⟩
  · change Host.Outcome.next (s.setIntake (huntByte b s.intake)) = _
    rw [huntByte_of_hunt hl hf]; rfl
  · change Host.Outcome.next (s.setIntake (huntByte b s.intake)) = _
    rw [huntByte_of_hunt hl hf]; rfl
  · change Host.Outcome.next (s.setIntake (readHeader streamId address length s.intake)) = _
    rw [readHeader_of_header hl hf]
  · change Host.Outcome.next (s.setIntake (huntByte b s.intake)) = _
    rw [huntByte_of_down hl, State.setIntake_self]
  · change Host.Outcome.next (s.setIntake (readHeader streamId address length s.intake)) = _
    rw [readHeader_of_down hl, State.setIntake_self]

/-! ### The unit filter -/

/-- An entry admits the stream IDs that agree with its value in every bit its mask selects (R8). -/
theorem admits_iff (e : FilterEntry) (streamId : BitVec 16) :
    e.admits streamId = true ↔ ∀ b, e.mask.getLsbD b = true → streamId.getLsbD b = e.value.getLsbD b := by
  simp only [FilterEntry.admits, decide_eq_true_eq]
  constructor
  · intro h b hb
    simpa [hb] using congrArg (BitVec.getLsbD · b) h
  · intro h
    refine BitVec.eq_of_getLsbD_eq fun b _ => ?_
    rw [BitVec.getLsbD_and, BitVec.getLsbD_and]
    cases hm : e.mask.getLsbD b
    · simp
    · simp [h b hm]

/-- Settles O6: the first entry in use that admits the stream ID, found in a list whose head is the fixed entry 0. -/
theorem firstMatchingEntryDecides : Obligations.FirstMatchingEntryDecides := by
  refine fun x streamId => ⟨fun e => ?_, fun h => ⟨?_, rfl⟩⟩
  · have hrefuses : ∀ f : FilterEntry, (!f.admits streamId) = true ↔
        ∃ b, f.mask.getLsbD b = true ∧ streamId.getLsbD b ≠ f.value.getLsbD b := fun f => by
      rw [Bool.not_eq_true', Bool.eq_false_iff, ne_eq, admits_iff]; simp
    generalize hl : entryZero :: x.entries.data = entries
    simp only [decidingEntry, hl, List.find?_eq_some_iff_getElem, admits_iff, hrefuses, List.length_take,
      List.getElem_take]
    constructor
    · rintro ⟨hadmits, i, hi, rfl, hbefore⟩
      refine ⟨i, by omega, List.getElem?_eq_getElem (by omega), hadmits, fun j f hj hf => ?_⟩
      have hlt : j < entries.length := by omega
      rw [List.getElem?_eq_getElem hlt] at hf
      exact Option.some.inj hf ▸ hbefore j hj
    · rintro ⟨i, hi, he, hadmits, hbefore⟩
      obtain ⟨hlt, he⟩ := List.getElem?_eq_some_iff.mp he
      refine ⟨hadmits, i, by omega, he, fun j hj => hbefore j _ hj (List.getElem?_eq_getElem (by omega))⟩
  · obtain ⟨n, hn⟩ : ∃ n, x.inUse = n + 1 := ⟨x.inUse - 1, by omega⟩
    have hzero : entryZero.admits 0#16 = true := by decide
    simp [decidingEntry, hn, hzero]

/-! ### Received units -/

theorem exec_unitReceived (tick : Nat) (payload : List Byte) (crc : BitVec 32) (s : State) :
    exec (.unitReceived tick payload crc) s = .next (receiveUnit tick payload crc s) := rfl

/-- A unit complete in BODY with the link up (R4). -/
theorem receiveUnit_of_body {s : State} {streamId address : Nat} {payload : List Byte} (tick : Nat) (crc : BitVec 32)
    (hl : s.intake.link = .up) (hf : s.intake.framer = .body streamId address payload.length) :
    receiveUnit tick payload crc s = completeUnit streamId address payload crc (advanceTo tick s) := by
  simp only [receiveUnit, hl, hf, if_true]

theorem isAddressed_iff (x : Intake) (address : Nat) :
    isAddressed x address = true ↔ address = 0 ∨ address = x.unitAddress.toNat ∨ x.locked = false := by
  simp [isAddressed, or_assoc]

/-- A good, addressed unit is classified; the framer hunts again (R4, R6). -/
theorem completeUnit_of_good {s : State} {streamId address : Nat} {payload : List Byte} {crc : BitVec 32}
    (hcrc : crc = crc32 (covered streamId address payload.length payload))
    (ha : address = 0 ∨ address = s.intake.unitAddress.toNat ∨ s.intake.locked = false) :
    completeUnit streamId address payload crc s =
      classify streamId payload (s.setIntake { s.intake with framer := .hunt false }) := by
  have ha' : isAddressed { s.intake with framer := .hunt false } address = true := (isAddressed_iff _ _).mpr ha
  simp only [completeUnit, ← hcrc, ne_eq, not_true_eq_false, if_false, State.setIntake_intake, ha', if_true]

theorem fitsClass_iff (cls : UnitClass) (payload : List Byte) :
    fitsClass cls payload = true ↔
      (cls = .management ∧ 4 ≤ payload.length ∧ payload.length ≤ 8192) ∨
        (cls = .picture ∧ 1 ≤ wordAt payload 6 ∧ wordAt payload 6 ≤ 2040 ∧ payload.length = 8 + 4 * wordAt payload 6) ∨
        (cls = .level ∧ 1 ≤ wordAt payload 2 ∧ wordAt payload 2 ≤ 512 ∧ payload.length = 4 + 2 * wordAt payload 2) ∨
        (cls = .timeMark ∧ payload.length = 8) := by
  cases cls <;> simp [fitsClass, and_assoc]

/-- A classified unit whose length fits its class enters its lane (R11). -/
theorem exec_unitReceived_of_classified {s : State} {payload : List Byte} {crc : BitVec 32} {e : FilterEntry}
    (h : Classified s payload crc e) (hd : e.cls ≠ .discard) (hfits : fitsClass e.cls payload = true) (tick : Nat) :
    exec (.unitReceived tick payload crc) s =
      .next (enterLane e payload ((advanceTo tick s).setIntake { s.intake with framer := .hunt false })) := by
  obtain ⟨streamId, address, hl, hf, hcrc, ha, he⟩ := h
  rw [exec_unitReceived, receiveUnit_of_body tick crc hl hf, completeUnit_of_good (s := advanceTo tick s) hcrc ha]
  have he' : decidingEntry { s.intake with framer := .hunt false } (BitVec.ofNat 16 streamId) = some e := he
  simp only [classify, State.setIntake_intake, advanceTo, State.setNow_intake, he', if_neg hd, hfits, if_true]

/-- Settles O7: by the first test that the unit fails. -/
theorem discardedUnitsAreCounted : Obligations.DiscardedUnitsAreCounted := by
  intro s t streamId address length payload crc hl hf hlen x k dropped good addressed pixels levels fits
  subst hlen
  have hrun : exec (.unitReceived t payload crc) s =
      .next (completeUnit streamId address payload crc (advanceTo t s)) := by
    rw [exec_unitReceived, receiveUnit_of_body t crc hl hf]
  have hclassify : good → addressed → exec (.unitReceived t payload crc) s =
      .next (classify streamId payload ((advanceTo t s).setIntake x)) := fun hg ha => by
    rw [hrun, completeUnit_of_good (s := advanceTo t s) hg ha]; rfl
  refine ⟨fun hg => ?_, fun hg ha => ?_, fun hg ha he => ?_, fun e hg ha he => ⟨fun hd => ?_, fun hd hfit => ?_⟩⟩
  · have hg' : crc ≠ crc32 (covered streamId address payload.length payload) := hg
    change exec _ s = _
    rw [hrun, completeUnit, if_pos hg']; rfl
  · have hg' : ¬crc ≠ crc32 (covered streamId address payload.length payload) := not_not.mpr hg
    have ha' : ¬isAddressed x address = true := fun h => ha ((isAddressed_iff _ _).mp h)
    change exec _ s = _
    rw [hrun, completeUnit, if_neg hg']
    exact congrArg _ (if_neg ha')
  · change exec _ s = _
    have he' : decidingEntry x (BitVec.ofNat 16 streamId) = none := he
    rw [hclassify hg ha]
    simp only [classify, State.setIntake_intake, he']; rfl
  · change exec _ s = _
    have he' : decidingEntry x (BitVec.ofNat 16 streamId) = some e := he
    rw [hclassify hg ha]
    simp only [classify, State.setIntake_intake, he', if_pos hd]; rfl
  · change exec _ s = _
    have he' : decidingEntry x (BitVec.ofNat 16 streamId) = some e := he
    have hfit' : ¬fitsClass e.cls payload = true := fun h => hfit ((fitsClass_iff _ _).mp h)
    rw [hclassify hg ha]
    simp only [classify, State.setIntake_intake, he', if_neg hd, if_neg hfit']; rfl

/-- A unit that joins the lane leaves the engine stalled exactly where no answer has room (R174). -/
theorem settleEngine_of_lane {s : State} (h : s.intake.lane ≠ []) :
    settleEngine s = s.setMgmt { s.mgmt with
      stalled := !hasRoom s
      counters := { s.mgmt.counters with stalls := bumpIf (!s.mgmt.stalled && !hasRoom s) s.mgmt.counters.stalls } } := by
  obtain ⟨stalled, stalls, he, h1, h2⟩ := settleEngine_cases s
  have hlane : (!s.intake.lane.isEmpty) = true := by simpa using h
  rw [hlane, Bool.true_and] at h1
  rw [he, h2, h1]

/-- The levels of a level unit, channel by channel (R14). -/
theorem writeLevels_get (first : Nat) (payload : List Byte) (count : Nat) (x : Source) (ch : Fin 512) :
    let y := writeLevels first (elementsOf 2 levelOfBytes count (payload.drop 4)) x
    if first ≤ ch.val ∧ ch.val < first + count then
      y.cover.get ch = true ∧ y.image.get ch = BitVec.ofNat 16 (wordAt payload (4 + 2 * (ch.val - first)))
    else y.cover.get ch = x.cover.get ch ∧ y.image.get ch = x.image.get ch := by
  simp only [writeLevels, Tab.get_mapFin, Tab.get_writeFrom, length_elementsOf]
  split
  · next h =>
    have hk : ch.val - first < count := by omega
    refine ⟨by simp [h], ?_⟩
    rw [if_pos h.1, List.getD_eq_getElem?_getD, getElem?_elementsOf 2 _ hk, Option.getD_some, levelOfBytes,
      wordAt_take _ (by omega), wordAt_drop, wordAt_drop]
    congr 2; omega
  · next h =>
    have hno : (decide (first ≤ ch.val) && decide (ch.val < first + count)) = false := by
      simpa using fun h1 => not_lt.mp fun h2 => h ⟨h1, h2⟩
    refine ⟨by rw [hno, Bool.or_false], ?_⟩
    split
    · next h1 =>
      rw [List.getD_eq_default]
      rw [length_elementsOf]; omega
    · rfl

/-- A management unit joins a lane of fewer than 8 units (R12). -/
theorem joinLane_of_lt {s : State} (h : s.intake.lane.length < 8) (payload : List Byte) :
    joinLane payload s = settleEngine (s.setIntake { s.intake with
      lane := s.intake.lane ++ [⟨payload.getD 0 0, payload.getD 1 0, payload.drop 2⟩]
      counters := { s.intake.counters with managementUnits := bump s.intake.counters.managementUnits } }) := if_pos h

theorem joinLane_of_le {s : State} (h : 8 ≤ s.intake.lane.length) (payload : List Byte) :
    joinLane payload s = s.setIntake { s.intake with
      laneOverflow := true
      counters := { s.intake.counters with laneOverflows := bump s.intake.counters.laneOverflows } } :=
  if_neg (not_lt.mpr h)

/-- Settles O8: by the class of the unit. -/
theorem unitsReachTheirLanes : Obligations.UnitsReachTheirLanes := by
  intro s t payload crc e hc x k s'
  refine ⟨fun hm h1 h2 hlane => ?_, fun hm h1 h2 hlane => ?_, fun hm h8 => ?_, fun source hm hsource h1 h2 h3 => ?_⟩
  · rw [exec_unitReceived_of_classified hc (by simp [hm]) ((fitsClass_iff _ _).mpr (.inl ⟨hm, h1, h2⟩))]
    simp only [enterLane, hm]
    rw [joinLane_of_lt (by exact hlane), settleEngine_of_lane (by simp)]; rfl
  · rw [exec_unitReceived_of_classified hc (by simp [hm]) ((fitsClass_iff _ _).mpr (.inl ⟨hm, h1, h2⟩))]
    simp only [enterLane, hm]
    rw [joinLane_of_le (by exact hlane)]; rfl
  · rw [exec_unitReceived_of_classified hc (by simp [hm])
      ((fitsClass_iff _ _).mpr (.inr (.inr (.inr ⟨hm, h8⟩))))]
    simp only [enterLane, hm, fillSlot, State.setIntake_intake]
    cases s.intake.slot <;> rfl
  · refine ⟨writeLevels (wordAt payload 0) (elementsOf 2 levelOfBytes (wordAt payload 2) (payload.drop 4)) (s.source source),
      ?_, writeLevels_get _ _ _ _⟩
    rw [exec_unitReceived_of_classified hc (by simp [hm])
      ((fitsClass_iff _ _).mpr (.inr (.inr (.inl ⟨hm, h1, h2, h3⟩))))]
    have hk : finOf 3 (e.source.val - 1) = some source := by rw [hsource]; exact finOf_val source
    simp only [enterLane, hm, writeLevelUnit, hk]; rfl

/-! ### The commands of the intake -/

theorem labelOk_iff (label : List Byte) : labelOk label = true ↔ ∀ b ∈ label, 0x20 ≤ b.toNat ∧ b.toNat ≤ 0x7E := by
  simp [labelOk]

theorem ofList_data {n : Nat} {α : Type} {values : List α} (h : values.length = n) (d : α) :
    (Tab.ofList n d values).data = values := by
  subst h
  refine List.ext_getElem (Tab.ofList _ d values).size fun i h1 h2 => ?_
  simp [Tab.ofList, Tab.ofFn]

/-- Settles O9: by the tests of Set Identity in their order. -/
theorem identityIsWrittenOnce : Obligations.IdentityIsWrittenOnce := by
  intro s tag address label hroom hlen haddr c printable
  have hlen' : ¬label.length ≠ 16 := not_not.mpr hlen
  refine ⟨fun hlocked => answers_exec rfl hroom ?_, fun hlocked h => answers_exec rfl hroom ?_,
    fun hlocked h1 h2 => ⟨Tab.ofList 16 0x20 label, ofList_data hlen _, answers_exec rfl hroom ?_⟩⟩
  · change doSetIdentity tag address label s = _
    simp only [doSetIdentity, if_neg hlen', hlocked, if_true]; rfl
  · have hbad : address = 0 ∨ 255 < address ∨ labelOk label = false := by
      rw [← Bool.not_eq_true, labelOk_iff]; tauto
    change doSetIdentity tag address label s = _
    simp only [doSetIdentity, if_neg hlen', hlocked, Bool.false_eq_true, if_false, if_pos hbad]; rfl
  · have hgood : ¬(address = 0 ∨ 255 < address ∨ labelOk label = false) := by
      rw [← Bool.not_eq_true, labelOk_iff]
      rintro (h | h | h)
      · exact h1 h
      · omega
      · exact h h2
    change doSetIdentity tag address label s = _
    simp only [doSetIdentity, if_neg hlen', hlocked, Bool.false_eq_true, if_false, if_neg hgood]; rfl

@[simp] theorem classOfCode_code (k : UnitClass) : classOfCode k.code = some k := by cases k <;> rfl

theorem classOfCode_of_lt {code : Nat} (h : 4 < code) : classOfCode code = none := by
  obtain ⟨k, rfl⟩ := Nat.exists_eq_add_of_le' h; rfl

/-- An entry that R9 refuses: an unknown class, or a level class with a source outside S1 to S3. -/
theorem filterEntry_eq_none {value mask cls source : Nat}
    (h : 4 < cls ∨ (cls = UnitClass.level.code ∧ (source = 0 ∨ 3 < source))) : filterEntry value mask cls source = none := by
  rcases h with h | ⟨rfl, h⟩
  · simp only [filterEntry, classOfCode_of_lt h]
  · have hno : ¬(1 ≤ source ∧ source ≤ 3) := by omega
    simp only [filterEntry, classOfCode_code, if_true, if_neg hno]

theorem filterEntry_eq_some {value mask source : Nat} {k : UnitClass} (h : k = .level → 1 ≤ source ∧ source ≤ 3) :
    filterEntry value mask k.code source =
      some ⟨BitVec.ofNat 16 value, BitVec.ofNat 16 mask, k, if k = .level then Fin.ofNat 4 source else 0⟩ := by
  by_cases hk : k = .level
  · simp only [filterEntry, classOfCode_code, if_pos hk, if_pos (h hk)]
  · simp only [filterEntry, classOfCode_code, if_neg hk]

/-- Settles O10: by the tests of Set Filter and Set Filters In Use. -/
theorem filterCommandsStore : Obligations.FilterCommandsStore := by
  refine ⟨fun s tag index value mask cls source hroom => ⟨fun h => answers_exec rfl hroom ?_, ?_⟩,
    fun s tag count hroom => ⟨fun h1 h2 => answers_exec rfl hroom ?_, fun h => answers_exec rfl hroom ?_⟩⟩
  · simp only [run, doSetFilter]
    have hnone : (if index = 0 then none else finOf 15 (index - 1)) = none ∨ filterEntry value mask cls source = none := by
      rcases h with h | h | h
      · exact .inl (if_pos h)
      · exact .inl (by rw [finOf_of_le (by omega)]; split <;> rfl)
      · exact .inr (filterEntry_eq_none h)
    rcases hnone with h | h
    · rw [h]; rfl
    · rw [h]
      rcases (if index = 0 then none else finOf 15 (index - 1) : Option (Fin 15)) with _ | i <;> rfl
  · intro i k hi hk hs stored
    refine answers_exec rfl hroom ?_
    have hindex : (if index = 0 then none else finOf 15 (index - 1)) = some i := by
      rw [if_neg (by omega), hi]; exact finOf_val i
    simp only [run, doSetFilter, hindex, hk, filterEntry_eq_some hs]; rfl
  · simp only [run, doSetFiltersInUse, if_pos (And.intro h1 h2)]
  · simp only [run, doSetFiltersInUse, if_neg (show ¬(1 ≤ count ∧ count ≤ 16) by omega)]; rfl

end Sys2Proof.Machine
end

section
/-! PROOFS. Every step keeps limiter gains, sources and output pairs sound (sections 7, 8 and 10). -/

namespace Sys2Proof.Machine

theorem clampNat_bounds {low high : Nat} (h : low ≤ high) (v : Nat) :
    low ≤ clampNat low high v ∧ clampNat low high v ≤ high := by simp only [clampNat]; omega

/-! ### The limiter -/

/-- What `LimiterSound` says of one chain. -/
def LimiterOk (x : ChainLimiter) : Prop :=
  x.gain ≤ x.target ∧ 256 ≤ x.gain ∧ x.target ≤ 4096 ∧ 1 ≤ x.step ∧ x.step ≤ 4096 ∧ (x.budget = 0 → x.gain = 4096)

theorem limiterSound_iff (s : State) : LimiterSound s ↔ ∀ c, LimiterOk (s.limiter.chains.get c) := Iff.rfl

theorem limiterSound_reads : Reads [.limiter] LimiterSound := fun s t h hs => by
  have hc : t.limiter.chains = s.limiter.chains := h .limiter (by simp)
  rw [limiterSound_iff, hc]
  exact hs

/-- The target lies from the floor to full, and is full without a budget (R121, R122). -/
theorem targetOf_bounds (budget demand : Nat) :
    256 ≤ (targetOf budget demand).1 ∧ (targetOf budget demand).1 ≤ 4096 ∧
      (budget = 0 → (targetOf budget demand).1 = 4096) := by
  unfold targetOf
  split
  · exact ⟨by omega, le_rfl, fun _ => rfl⟩
  · next h =>
    have hlt : 4096 * budget / demand ≤ 4096 := Nat.div_le_of_le_mul (by rw [Nat.mul_comm]; exact Nat.mul_le_mul_right _ (by omega))
    split
    · exact ⟨le_rfl, by omega, fun hb => absurd (.inl hb) h⟩
    · exact ⟨by omega, hlt, fun hb => absurd (.inl hb) h⟩

/-- The gain falls to the target, or rises towards it (R123). -/
theorem nextGain_bounds {gain step target : Nat} (hg : 256 ≤ gain) (ht : 256 ≤ target) :
    256 ≤ nextGain gain step target ∧ nextGain gain step target ≤ target ∧
      (gain = target → nextGain gain step target = target) := by
  simp only [nextGain]; split <;> omega

theorem LimiterOk.updateRecord {x : ChainLimiter} (h : LimiterOk x) (tiles : List Nat) (n : FrameNo) :
    LimiterOk (updateRecord tiles n x) := by
  obtain ⟨-, hg, -, hs1, hs2, hb⟩ := h
  obtain ⟨ht1, ht2, ht0⟩ := targetOf_bounds x.budget tiles.sum
  obtain ⟨h1, h2, h3⟩ := nextGain_bounds (step := x.step) hg ht1
  refine ⟨h2, h1, ht2, hs1, hs2, fun h0 => ?_⟩
  have h0' : x.budget = 0 := h0
  change nextGain x.gain x.step (targetOf x.budget tiles.sum).1 = 4096
  rw [h3 ((hb h0').trans (ht0 h0').symm), ht0 h0']

theorem LimiterOk.budgetRecord {x : ChainLimiter} (h : LimiterOk x) (budget step : Nat) :
    LimiterOk (budgetRecord budget step x) := by
  obtain ⟨h1, h2, h3, -, -, -⟩ := h
  obtain ⟨hs1, hs2⟩ := clampNat_bounds (by omega : 1 ≤ 4096) step
  simp only [Machine.budgetRecord]
  split
  · exact ⟨le_rfl, by simp, le_rfl, hs1, hs2, fun _ => rfl⟩
  · next hb => exact ⟨h1, h2, h3, hs1, hs2, fun h0 => absurd h0 hb⟩

theorem limiterSound_setChain {s : State} (hs : LimiterSound s) (c : Fin 8) {x : ChainLimiter} (hx : LimiterOk x) :
    LimiterSound (s.setChain c x) := fun d => by
  change LimiterOk ((s.limiter.chains.set c x).get d)
  rw [Tab.get_set]
  split
  · exact hx
  · exact hs d

theorem limiterSound_updateChain (c : Fin 8) {s : State} (hs : LimiterSound s) : LimiterSound (updateChain c s) := by
  unfold updateChain
  split
  · exact hs
  · split
    · exact limiterSound_reads.keeps (m := [.mgmt]) ((only_offerLimiter _ _ _ (by simp)).mpr (.refl _ _)) (by decide)
        (limiterSound_setChain hs c (LimiterOk.updateRecord (hs c) _ _))
    · exact hs

theorem limiterSound_limiterBoundary {s : State} (hs : LimiterSound s) : LimiterSound (limiterBoundary s) := by
  have hloop : LimiterSound (forEach updateChain s) :=
    forEach_keeps LimiterSound _ (fun c _ => limiterSound_updateChain c) s hs
  simp only [limiterBoundary]
  split
  · exact hloop
  · exact hloop

theorem limiterSound_frameBoundary (gp : Tab 4 Bool) (o : CommitOrder) {s : State} (hs : LimiterSound s) :
    LimiterSound (frameBoundary gp o s) := by
  have hopening := limiterSound_reads.keeps (boundaryOpening_only s) (by decide) hs
  have hlook := limiterSound_reads.keeps (boundaryLook_only _ gp o) (by decide) hopening
  have hmarkers : LimiterSound (sendMarkers (autoHoldBoundary (boundaryLook gp o (boundaryOpening s)))) :=
    limiterSound_reads.keeps (m := [.canvas, .mgmt, .ports, .sent]) (by simp) (by decide) hlook
  have hwall : LimiterSound (boundaryWall (boundaryLook gp o (boundaryOpening s))) :=
    limiterSound_reads.keeps (m := [.ports, .level, .mgmt, .sent]) (by simp [boundaryWall]) (by decide)
      (limiterSound_limiterBoundary hmarkers)
  exact limiterSound_reads.keeps (boundaryContacts_only _ gp o) (by decide)
    (limiterSound_reads.keeps (boundaryLight_only _) (by decide) hwall)

theorem limiterOk_reset : LimiterOk ChainLimiter.reset := by unfold LimiterOk; decide

theorem limiterSound_run (c : Instr) {s : State} (hc : ∃ b ∈ [Block.limiter], b ∈ touches c)
    (hu : ∀ n, c ≠ .managementUnitStart n) (hs : LimiterSound s) : LimiterSound (run c s) := by
  obtain ⟨b, hb, hc⟩ := hc
  obtain rfl := List.mem_singleton.mp hb
  have hreset : ∀ c, LimiterOk (Limiter.reset.chains.get c) := fun c => by
    rw [show Limiter.reset.chains = Tab.replicate 8 ChainLimiter.reset from rfl, Tab.get_replicate]; exact limiterOk_reset
  cases c with
  | managementUnitStart n => exact absurd rfl (hu n)
  | powerOnReset gp => exact limiterSound_reads.keeps (trainPresent_only (defaults gp s)) (by decide) hreset
  | lineReset gp =>
    exact limiterSound_reads.keeps (trainPresent_only ((defaults gp s).setIntake (keptIdentity s.intake))) (by decide) hreset
  | frameBoundary gp o => exact limiterSound_frameBoundary gp o hs
  | setChainBudget tag chain budget step =>
    simp only [run, doSetChainBudget]
    split
    · exact hs
    · next c _ =>
      refine limiterSound_reads.keeps (m := [.mgmt, .ports]) (s := s.setChain c (budgetRecord budget step (s.chain c)))
        (by simp) (by decide) ?_
      exact limiterSound_setChain hs c (LimiterOk.budgetRecord (hs c) budget step)
  | clearCounters tag block =>
    simp only [run, doClearCounters, clearBlock]
    repeat' split
    case h_6 =>
      intro c
      change LimiterOk ((s.limiter.chains.map _).get c)
      rw [Tab.get_map]
      exact hs c
    all_goals exact hs
  | _ => simp [touches] at hc

/-! ### The sources -/

/-- What `MergeSound` says of one source. -/
def SourceOk (x : Source) : Prop :=
  x.priority ≤ 7 ∧ (∀ v, x.request = some v → v ≤ 7) ∧ 1 ≤ x.timeout ∧ x.timeout ≤ 1000 ∧ x.silence ≤ 1000 ∧
    (x.live = false → x.silence = 0 ∧ ∀ ch, x.cover.get ch = false)

/-- What `MergeSound` says of the merge block. -/
def MergeOk (m : Merge) : Prop :=
  m.priority0 ≤ 7 ∧ (∀ v, m.request0 = some v → v ≤ 7) ∧ ∀ k, SourceOk (m.sources.get k)

theorem mergeSound_iff (s : State) : MergeSound s ↔ MergeOk s.merge := Iff.rfl

theorem mergeSound_reads : Reads [.merge] MergeSound := fun s t h hs => by
  have hm : t.merge = s.merge := h .merge (by simp)
  rw [mergeSound_iff, hm]
  exact hs

theorem MergeOk.withSources {m : Merge} (h : MergeOk m) {sources : Tab 3 Source} (hs : ∀ k, SourceOk (sources.get k)) :
    MergeOk { m with sources := sources } := ⟨h.1, h.2.1, hs⟩

theorem MergeOk.withLook {m : Merge} (h : MergeOk m) (look : Tab 512 LookEntry) : MergeOk { m with look := look } := h

theorem mergeSound_setSource {s : State} (hs : MergeSound s) (k : Fin 3) {x : Source} (hx : SourceOk x) :
    MergeSound (s.setSource k x) := MergeOk.withSources hs fun j => by
  rw [Tab.get_set]
  split
  · exact hx
  · exact hs.2.2 j

theorem mergeOk_map {m : Merge} (h : MergeOk m) {g : Source → Source} (hg : ∀ x, SourceOk x → SourceOk (g x)) :
    MergeOk { m with sources := m.sources.map g } := h.withSources fun k => by
  rw [Tab.get_map]; exact hg _ (h.2.2 k)

theorem SourceOk.writeLevels {x : Source} (h : SourceOk x) (first : Nat) (levels : List Level) :
    SourceOk (writeLevels first levels x) := by
  obtain ⟨h1, h2, h3, h4, -, -⟩ := h
  simp only [SourceOk, Machine.writeLevels]
  exact ⟨h1, h2, h3, h4, by omega, nofun⟩

/-- A source without a live unit covers nothing. -/
theorem SourceOk.silent {x y : Source} (h : SourceOk x) (hp : y.priority = x.priority) (hr : y.request = x.request)
    (ht : y.timeout = x.timeout) (hs : y.silence = 0) (hc : y.cover = Tab.replicate 512 false) : SourceOk y := by
  obtain ⟨h1, h2, h3, h4, -, -⟩ := h
  refine ⟨hp ▸ h1, hr ▸ h2, ht ▸ h3, ht ▸ h4, by omega, fun _ => ⟨hs, fun ch => ?_⟩⟩
  rw [hc, Tab.get_replicate]

theorem SourceOk.goSilent {x : Source} (h : SourceOk x) : SourceOk (goSilent x) := h.silent rfl rfl rfl rfl rfl

theorem SourceOk.flushSource {x : Source} (h : SourceOk x) : SourceOk (flushSource x) := h.silent rfl rfl rfl rfl rfl

theorem SourceOk.silenceTest {x : Source} (h : SourceOk x) : SourceOk (silenceTest x) := by
  simp only [Machine.silenceTest]
  split
  · exact h.goSilent
  · next hover =>
    split
    · next hlive =>
      obtain ⟨h1, h2, h3, h4, h5, h6⟩ := h
      simp only [Bool.and_eq_true, Bool.not_eq_true'] at hlive
      simp only [silenceIsOver, hlive, Bool.not_false, Bool.and_self, Bool.true_and, decide_eq_true_eq, not_le] at hover
      exact ⟨h1, h2, h3, h4, by dsimp only; omega, fun hl => absurd (hlive.1.symm.trans hl) (by decide)⟩
    · exact h

theorem SourceOk.applyRequest {x : Source} (h : SourceOk x) : SourceOk (applyRequest x) := by
  obtain ⟨h1, h2, hrest⟩ := h
  refine ⟨?_, nofun, hrest⟩
  simp only [Machine.applyRequest]
  cases hr : x.request with
  | none => exact h1
  | some v => exact h2 v hr

theorem MergeOk.applyPriorities {m : Merge} (h : MergeOk m) :
    MergeOk { m with
      priority0 := m.request0.getD m.priority0, request0 := none, sources := m.sources.map Machine.applyRequest } := by
  have hsources := mergeOk_map h fun _ => SourceOk.applyRequest
  refine ⟨?_, nofun, hsources.2.2⟩
  dsimp only
  cases hr : m.request0 with
  | none => exact h.1
  | some v => exact h.2.1 v hr

theorem mergeSound_enterLane {s : State} (hs : MergeSound s) (e : FilterEntry) (payload : List Byte) :
    MergeSound (enterLane e payload s) := by
  have hkeeps : ∀ t, OnlyChanges [.canvas, .lane, .buffer, .slot, .intake, .accumulation, .mgmt] s t → MergeSound t :=
    fun t h => mergeSound_reads.keeps h (by decide) hs
  unfold enterLane
  split
  · exact hkeeps _ (by simp)
  · exact hkeeps _ (by simp)
  · simp only [writeLevelUnit]
    split
    · exact hs
    · next k _ => exact mergeSound_setSource hs k (SourceOk.writeLevels (hs.2.2 k) _ _)
  · exact hkeeps _ (by simp)
  · exact hs

theorem mergeSound_receiveUnit {s : State} (hs : MergeSound s) (tick : Nat) (payload : List Byte) (crc : BitVec 32) :
    MergeSound (receiveUnit tick payload crc s) := by
  simp only [receiveUnit, completeUnit, classify]
  repeat' split
  case h_2.isFalse.isTrue => exact mergeSound_enterLane (by exact hs) _ _
  all_goals exact hs

theorem mergeSound_frameBoundary (gp : Tab 4 Bool) (o : CommitOrder) {s : State} (hs : MergeSound s) :
    MergeSound (frameBoundary gp o s) := by
  have hopening : MergeSound (boundaryOpening s) := by
    have hpresent : MergeSound (applySettings (presentFrame (timingBoundary s))) :=
      mergeSound_reads.keeps (m := [.now, .slot, .buffer, .timing, .mgmt, .canvas, .drive]) (by simp) (by decide) hs
    have hlight : MergeSound (lightHoldBoundary (applyPriorities (applySettings (presentFrame (timingBoundary s))))) :=
      mergeSound_reads.keeps (m := [.canvas, .mgmt]) (s := applyPriorities _) (by simp) (by decide)
        (MergeOk.applyPriorities hpresent)
    exact mergeOk_map hlight fun _ => SourceOk.silenceTest
  have htakes := mergeSound_reads.keeps (takesAtBoundary_only _ gp o) (by decide) hopening
  have hlook : MergeSound (boundaryLook gp o (boundaryOpening s)) := MergeOk.withLook htakes _
  have hwall := mergeSound_reads.keeps (boundaryWall_only _) (by decide) hlook
  have hlight := mergeSound_reads.keeps (boundaryLight_only _) (by decide) hwall
  exact mergeSound_reads.keeps (boundaryContacts_only _ gp o) (by decide) hlight

theorem sourceOk_reset : SourceOk Source.reset :=
  ⟨by decide, nofun, by decide, by decide, by decide, fun _ => ⟨rfl, fun ch => Tab.get_replicate false ch⟩⟩

theorem mergeOk_reset : MergeOk Merge.reset :=
  ⟨by decide, nofun, fun k => by
    rw [show Merge.reset.sources = Tab.replicate 3 Source.reset from rfl, Tab.get_replicate]; exact sourceOk_reset⟩

theorem mergeSound_requestPriority {s : State} (hs : MergeSound s) (source : Nat) {priority : Nat} (hp : priority ≤ 7) :
    MergeSound (requestPriority source priority s) := by
  have hrequest : ∀ v, some priority = some v → v ≤ 7 := fun v hv => Option.some.inj hv ▸ hp
  unfold requestPriority
  split
  · exact ⟨hs.1, hrequest, hs.2.2⟩
  · split
    · exact hs
    · next k _ =>
      obtain ⟨h1, -, hrest⟩ := hs.2.2 k
      exact mergeSound_setSource hs k ⟨h1, hrequest, hrest⟩

theorem mergeSound_run (c : Instr) {s : State} (hc : ∃ b ∈ [Block.merge], b ∈ touches c)
    (hu : ∀ n, c ≠ .managementUnitStart n) (hs : MergeSound s) : MergeSound (run c s) := by
  obtain ⟨b, hb, hc⟩ := hc
  obtain rfl := List.mem_singleton.mp hb
  cases c with
  | managementUnitStart n => exact absurd rfl (hu n)
  | powerOnReset gp => exact mergeSound_reads.keeps (trainPresent_only (defaults gp s)) (by decide) mergeOk_reset
  | lineReset gp =>
    exact mergeSound_reads.keeps (trainPresent_only ((defaults gp s).setIntake (keptIdentity s.intake))) (by decide)
      mergeOk_reset
  | unitReceived tick payload crc => exact mergeSound_receiveUnit hs tick payload crc
  | frameBoundary gp o => exact mergeSound_frameBoundary gp o hs
  | setSourcePriority tag source priority =>
    simp only [run, doSetSourcePriority]
    split
    · exact hs
    · next h => exact mergeSound_requestPriority hs source (by omega)
  | setSourceTimeout tag source timeout =>
    simp only [run, doSetSourceTimeout]
    split
    · exact hs
    · next k _ =>
      obtain ⟨h1, h2, -, -, hrest⟩ := hs.2.2 k
      obtain ⟨ht1, ht2⟩ := clampNat_bounds (by omega : 1 ≤ 1000) timeout
      exact mergeSound_setSource hs k ⟨h1, h2, ht1, ht2, hrest⟩
  | sourceSilenceTimeout k =>
    simp only [run]
    split
    · exact mergeSound_setSource hs k (SourceOk.goSilent (hs.2.2 k))
    · exact hs
  | clearStatus tag block mask =>
    simp only [run, doClearStatus, clearFlags]
    repeat' split
    case h_6 => exact MergeOk.withSources hs fun k => by rw [Tab.get_mapFin]; exact hs.2.2 k
    all_goals exact hs
  | clearCounters tag block =>
    simp only [run, doClearCounters, clearBlock]
    repeat' split
    case h_7 => exact mergeOk_map hs fun _ hx => hx
    all_goals exact hs
  | flushInputs tag =>
    have hlanes : MergeSound (flushLanes (abandonFrame s)) :=
      mergeSound_reads.keeps (m := [.canvas, .buffer, .slot, .accumulation]) (by simp) (by decide) hs
    exact mergeOk_map hlanes fun _ => SourceOk.flushSource
  | _ => simp [touches] at hc

/-! ### The outputs -/

theorem driveSound_reads : Reads [.drive] DriveSound := fun s t h hs => by
  have hd : t.drive = s.drive := h .drive (by simp)
  unfold DriveSound
  rw [hd]
  exact hs

/-- The warm part of a duty is within it (R75). -/
theorem warmDuty_le (d x : Nat) : warmDuty d x ≤ d := by
  have h : d * (65535 - x) ≤ d * 65535 := Nat.mul_le_mul_left d (Nat.sub_le _ _)
  simp only [warmDuty]; omega

theorem evenOutput_evenOutput (o : Fin 16) : evenOutput (evenOutput o) = evenOutput o := Fin.ext (by simp [evenOutput])

theorem evenOutput_oddOutput (o : Fin 16) : evenOutput (oddOutput o) = evenOutput o :=
  Fin.ext (by change 2 * ((2 * (o.val / 2) + 1) / 2) = 2 * (o.val / 2); omega)

theorem evenOutput_parity (o : Fin 16) : decide ((evenOutput o).val % 2 = 1) = false := by simp [evenOutput]

theorem oddOutput_parity (o : Fin 16) : decide ((oddOutput o).val % 2 = 1) = true := by
  exact decide_eq_true (by change (2 * (o.val / 2) + 1) % 2 = 1; omega)

/-- The even and the odd output take up a staged pair together, as the parts of one duty (R75, R161). -/
theorem pairSound_takenUp (n : Nat) (even odd : Staged) : PairSound (takenUp n false even even) (takenUp n true odd even) := by
  cases even with
  | pair intensity mix => cases odd <;> simp [PairSound, takenUp, pairDuties, warmDuty_le]
  | none => cases odd <;> simp [PairSound, takenUp]
  | value v => cases odd <;> simp [PairSound, takenUp]

theorem driveSound_takeUp {s : State} (hs : DriveSound s) : DriveSound (takeUp s) := by
  unfold takeUp
  split
  · exact hs
  · intro o
    obtain ⟨-, hforce, hrequest⟩ := hs o
    simp only [State.setDrive_drive, Tab.get_mapFin, evenOutput_evenOutput, evenOutput_oddOutput, evenOutput_parity,
      oddOutput_parity]
    exact ⟨pairSound_takenUp _ _ _, hforce, hrequest⟩

theorem driveSound_applySettings {s : State} (hs : DriveSound s) : DriveSound (applySettings s) := by
  intro o
  obtain ⟨hpair, hforce, hrequest⟩ := hs o
  simp only [applySettings, State.setDrive_drive, Tab.get_map]
  refine ⟨hpair, ?_, nofun⟩
  simp only [PwmOutput.applySettings]
  cases hr : (s.drive.get o).requested with
  | none => exact hforce
  | some x => exact hrequest x hr

theorem driveSound_evaluateLight {s : State} (hs : DriveSound s) : DriveSound (evaluateLight s) := by
  intro o
  simp only [evaluateLight, State.setFixture_drive, State.setDrive_drive, Tab.get_mapFin]
  exact hs o

theorem driveSound_frameBoundary (gp : Tab 4 Bool) (o : CommitOrder) {s : State} (hs : DriveSound s) :
    DriveSound (frameBoundary gp o s) := by
  have hopening : DriveSound (boundaryOpening s) :=
    driveSound_reads.keeps (m := [.merge, .canvas, .mgmt]) (s := applySettings (presentFrame (timingBoundary s)))
      (by simp [boundaryOpening]) (by decide) (driveSound_applySettings
        (driveSound_reads.keeps (m := [.now, .slot, .buffer, .timing, .mgmt, .canvas]) (by simp) (by decide) hs))
  have hwall : DriveSound (boundaryWall (boundaryLook gp o (boundaryOpening s))) :=
    driveSound_reads.keeps (boundaryWall_only _) (by decide)
      (driveSound_reads.keeps (boundaryLook_only _ gp o) (by decide) hopening)
  have hlight : DriveSound (boundaryLight (boundaryWall (boundaryLook gp o (boundaryOpening s)))) :=
    driveSound_reads.keeps (m := [.fixture, .mgmt])
      (s := evaluateLight (forEach refreshBoundary (takeUp (boundaryWall (boundaryLook gp o (boundaryOpening s))))))
      (by simp [boundaryLight]) (by decide) (driveSound_evaluateLight
        (driveSound_reads.keeps (m := [.fixture]) (by simp) (by decide) (driveSound_takeUp hwall)))
  exact driveSound_reads.keeps (boundaryContacts_only _ gp o) (by decide) hlight

theorem settingsSound_of_inRange {o : Fin 16} {alignment polarity phase : Nat} {pair : Bool}
    (h : pwmInRange o alignment polarity phase pair = true) : SettingsSound o (pwmSettings alignment polarity phase pair) := by
  simp only [pwmInRange, Bool.and_eq_true, decide_eq_true_eq, Bool.not_eq_true', Bool.and_eq_false_iff,
    decide_eq_false_iff_not] at h
  refine ⟨h.1.2, fun hp => ?_⟩
  have hp' : pair = true := hp
  rcases h.2 with h | h
  · exact absurd (hp'.symm.trans h) (by decide)
  · omega

theorem driveSound_requestSettings {s : State} (hs : DriveSound s) (o : Fin 16) {x : PwmSettings} (hx : SettingsSound o x) :
    DriveSound (requestSettings o x s) := by
  intro i
  have hshown : ∀ j, ((s.drive.set o { s.drive.get o with requested := some x }).get j).shown = (s.drive.get j).shown :=
    fun j => by rw [Tab.get_set]; split <;> simp_all
  obtain ⟨hpair, hforce, hrequest⟩ := hs i
  simp only [requestSettings, State.setDrive_drive, hshown]
  refine ⟨hpair, ?_⟩
  rw [Tab.get_set]
  split
  · next h =>
    subst h
    exact ⟨hforce, fun y hy => Option.some.inj hy ▸ hx⟩
  · exact ⟨hforce, hrequest⟩

theorem driveSound_reset {s : State} (h : s.drive = Tab.replicate 16 PwmOutput.reset) : DriveSound s := fun o => by
  rw [h]
  simp only [Tab.get_replicate]
  exact ⟨⟨nofun, nofun⟩, ⟨by decide, nofun⟩, nofun⟩

theorem driveSound_run (c : Instr) {s : State} (hc : ∃ b ∈ [Block.drive], b ∈ touches c)
    (hu : ∀ n, c ≠ .managementUnitStart n) (hs : DriveSound s) : DriveSound (run c s) := by
  obtain ⟨b, hb, hc⟩ := hc
  obtain rfl := List.mem_singleton.mp hb
  cases c with
  | managementUnitStart n => exact absurd rfl (hu n)
  | powerOnReset gp =>
    exact driveSound_reads.keeps (trainPresent_only (defaults gp s)) (by decide) (driveSound_reset rfl)
  | lineReset gp =>
    exact driveSound_reads.keeps (trainPresent_only ((defaults gp s).setIntake (keptIdentity s.intake))) (by decide)
      (driveSound_reset rfl)
  | frameBoundary gp o => exact driveSound_frameBoundary gp o hs
  | setPwmOutput tag output alignment polarity phase pair =>
    simp only [run, doSetPwmOutput]
    split
    · exact hs
    · split
      · next h => exact driveSound_requestSettings hs _ (settingsSound_of_inRange h)
      · exact hs
  | _ => simp [touches] at hc

/-- Settles O59: block by block, with the commands that touch each. -/
theorem stepsKeepLevelsSound : Obligations.StepsKeepLevelsSound := fun _ _ h =>
  ⟨limiterSound_reads.step_keeps (by decide) (by simp) (fun c _ hc hu => limiterSound_run c hc hu) h,
    mergeSound_reads.step_keeps (by decide) (by simp) (fun c _ hc hu => mergeSound_run c hc hu) h,
    driveSound_reads.step_keeps (by decide) (by simp) (fun c _ hc hu => driveSound_run c hc hu) h⟩

end Sys2Proof.Machine
end

section
/-! SUPPORT. What each operation on a chain port makes of the ports (section 6). -/

namespace Sys2Proof.Machine

section
variable (p : Fin 8) (s : State)

@[simp] theorem port_setMgmt (q : Fin 8) (m : Mgmt) : (s.setMgmt m).port q = s.port q := rfl
@[simp] theorem port_setSent (q : Fin 8) (l : List Emission) : (s.setSent l).port q = s.port q := rfl
@[simp] theorem port_setNow (q : Fin 8) (n : Nat) : (s.setNow n).port q = s.port q := rfl
@[simp] theorem port_advanceTo (q : Fin 8) (n : Nat) : (advanceTo n s).port q = s.port q := rfl

theorem setPort_ports (x : Port) : (s.setPort p x).ports = s.ports.set p x := rfl

@[simp] theorem setPort_setPort (x y : Port) : (s.setPort p x).setPort p y = s.setPort p y := by
  simp [State.setPort]

@[simp] theorem sendChain_ports (m : ChainMessage) : (sendChain p m s).ports = s.ports :=
  OnlyChanges.ports (l := [.sent]) (by simp) rfl

@[simp] theorem sendPattern_ports : (sendPattern p s).ports = s.ports := OnlyChanges.ports (l := [.sent]) (by simp) rfl

@[simp] theorem sendChain_port (m : ChainMessage) (q : Fin 8) : (sendChain p m s).port q = s.port q := by
  simp [State.port]

@[simp] theorem sendPattern_port (q : Fin 8) : (sendPattern p s).port q = s.port q := by simp [State.port]

/-- The port in TRAINING at 4 lanes (R96, R97). -/
def Port.trained (x : Port) : Port :=
  { x with state := .training, holdoff := none, offer := some .four, count := 0, window := none }

/-- The port in DOWN (R96). -/
def Port.downed (x : Port) : Port := { x with state := .down, offer := none, count := 0, window := none }

/-- The port in DISABLED (R106). -/
def Port.disabled (x : Port) : Port :=
  { x with state := .disabled, offer := none, count := 0, window := none, holdoff := none }

/-- The port in ACTIVE (R100, R104). -/
def Port.activated (x : Port) : Port :=
  { x with
    state := .active, offer := none, count := 0, errors := 0, censusCount := 0
    widthNarrowed := x.widthNarrowed || decide (x.state = .recovery ∧
      (x.width.map Lanes.toNat).getD 0 < (x.entryWidth.map Lanes.toNat).getD 0)
    retrainDone := x.retrainDone || x.retrain
    retrain := false }

/-- The port with its pending cap sent and counted (R112). -/
def Port.capped (x : Port) : Port :=
  match x.cap with
  | none => x
  | some _ => { x with cap := none, counters := { x.counters with capsSent := bump x.counters.capsSent } }

theorem startOffer_ports (w : Lanes) :
    (startOffer p w s).ports = s.ports.set p { s.port p with offer := some w, count := 0, window := none } := by
  simp [startOffer, setPort_ports]

theorem enterTraining_ports (cause : ChainCause) : (enterTraining p cause s).ports = s.ports.set p (s.port p).trained := by
  simp [enterTraining, offerChainState, startOffer_ports, setPort_ports, Port.trained]

theorem enterDown_ports (cause : ChainCause) : (enterDown p cause s).ports = s.ports.set p (s.port p).downed := by
  simp [enterDown, offerChainState, setPort_ports, Port.downed]

theorem enterDisabled_ports : (enterDisabled p s).ports = s.ports.set p (s.port p).disabled := by
  simp [enterDisabled, offerChainState, setPort_ports, Port.disabled]

theorem sendToken_ports : (sendToken p s).ports = s.ports.set p { s.port p with window := some ⟨s.now, []⟩ } := by
  have hnow : (sendChain p .token s).now = s.now := OnlyChanges.now (l := [.sent]) (by simp) rfl
  simp [sendToken, setPort_ports, hnow]

theorem Port.capped_of_none {x : Port} (h : x.cap = none) : x.capped = x := by simp [Port.capped, h]

theorem Port.capped_of_some {x : Port} {watts : Nat} (h : x.cap = some watts) :
    x.capped = { x with cap := none, counters := { x.counters with capsSent := bump x.counters.capsSent } } := by
  simp [Port.capped, h]

theorem sendCap_ports : (sendCap p s).ports = s.ports.set p (s.port p).capped := by
  unfold sendCap
  split
  · next h => rw [Port.capped_of_none h]; exact (Tab.set_get ..).symm
  · next h => simp [Port.capped_of_some h, setPort_ports]

theorem enterActive_ports : (enterActive p s).ports = s.ports.set p (s.port p).activated.capped := by
  simp [enterActive, sendCap_ports, offerChainState, setPort_ports, Port.activated]

end

/-- A port set on its own. -/
theorem port_of_ports {s t : State} {p : Fin 8} {x : Port} (h : t.ports = s.ports.set p x) (q : Fin 8) :
    t.port q = if p = q then x else s.port q := by
  rw [State.port, h, Tab.get_set]; rfl

theorem port_self_of_ports {s t : State} {p : Fin 8} {x : Port} (h : t.ports = s.ports.set p x) : t.port p = x := by
  simp [port_of_ports h]

theorem port_ne_of_ports {s t : State} {p q : Fin 8} {x : Port} (h : t.ports = s.ports.set p x) (hq : p ≠ q) :
    t.port q = s.port q := by simp [port_of_ports h, hq]

/-- The port with its frame broken, all but `k` of its unsent segments dropped (R112, R115). -/
def Port.broke (x : Port) (k : Nat) : Port :=
  { x with
    unsent := [], broken := true
    counters := { x.counters with
      droppedSegments := bumpBy (x.unsent.length - k) x.counters.droppedSegments
      framesBroken := if x.broken then x.counters.framesBroken else bump x.counters.framesBroken } }

theorem dropUnsent_ports (p : Fin 8) {k : Nat} (s : State) (hk : k ≤ (s.port p).unsent.length) :
    (dropUnsent p k s).ports = s.ports.set p { s.port p with
      unsent := []
      counters := { (s.port p).counters with
        droppedSegments := bumpBy ((s.port p).unsent.length - k) (s.port p).counters.droppedSegments } } := by
  simp only [dropUnsent, foldl_sendChain, setPort_ports, State.setSent_ports, port_setSent, List.length_take,
    Nat.min_eq_left hk]

theorem breakFrame_ports (p : Fin 8) (s : State) : ∃ k, k ≤ (s.port p).unsent.length ∧
    (breakFrame p s).ports = s.ports.set p ((s.port p).broke k) := by
  have hk : freeDraw s % ((s.port p).unsent.length + 1) ≤ (s.port p).unsent.length :=
    Nat.le_of_lt_succ (Nat.mod_lt _ (Nat.succ_pos _))
  refine ⟨_, hk, ?_⟩
  have h := dropUnsent_ports p s hk
  have hu : ∀ t : State, (useDraw t).ports = t.ports := fun _ => rfl
  have hp : ∀ t : State, (useDraw t).port p = t.port p := fun _ => rfl
  simp only [breakFrame, hp, port_self_of_ports h]
  split
  · next hb => rw [hu, h]; simp [Port.broke, hb]
  · next hb => simp only [setPort_ports, hu, h, Tab.set_set]; simp [Port.broke, hb]

/-- The port in RECOVERY, its frame broken (R103, R104). -/
def Port.recovering (x : Port) (k : Nat) : Port :=
  { x with
    state := .recovery, entryWidth := x.width, offer := some (x.width.getD .one), count := 0, window := none
    broken := true, unsent := []
    counters := { x.counters with
      recoveries := bump x.counters.recoveries
      droppedSegments := bumpBy (x.unsent.length - k) x.counters.droppedSegments
      framesBroken := if x.broken then x.counters.framesBroken else bump x.counters.framesBroken } }

theorem enterRecovery_ports (p : Fin 8) (cause : ChainCause) (s : State) : ∃ k, k ≤ (s.port p).unsent.length ∧
    (enterRecovery p cause s).ports = s.ports.set p ((s.port p).recovering k) := by
  obtain ⟨k, hk, h⟩ := enterRecovery_enters s p cause
  refine ⟨k, hk, ?_⟩
  rw [h]
  simp only [offer_eq, State.setMgmt_ports, State.setSent_ports, State.setDraws_ports, setPort_ports]
  rfl

end Sys2Proof.Machine
end

section
/-! PROOFS. Every step keeps each chain port's state and what it holds in agreement (R96 to R114). -/

namespace Sys2Proof.Machine

theorem chainSound_reads : Reads [.ports] ChainSound := fun s t h hs p => by
  have hp : t.ports = s.ports := h .ports (by simp)
  rw [State.port, hp]
  exact hs p

theorem chainSound_of_ports {s t : State} {p : Fin 8} {x : Port} (hs : ChainSound s) (h : t.ports = s.ports.set p x)
    (hx : PortSound x) : ChainSound t := fun q => by
  rw [port_of_ports h]
  split
  · exact hx
  · exact hs q

/-! ### The states of a port -/

section
variable {x : Port}

theorem PortSound.trained (h : PortSound x) : PortSound x.trained := by
  obtain ⟨-, -, -, -, hcensus⟩ := h
  simp [PortSound, Port.trained, hcensus]

theorem PortSound.downed (h : PortSound x) : PortSound x.downed := by
  obtain ⟨-, -, -, -, hcensus⟩ := h
  simp [PortSound, Port.downed, hcensus]

theorem PortSound.disabled (h : PortSound x) : PortSound x.disabled := by
  obtain ⟨-, -, -, -, hcensus⟩ := h
  simp [PortSound, Port.disabled, hcensus]

theorem PortSound.capped (h : PortSound x) : PortSound x.capped := by
  unfold Port.capped; split <;> exact h

theorem PortSound.activated (h : PortSound x) (hs : x.state = .training ∨ x.state = .recovery) (hw : x.width ≠ none) :
    PortSound x.activated := by
  obtain ⟨-, -, -, hhold, hcensus⟩ := h
  have hnone : x.holdoff = none := by
    by_contra hn
    rcases hs with hs | hs <;> exact absurd ((hhold hn).symm.trans hs) (by decide)
  simp [PortSound, Port.activated, hcensus, hw, hnone]

theorem PortSound.recovering (h : PortSound x) (hs : x.state = .active) (k : Nat) : PortSound (x.recovering k) := by
  obtain ⟨-, hwidth, -, hhold, hcensus⟩ := h
  have hnone : x.holdoff = none := by
    by_contra hn
    exact absurd ((hhold hn).symm.trans hs) (by decide)
  simp [PortSound, Port.recovering, hcensus, hwidth (.inl hs), hnone]

/-- A census window opens on a port that has a width (R101). -/
theorem PortSound.windowed (h : PortSound x) (hs : x.state = .training ∨ x.state = .recovery ∨ x.state = .active)
    (hw : x.width ≠ none) (run : CensusRun) : PortSound { x with window := some run } := by
  obtain ⟨hoffer, -, -, hhold, hcensus⟩ := h
  exact ⟨hoffer, fun _ => hw, fun _ => hs, hhold, hcensus⟩

/-- The parts of a port that the invariant says nothing of. -/
theorem PortSound.congr (h : PortSound x) {y : Port} (h1 : y.state = x.state) (h2 : y.width = x.width)
    (h3 : y.offer = x.offer) (h4 : y.window = x.window) (h5 : y.holdoff = x.holdoff) (h6 : y.census = x.census) :
    PortSound y := by
  unfold PortSound at *
  rw [h1, h2, h3, h4, h5, h6]
  exact h

end

/-! ### The operations -/

section
variable {s : State} (p : Fin 8)

theorem chainSound_setPort (hs : ChainSound s) {x : Port} (hx : PortSound x) : ChainSound (s.setPort p x) :=
  chainSound_of_ports hs (setPort_ports p s x) hx

theorem chainSound_enterTraining (cause : ChainCause) (hs : ChainSound s) : ChainSound (enterTraining p cause s) :=
  chainSound_of_ports hs (enterTraining_ports p s cause) (hs p).trained

theorem chainSound_tryTraining (cause : ChainCause) (hs : ChainSound s) : ChainSound (tryTraining p cause s) := by
  unfold tryTraining
  split
  · exact chainSound_enterTraining p cause hs
  · exact hs

theorem chainSound_enterDown (cause : ChainCause) (hs : ChainSound s) : ChainSound (enterDown p cause s) :=
  chainSound_of_ports hs (enterDown_ports p s cause) (hs p).downed

theorem chainSound_enterDisabled (hs : ChainSound s) : ChainSound (enterDisabled p s) :=
  chainSound_of_ports hs (enterDisabled_ports p s) (hs p).disabled

theorem chainSound_breakFrame (hs : ChainSound s) : ChainSound (breakFrame p s) := by
  obtain ⟨k, -, h⟩ := breakFrame_ports p s
  exact chainSound_of_ports hs h ((hs p).congr rfl rfl rfl rfl rfl rfl)

theorem chainSound_enterRecovery (cause : ChainCause) (hs : ChainSound s) (ha : (s.port p).state = .active) :
    ChainSound (enterRecovery p cause s) := by
  obtain ⟨k, -, h⟩ := enterRecovery_ports p cause s
  exact chainSound_of_ports hs h ((hs p).recovering ha k)

theorem chainSound_sendCap (hs : ChainSound s) : ChainSound (sendCap p s) :=
  chainSound_of_ports hs (sendCap_ports p s) (hs p).capped

theorem chainSound_sendToken (hs : ChainSound s)
    (hstate : (s.port p).state = .training ∨ (s.port p).state = .recovery ∨ (s.port p).state = .active)
    (hw : (s.port p).width ≠ none) : ChainSound (sendToken p s) :=
  chainSound_of_ports hs (sendToken_ports p s) ((hs p).windowed hstate hw _)

theorem chainSound_losePartner (hs : ChainSound s) : ChainSound (losePartner p s) := by
  have hlost : ChainSound (s.setPort p { s.port p with partner := false }) :=
    chainSound_setPort p hs ((hs p).congr rfl rfl rfl rfl rfl rfl)
  simp only [losePartner]
  split
  · exact chainSound_enterDown p _ hlost
  · exact chainSound_enterDown p _ (chainSound_breakFrame p hlost)
  · exact chainSound_enterDown p _ hlost
  · exact hlost
  · exact hlost

theorem chainSound_trainingExchange (width : Nat) (hs : ChainSound s) : ChainSound (trainingExchange p width s) := by
  have hpass : ChainSound (passExchange p s) := chainSound_setPort p hs ((hs p).congr rfl rfl rfl rfl rfl rfl)
  simp only [trainingExchange]
  split
  · exact hs
  · split
    · next h =>
      split
      · next w _ =>
        obtain ⟨hoffer, -, hwindow, hhold, hcensus⟩ := hs p
        have hwidth : PortSound { s.port p with width := some w } :=
          ⟨hoffer, fun _ => Option.some_ne_none w, hwindow, hhold, hcensus⟩
        refine chainSound_sendToken p (chainSound_setPort p hs hwidth) ?_ ?_
        · rw [port_setPort_self]; exact h.1.imp_right .inl
        · rw [port_setPort_self]; exact Option.some_ne_none w
      · exact hpass
    · exact hpass

theorem chainSound_failTraining (hs : ChainSound s) : ChainSound (failTraining p s) := by
  have hport : (enterDown p .trainingTimeout s).port p = (s.port p).downed := port_self_of_ports (enterDown_ports p s _)
  simp only [failTraining]
  refine chainSound_setPort p (chainSound_enterDown p _ hs) ?_
  obtain ⟨-, -, -, -, hcensus⟩ := hs p
  rw [hport]
  simp [PortSound, Port.downed, hcensus]

theorem chainSound_failRecovery (hs : ChainSound s) : ChainSound (failRecovery p s) := by
  have hdown := chainSound_enterDown p .recoveryFailure hs
  exact chainSound_tryTraining p _ (chainSound_setPort p hdown ((hdown p).congr rfl rfl rfl rfl rfl rfl))

theorem chainSound_endHoldoff (hs : ChainSound s) : ChainSound (endHoldoff p s) := by
  refine chainSound_tryTraining p _ (chainSound_setPort p hs ?_)
  obtain ⟨hoffer, hwidth, hwindow, -, hcensus⟩ := hs p
  exact ⟨hoffer, hwidth, hwindow, fun h => absurd rfl h, hcensus⟩

theorem chainSound_stepOffer (hs : ChainSound s) : ChainSound (stepOffer p s) := by
  refine chainSound_of_ports (p := p) hs (x := { s.port p with
    count := (s.port p).count + 1, offer := (s.port p).offer.map Lanes.narrower }) (by simp [stepOffer, setPort_ports]) ?_
  obtain ⟨hoffer, hrest⟩ := hs p
  refine ⟨?_, hrest⟩
  simpa using hoffer

theorem chainSound_trainingBoundary (hs : ChainSound s) : ChainSound (trainingBoundary p s) := by
  simp only [trainingBoundary]
  split
  · exact chainSound_failTraining p hs
  · split
    · exact chainSound_failRecovery p hs
    · split
      · exact chainSound_stepOffer p hs
      · split
        · exact chainSound_endHoldoff p hs
        · obtain ⟨hoffer, hwidth, hwindow, hhold, hcensus⟩ := hs p
          exact chainSound_setPort p hs ⟨hoffer, hwidth, hwindow, fun h => hhold (by simpa using h), hcensus⟩

theorem hopRun_le (hops : List Nat) (k r : Nat) : hopRun hops k r ≤ r + k := by
  induction k generalizing r with
  | zero => exact le_rfl
  | succ k ih =>
    unfold hopRun
    split
    · have := ih (r + 1); omega
    · omega

theorem censusResult_le (hops : List Nat) : censusResult hops ≤ 32 := by
  simpa [censusResult] using hopRun_le hops 32 0

theorem chainSound_recordHop (hop : Nat) (hs : ChainSound s) : ChainSound (recordHop p hop s) := by
  unfold recordHop
  split
  · exact hs
  · next run h =>
    obtain ⟨hoffer, hwidth, hwindow, hhold, hcensus⟩ := hs p
    have hopen : (s.port p).window ≠ none := by simp [h]
    exact chainSound_setPort p hs
      ⟨hoffer, fun _ => hwidth (.inr (.inr hopen)), fun _ => hwindow hopen, hhold, hcensus⟩

/-- The port where its census has completed with `result` (R101, R102). -/
def Port.counted (x : Port) (result expected : Nat) : Port :=
  { x with
    window := none, census := result, surplus := result - expected, censusCount := 0
    presenceChanged := x.presenceChanged || decide (result ≠ x.census)
    counters := { x.counters with censusRuns := bump x.counters.censusRuns } }

theorem completeCensus_ports (result : Nat) (s : State) :
    (completeCensus p result s).ports =
      s.ports.set p ((s.port p).counted result (expectedTiles s.activeBank p)) := by
  simp only [completeCensus]; split <;> rfl

theorem chainSound_completeCensus {result : Nat} (hr : result ≤ 32) (hs : ChainSound s) :
    ChainSound (completeCensus p result s) := by
  refine chainSound_of_ports hs (completeCensus_ports p result s) ?_
  obtain ⟨hoffer, hwidth, hwindow, hhold, -⟩ := hs p
  refine ⟨hoffer, fun h => hwidth ?_, fun h => absurd rfl h, hhold, hr⟩
  rcases h with h | h | h
  · exact .inl h
  · exact .inr (.inl h)
  · exact absurd rfl h

theorem chainSound_endWindow (hs : ChainSound s) : ChainSound (endWindow p s) := by
  unfold endWindow
  split
  · exact hs
  · next run hrun =>
    have hcomplete := chainSound_completeCensus (s := advanceTo (run.sent + Config.censusWindow) s) p
      (censusResult_le run.hops) hs
    have hport := port_self_of_ports
      (completeCensus_ports p (censusResult run.hops) (advanceTo (run.sent + Config.censusWindow) s))
    dsimp only
    split
    · next hstate =>
      refine chainSound_of_ports hcomplete (enterActive_ports p _) ((hcomplete p).activated hstate ?_).capped
      rw [hport]
      exact (hs p).2.1 (.inr (.inr (by simp [hrun])))
    · exact hcomplete

theorem chainSound_censusBoundary (hs : ChainSound s) : ChainSound (censusBoundary p s) := by
  simp only [censusBoundary]
  split
  · next ha =>
    have hcount : ChainSound (s.setPort p { s.port p with censusCount := (s.port p).censusCount + 1 }) :=
      chainSound_setPort p hs ((hs p).congr rfl rfl rfl rfl rfl rfl)
    split
    · refine chainSound_sendToken p hcount ?_ ?_
      · rw [port_setPort_self]; exact .inr (.inr ha)
      · rw [port_setPort_self]; exact (hs p).2.1 (.inl ha)
    · exact hcount
  · exact hs

theorem chainSound_addErrors (errors : Nat) (hs : ChainSound s) : ChainSound (addErrors p errors s) := by
  simp only [addErrors]
  split
  · next ha =>
    have hadd : ChainSound (s.setPort p { s.port p with errors := (s.port p).errors + errors }) :=
      chainSound_setPort p hs ((hs p).congr rfl rfl rfl rfl rfl rfl)
    split
    · exact chainSound_enterRecovery p _ hadd (by rw [port_setPort_self]; exact ha)
    · exact hadd
  · exact hs

theorem chainSound_receiveReturn (m : ReturnMessage) (hs : ChainSound s) : ChainSound (receiveReturn p m s) := by
  cases m with
  | censusAnswer hop => exact chainSound_recordHop p hop hs
  | trainingComplete width => exact chainSound_trainingExchange p width hs
  | symbolErrors errors => exact chainSound_addErrors p errors hs

theorem chainSound_answer (tag code : Byte) (r : Result) (b : List Byte) (hs : ChainSound s) :
    ChainSound (answer tag code r b s) := hs

theorem chainSound_retrainPort (tag : Byte) (hs : ChainSound s) : ChainSound (retrainPort tag p s) := by
  have hnote : ∀ t, ChainSound t → ChainSound (t.setPort p { t.port p with retrain := true }) := fun t ht =>
    chainSound_setPort p ht ((ht p).congr rfl rfl rfl rfl rfl rfl)
  unfold retrainPort
  split
  · next ha => exact chainSound_answer _ _ _ _ (hnote _ (chainSound_enterRecovery p _ hs ha))
  · exact chainSound_answer _ _ _ _ (hnote _ hs)
  · exact chainSound_answer _ _ _ _ (hnote _ hs)
  · exact hs
  · exact hs

theorem chainSound_finishDisable (hs : ChainSound s) : ChainSound (finishDisable p s) := by
  unfold finishDisable
  split
  · exact hs
  · exact chainSound_enterDisabled p (chainSound_setPort p hs ((hs p).congr rfl rfl rfl rfl rfl rfl))

theorem chainSound_disablePort (tag : Byte) (hs : ChainSound s) : ChainSound (disablePort tag p s) := by
  simp only [disablePort]
  split
  · exact hs
  · split
    · exact chainSound_setPort p hs ((hs p).congr rfl rfl rfl rfl rfl rfl)
    · exact chainSound_enterDisabled p hs
    · exact chainSound_enterDisabled p hs
    · exact chainSound_enterDisabled p hs
    · exact hs

theorem chainSound_enablePort (tag : Byte) (hs : ChainSound s) : ChainSound (enablePort tag p s) := by
  simp only [enablePort]
  split
  · exact chainSound_tryTraining p _ (chainSound_enterDown p _ hs)
  · exact hs

theorem chainSound_handSegment (g : Segment) (hs : ChainSound s) : ChainSound (handSegment p g s) := by
  simp only [handSegment]
  split <;> exact chainSound_setPort p hs ((hs p).congr rfl rfl rfl rfl rfl rfl)

theorem chainSound_handCap (watts : Nat) (hs : ChainSound s) : ChainSound (handCap p watts s) :=
  chainSound_setPort p hs ((hs p).congr rfl rfl rfl rfl rfl rfl)

theorem chainSound_handCaps (watts : Nat) (hs : ChainSound s) : ChainSound (handCaps p watts s) := by
  unfold handCaps
  repeat' split
  · exact chainSound_handCap _ _ (chainSound_handCap _ _ hs)
  · exact hs
  · exact chainSound_handCap _ _ hs

theorem chainSound_markPort (normal : Bool) (hs : ChainSound s) : ChainSound (markPort normal p s) := by
  simp only [markPort]
  split
  · refine chainSound_setPort p ?_ ((hs p).congr rfl rfl rfl rfl rfl rfl)
    exact chainSound_reads.keeps (m := [.sent]) (by simp) (by decide) hs
  · exact chainSound_setPort p hs ((hs p).congr rfl rfl rfl rfl rfl rfl)

theorem chainSound_portBoundary (hs : ChainSound s) : ChainSound (portBoundary p s) := by
  unfold portBoundary
  split
  · exact chainSound_finishDisable p hs
  · split
    · exact chainSound_censusBoundary p (chainSound_sendCap p hs)
    · exact chainSound_trainingBoundary p hs

end

theorem chainSound_latchPorts {s : State} (hs : ChainSound s) : ChainSound (latchPorts s) := fun p => by
  rw [State.port, latchPorts, State.setPorts_ports, Tab.get_mapFin]
  exact (hs p).congr rfl rfl rfl rfl rfl rfl

theorem chainSound_trainPresent {s : State} (hs : ChainSound s) : ChainSound (trainPresent s) :=
  forEach_keeps ChainSound _ (fun p _ => chainSound_tryTraining p _) s hs

/-- The mapping engine hands segments to the ports, and the rest of its work is not theirs. -/
theorem chainSound_handPiece {s : State} (hs : ChainSound s) (x : Piece) : ChainSound (handPiece s x) :=
  chainSound_reads.keeps (m := [.accumulation]) (s := handSegment x.port x.segment s) (by simp [handPiece]) (by decide)
    (chainSound_handSegment _ _ hs)

theorem chainSound_handPieces {s : State} (hs : ChainSound s) (pieces : List Piece) :
    ChainSound (pieces.foldl handPiece s) := foldl_keeps ChainSound _ (fun _ x h => chainSound_handPiece h x) _ s hs

theorem chainSound_handFirst {s : State} (hs : ChainSound s) (pieces : List Piece) (handed begun : Nat) :
    ChainSound (handFirst pieces handed begun s) := by
  have hfirst := chainSound_handPieces hs (pieces.take handed)
  simp only [handFirst]
  split
  · exact hfirst
  · exact chainSound_reads.keeps (m := [.accumulation]) (by simp) (by decide) hfirst

theorem chainSound_handRest {s : State} (hs : ChainSound s) (pieces : List Piece) (handed begun : Nat) :
    ChainSound (handRest pieces handed begun s) := by
  unfold handRest
  split
  · exact hs
  · next x rest _ =>
    refine chainSound_handPieces ?_ rest
    exact chainSound_reads.keeps (m := [.accumulation]) (s := handSegment x.port x.segment s) (by simp) (by decide)
      (chainSound_handSegment _ _ hs)

theorem chainSound_takeUnit {s : State} (hs : ChainSound s) : ChainSound (takeUnit s) := by
  unfold takeUnit
  split
  · simp only [startUnitMapping]
    split
    · exact hs
    · exact hs
    · exact hs
    · refine chainSound_handFirst ?_ _ _ _
      exact hs
  · exact hs
  · exact hs

theorem chainSound_finishUnit {s : State} (hs : ChainSound s) : ChainSound (finishUnit s) := by
  unfold finishUnit
  split
  · exact hs
  · next job _ =>
    dsimp only
    split
    · exact hs
    · exact hs
    · exact hs
    · refine chainSound_reads.keeps (m := [.canvas]) ((only_mapLine _ (by simp)).mpr (.refl _ _)) (by decide) ?_
      exact chainSound_handRest (by exact hs) _ _ _

theorem chainSound_sendMarkers {s : State} (hs : ChainSound s) : ChainSound (sendMarkers s) :=
  forEach_keeps ChainSound _ (fun p _ => chainSound_markPort p _) _ hs

theorem chainSound_boundaryWall {s : State} (hs : ChainSound s) : ChainSound (boundaryWall s) := by
  have hauto : ChainSound (autoHoldBoundary s) :=
    chainSound_reads.keeps (m := [.canvas, .mgmt]) (by simp) (by decide) hs
  have hlimiter : ChainSound (limiterBoundary (sendMarkers (autoHoldBoundary s))) :=
    chainSound_reads.keeps (m := [.limiter, .accumulation, .mgmt]) (by simp) (by decide) (chainSound_sendMarkers hauto)
  have hports := forEach_keeps ChainSound portBoundary (fun p _ => chainSound_portBoundary p) _ hlimiter
  have hgains := chainSound_reads.keeps (m := [.level]) (t := fixWallGains _)
    ((only_fixWallGains (by simp)).mpr (.refl _ _)) (by decide) hports
  exact chainSound_latchPorts hgains

theorem chainSound_frameBoundary (gp : Tab 4 Bool) (o : CommitOrder) {s : State} (hs : ChainSound s) :
    ChainSound (frameBoundary gp o s) := by
  have hlook := chainSound_reads.keeps (boundaryLook_only (boundaryOpening s) gp o) (by decide)
    (chainSound_reads.keeps (boundaryOpening_only s) (by decide) hs)
  have hlight := chainSound_reads.keeps (boundaryLight_only _) (by decide) (chainSound_boundaryWall hlook)
  exact chainSound_reads.keeps (boundaryContacts_only _ gp o) (by decide) hlight

theorem portSound_reset : PortSound Port.reset := by simp [PortSound, Port.reset]

theorem chainSound_resetPorts {s t : State} (h : t.ports = resetPorts s) : ChainSound t := fun p => by
  rw [State.port, h, resetPorts, Tab.get_map]
  exact portSound_reset.congr rfl rfl rfl rfl rfl rfl

theorem chainSound_run (c : Instr) {s : State} (hc : ∃ b ∈ [Block.ports], b ∈ touches c)
    (hu : ∀ n, c ≠ .managementUnitStart n) (hs : ChainSound s) : ChainSound (run c s) := by
  obtain ⟨b, hb, hc⟩ := hc
  obtain rfl := List.mem_singleton.mp hb
  cases c with
  | managementUnitStart n => exact absurd rfl (hu n)
  | powerOnReset gp => exact chainSound_trainPresent (s := defaults gp s) (chainSound_resetPorts (s := s) rfl)
  | lineReset gp =>
    exact chainSound_trainPresent (s := (defaults gp s).setIntake (keptIdentity s.intake)) (chainSound_resetPorts (s := s) rfl)
  | frameBoundary gp o => exact chainSound_frameBoundary gp o hs
  | chainRetrain tag port =>
    simp only [run, doChainRetrain]
    split
    · exact hs
    · exact chainSound_retrainPort _ tag hs
  | chainDisable tag port =>
    simp only [run, doChainDisable]
    split
    · exact hs
    · exact chainSound_disablePort _ tag hs
  | chainEnable tag port =>
    simp only [run, doChainEnable]
    split
    · exact hs
    · exact chainSound_enablePort _ tag hs
  | setChainBudget tag chain budget step =>
    simp only [run, doSetChainBudget]
    split
    · exact hs
    · refine chainSound_reads.keeps (m := [.mgmt]) ((only_answer _ _ _ _ (by simp)).mpr (.refl _ _)) (by decide) ?_
      refine chainSound_handCaps _ _ ?_
      exact chainSound_reads.keeps (m := [.mgmt, .limiter]) (by simp) (by decide) hs
  | clearStatus tag block mask =>
    simp only [run, doClearStatus, clearFlags]
    repeat' split
    case h_5 =>
      intro p
      change PortSound ((s.ports.mapFin (clearPort mask)).get p)
      rw [Tab.get_mapFin]
      exact (hs p).congr rfl rfl rfl rfl rfl rfl
    all_goals exact hs
  | clearCounters tag block =>
    simp only [run, doClearCounters, clearBlock]
    repeat' split
    case h_5 =>
      intro p
      change PortSound ((s.ports.map _).get p)
      rw [Tab.get_map]
      exact (hs p).congr rfl rfl rfl rfl rfl rfl
    all_goals exact hs
  | trainingTimeout p =>
    simp only [run]; split
    · exact chainSound_failTraining p hs
    · exact hs
  | recoveryFailure p =>
    simp only [run]; split
    · exact chainSound_failRecovery p hs
    · exact hs
  | holdoffEnd p =>
    simp only [run]; split
    · exact chainSound_endHoldoff p hs
    · exact hs
  | periodicCensus p =>
    simp only [run]; split
    · exact chainSound_censusBoundary p hs
    · exact hs
  | partnerPresent p =>
    exact chainSound_tryTraining p _ (chainSound_setPort p hs ((hs p).congr rfl rfl rfl rfl rfl rfl))
  | partnerLost p => exact chainSound_losePartner p hs
  | trainingComplete p exchange => exact chainSound_receiveReturn p _ (s := advanceTo exchange.tick s) hs
  | censusAnswer p hop => exact chainSound_receiveReturn p _ hs
  | symbolError p errors => exact chainSound_receiveReturn p _ hs
  | censusWindowEnd p => exact chainSound_endWindow p hs
  | mappingUnitTake => exact chainSound_takeUnit hs
  | mappingUnitEnd => exact chainSound_finishUnit hs
  | _ => simp [touches] at hc

end Sys2Proof.Machine
end

section
/-! SUPPORT. What each operation on a fixture port makes of it (sections 10.4 to 10.7). -/

namespace Sys2Proof.Machine

/-- The port without its query: the receiver takes its own rate again, and a frame being received stands outside a window (R171). -/
def FixturePort.freed (x : FixturePort) : FixturePort :=
  { x with query := none, rxRate := x.rate, rx := x.rx.map fun f => { f with inWindow := false } }

/-- The port whose frame has been cut off at `now` (R165). -/
def FixturePort.cut (now : Nat) (x : FixturePort) : FixturePort :=
  match x.shifter.begun with
  | none => x
  | some (began, rate) =>
    if now < began + Config.leadIn then { x with shifter := .idle }
    else
      let kept := (shifterCharacters x).take ((now - (began + Config.leadIn)) / rate.characterTicks + 1)
      { x with shifter := .cutOff began rate kept }

section
variable (p : Fin 2) (s : State)

theorem setFixturePort_fixture (x : FixturePort) : (s.setFixturePort p x).fixture = s.fixture.set p x := rfl

@[simp] theorem setFixturePort_setFixturePort (x y : FixturePort) :
    (s.setFixturePort p x).setFixturePort p y = s.setFixturePort p y := by
  simp [State.setFixturePort]

theorem setFixturePort_self : s.setFixturePort p (s.fixturePort p) = s := by
  simp [State.setFixturePort, State.fixturePort]

@[simp] theorem fixturePort_setMgmt (m : Mgmt) : (s.setMgmt m).fixturePort p = s.fixturePort p := rfl
@[simp] theorem fixturePort_setSent (l : List Emission) : (s.setSent l).fixturePort p = s.fixturePort p := rfl
@[simp] theorem fixturePort_setNow (n : Nat) : (s.setNow n).fixturePort p = s.fixturePort p := rfl
@[simp] theorem fixturePort_advanceTo (n : Nat) : (advanceTo n s).fixturePort p = s.fixturePort p := rfl

@[simp] theorem answer_fixture (tag code : Byte) (result : Result) (body : List Byte) :
    (answer tag code result body s).fixture = s.fixture := OnlyChanges.fixture (l := [.mgmt]) (by simp) rfl

@[simp] theorem fixturePort_answer (tag code : Byte) (result : Result) (body : List Byte) :
    (answer tag code result body s).fixturePort p = s.fixturePort p := by simp [State.fixturePort]

theorem answerQuery_of_none (result : Result) (body : List Byte) (h : (s.fixturePort p).query = none) :
    answerQuery p result body s = s := by simp [answerQuery, h]

theorem answerQuery_of_some {q : Query} (result : Result) (body : List Byte) (h : (s.fixturePort p).query = some q) :
    answerQuery p result body s =
      answer q.tag Code.queryFixture result body (s.setFixturePort p (s.fixturePort p).freed) := by
  simp only [answerQuery, h]; rfl

theorem cutFrame_fixture : (cutFrame p s).fixture = s.fixture.set p ((s.fixturePort p).cut s.now) := by
  unfold cutFrame FixturePort.cut
  cases h : (s.fixturePort p).shifter.begun with
  | none => simp only [h]; exact (Tab.set_get ..).symm
  | some frame =>
    by_cases hl : s.now < frame.1 + Config.leadIn <;> simp only [h, hl, if_true, if_false] <;> rfl

end

/-- A fixture port set on its own. -/
theorem fixturePort_of_fixture {s t : State} {p : Fin 2} {x : FixturePort} (h : t.fixture = s.fixture.set p x) (q : Fin 2) :
    t.fixturePort q = if p = q then x else s.fixturePort q := by
  rw [State.fixturePort, h, Tab.get_set]; rfl

theorem fixturePort_self_of_fixture {s t : State} {p : Fin 2} {x : FixturePort} (h : t.fixture = s.fixture.set p x) :
    t.fixturePort p = x := by simp [fixturePort_of_fixture h]

/-! ### Replies (R169 to R171) -/

section
variable {p : Fin 2} {s : State} {f : RxFrame} {q : Query}

theorem takeReply_of_good (hq : (s.fixturePort p).query = some q) (hg : replyIsGood f.chars = true) :
    takeReply p f s = answer q.tag Code.queryFixture .ok
      (list8 (fun b : Byte => [b]) (((f.chars.map RxChar.data).drop 4).take (replyLength f.chars)))
      (s.setFixturePort p { (s.fixturePort p).freed with counters :=
        { (s.fixturePort p).counters with repliesGood := bump (s.fixturePort p).counters.repliesGood } }) := by
  simp only [takeReply, hg, if_true]
  rw [answerQuery_of_some p _ (q := q) _ _ (by rw [fixturePort_set_self]; exact hq)]
  simp only [fixturePort_set_self, setFixturePort_setFixturePort]
  rfl

theorem takeReply_of_bad (hq : (s.fixturePort p).query = some q) (hg : replyIsGood f.chars = false) :
    takeReply p f s = answer q.tag Code.queryFixture .replyBad
      (list16 (fun b : Byte => [b]) ((f.chars.map RxChar.data).take 8186))
      (s.setFixturePort p { (s.fixturePort p).freed with counters :=
        { (s.fixturePort p).counters with repliesBad := bump (s.fixturePort p).counters.repliesBad } }) := by
  simp only [takeReply, hg, Bool.false_eq_true, if_false]
  rw [answerQuery_of_some p _ (q := q) _ _ (by rw [fixturePort_set_self]; exact hq)]
  simp only [fixturePort_set_self, setFixturePort_setFixturePort]
  rfl

theorem closeWithoutReply_of_some (hq : (s.fixturePort p).query = some q) :
    closeWithoutReply p s = answer q.tag Code.queryFixture .noReply []
      (s.setFixturePort p { (s.fixturePort p).freed with counters :=
        { (s.fixturePort p).counters with noReplies := bump (s.fixturePort p).counters.noReplies } }) := by
  simp only [closeWithoutReply]
  rw [answerQuery_of_some p _ (q := q) _ _ (by rw [fixturePort_set_self]; exact hq)]
  simp only [fixturePort_set_self, setFixturePort_setFixturePort]
  rfl

/-- A frame of a reply window is a reply to the query, or passes it by. -/
theorem endRxFrame_inWindow (hf : (s.fixturePort p).rx = some f) (hq : (s.fixturePort p).query = some q)
    (hw : f.inWindow = true) :
    endRxFrame p s =
      if isReply q f then takeReply p f (s.setFixturePort p { s.fixturePort p with rx := none })
      else passFrame p q f (s.setFixturePort p { s.fixturePort p with rx := none }) := by
  simp only [endRxFrame, hf, fixturePort_set_self, hq, hw, if_true]

end

end Sys2Proof.Machine
end

section
/-! PROOFS. A step keeps each chain port's state and what it holds in agreement (R96 to R114); that it keeps the fixture
ports' fails: `FixtureSound` admits a frame of a reply window while the query is still being sent. -/

namespace Sys2Proof.Machine

theorem chainSound_step {s t : State} (h : step s = .next t) : ChainSound s → ChainSound t :=
  chainSound_reads.step_keeps (by decide) (by simp) (fun c _ hc hu => chainSound_run c hc hu) h

/-- A query of fixture port 0 whose frame is being sent. -/
def earlyQuery : Query := ⟨0, 1, QueryKind.status, .sending⟩

/-- The first three characters of its reply, received as a frame of a reply window. -/
def earlyReply : RxFrame := ⟨(replyStart earlyQuery).map fun data => ⟨data, false, false⟩, true⟩

/-- The port that sends the query and holds that frame. -/
def earlyPort : FixturePort :=
  { FixturePort.reset with
    refreshing := true, shifter := .query 0 .slow, query := some earlyQuery, rx := some earlyReply }

/-- The state in which that frame ends next. -/
def earlyState : State := (State.reset.setFixturePort 0 earlyPort).setPending [.fixtureFrameEnd 0]

theorem earlyState_port : earlyState.fixturePort 0 = earlyPort := fixturePort_set_self ..

theorem earlyState_other : earlyState.fixturePort 1 = FixturePort.reset := by
  have h := fixturePort_of_fixture (setFixturePort_fixture 0 State.reset earlyPort) 1
  exact h.trans (Tab.get_replicate _ _)

theorem fixtureSound_earlyPort : FixtureSound earlyPort := by
  refine ⟨le_rfl, by decide, ⟨fun _ => ⟨_, rfl, rfl⟩, fun _ => ⟨_, _, rfl⟩⟩, nofun, ?_, ?_, nofun⟩
  · intro q hq hc
    obtain rfl := Option.some.inj hq
    cases hc
  · intro f hf
    obtain rfl := Option.some.inj hf
    exact ⟨by simp [earlyReply, replyStart], fun _ => nofun⟩

theorem fixturesSound_earlyState : FixturesSound earlyState := fun p => by
  match p with
  | 0 => rw [earlyState_port]; exact fixtureSound_earlyPort
  | 1 => rw [earlyState_other]; simp [FixtureSound, FixturePort.reset]

/-- The reply answers the query and leaves the shifter sending its frame. -/
theorem earlyState_run : ((endRxFrame 0 (earlyState.setPending [])).fixturePort 0).query = none ∧
    ((endRxFrame 0 (earlyState.setPending [])).fixturePort 0).shifter = .query 0 .slow := by
  have hp : (earlyState.setPending []).fixturePort 0 = earlyPort := earlyState_port
  have hreply : isReply earlyQuery earlyReply = true := by decide
  have hbad : replyIsGood earlyReply.chars = false := by decide
  rw [endRxFrame_inWindow (q := earlyQuery) (f := earlyReply) (by rw [hp]; rfl) (by rw [hp]; rfl) rfl, if_pos hreply,
    takeReply_of_bad (q := earlyQuery) (by rw [fixturePort_set_self, hp]; rfl) hbad, fixturePort_answer, fixturePort_set_self,
    fixturePort_set_self, hp]
  exact ⟨rfl, rfl⟩

/-- Refutes O58: a fixture port whose query is still being sent may hold a frame of a reply window; where that frame ends
as a reply, the query is answered and gone while its frame is still in the shifter. -/
theorem not_stepsKeepPortsSound : ¬ Obligations.StepsKeepPortsSound := by
  intro h
  have hstep : step earlyState = .next (endRxFrame 0 (earlyState.setPending [])) := rfl
  obtain ⟨-, -, hsend, -⟩ := (h _ _ hstep).2 fixturesSound_earlyState 0
  obtain ⟨hquery, hshifter⟩ := earlyState_run
  obtain ⟨q, hq, -⟩ := hsend.mp ⟨_, _, hshifter⟩
  rw [hquery] at hq
  cases hq

end Sys2Proof.Machine
end

section
/-! SUPPORT. Switching a fixture port on and off (R164, R165). -/

namespace Sys2Proof.Machine

@[simp] theorem rateOfCode_code (r : BitRate) : rateOfCode r.code = some r := by cases r <;> rfl

theorem rateOfCode_of_lt {code : Nat} (h : 1 < code) : rateOfCode code = none := by
  obtain ⟨n, rfl⟩ := Nat.exists_eq_add_of_lt h
  rw [show 1 + n + 1 = n + 2 by omega]; rfl

@[simp] theorem queryOfCode_code (k : QueryKind) : queryOfCode k.code = some k := by cases k <;> rfl

theorem queryOfCode_of_lt {code : Nat} (h : 2 < code) : queryOfCode code = none := by
  obtain ⟨n, rfl⟩ := Nat.exists_eq_add_of_lt h
  rw [show 2 + n + 1 = n + 3 by omega]; rfl

theorem characterTicks_pos (r : BitRate) : 0 < r.characterTicks := by cases r <;> decide

theorem div_characterTicks {start now whole : Nat} (r : BitRate) (h1 : start + whole * r.characterTicks ≤ now)
    (h2 : now < start + (whole + 1) * r.characterTicks) : (now - start) / r.characterTicks = whole :=
  Nat.div_eq_of_lt_le (by omega) (by omega)

/-- The port with its rate and divisor stored (R164). -/
def FixturePort.stored (rate : BitRate) (divisor : Nat) (x : FixturePort) : FixturePort :=
  { x with rate := rate, divisor := divisor, rxRate := if x.query = none then rate else x.rxRate }

/-- The port switched off (R164). -/
def FixturePort.off (x : FixturePort) : FixturePort := { x with refreshing := false, buffer := none, rx := none }

section
variable (p : Fin 2) (s : State)

@[simp] theorem setFixturePort_answer (tag code : Byte) (result : Result) (body : List Byte) (x : FixturePort) :
    (answer tag code result body s).setFixturePort p x = answer tag code result body (s.setFixturePort p x) := rfl

@[simp] theorem setFixturePort_emit (e : Emission) (x : FixturePort) :
    (emit e s).setFixturePort p x = emit e (s.setFixturePort p x) := rfl

@[simp] theorem fixturePort_emit (e : Emission) : (emit e s).fixturePort p = s.fixturePort p := rfl

theorem storeRate_eq (rate : BitRate) (divisor : Nat) :
    storeRate p rate divisor s = s.setFixturePort p ((s.fixturePort p).stored rate divisor) := by
  simp only [storeRate, FixturePort.stored]
  cases (s.fixturePort p).query <;> rfl

theorem cutFrame_of_none (h : (s.fixturePort p).shifter.begun = none) : cutFrame p s = s := by
  simp only [cutFrame, h]

theorem cutFrame_of_lt {began : Nat} {rate : BitRate} (h : (s.fixturePort p).shifter.begun = some (began, rate))
    (hlt : s.now < began + 11200) : cutFrame p s = s.setFixturePort p { s.fixturePort p with shifter := .idle } := by
  simp only [cutFrame, h]
  exact if_pos hlt

theorem cutFrame_of_le {began whole : Nat} {rate : BitRate} (h : (s.fixturePort p).shifter.begun = some (began, rate))
    (hlow : began + 11200 + whole * rate.characterTicks ≤ s.now)
    (hhigh : s.now < began + 11200 + (whole + 1) * rate.characterTicks) :
    cutFrame p s =
      emit (.fixture p rate ((shifterCharacters (s.fixturePort p)).take (whole + 1)))
        (s.setFixturePort p { s.fixturePort p with
          shifter := .cutOff began rate ((shifterCharacters (s.fixturePort p)).take (whole + 1)) }) := by
  have hdiv : (s.now - (began + Config.leadIn)) / rate.characterTicks = whole := div_characterTicks rate hlow hhigh
  have hlead : ¬ s.now < began + Config.leadIn :=
    Nat.not_lt.mpr (le_trans (Nat.le_add_right _ _) hlow)
  simp only [cutFrame, h, hdiv]
  exact if_neg hlead

theorem cutFrame_query : ((cutFrame p s).fixturePort p).query = (s.fixturePort p).query := by
  rw [fixturePort_self_of_fixture (cutFrame_fixture p s)]
  unfold FixturePort.cut
  split
  · rfl
  · split <;> rfl

theorem cutFrame_rate : ((cutFrame p s).fixturePort p).rate = (s.fixturePort p).rate := by
  rw [fixturePort_self_of_fixture (cutFrame_fixture p s)]
  unfold FixturePort.cut
  split
  · rfl
  · split <;> rfl

theorem switchOff_of_none (h : (s.fixturePort p).query = none) :
    switchOff p s = (cutFrame p s).setFixturePort p ((cutFrame p s).fixturePort p).off := by
  simp only [switchOff, answerQuery_of_none p (cutFrame p s) .noReply [] (by rw [cutFrame_query, h])]
  rfl

theorem switchOff_of_some {q : Query} (h : (s.fixturePort p).query = some q) :
    switchOff p s = answer q.tag Code.queryFixture .noReply []
      ((cutFrame p s).setFixturePort p ((cutFrame p s).fixturePort p).freed.off) := by
  simp only [switchOff, answerQuery_of_some p (cutFrame p s) .noReply [] ((cutFrame_query p s).trans h),
    fixturePort_answer, fixturePort_set_self, setFixturePort_answer, setFixturePort_setFixturePort]
  rfl

theorem enablePortTo_same (on : Bool) (h : (s.fixturePort p).refreshing = on) : enablePortTo p on s = s := if_pos h.symm

theorem enablePortTo_on (h : (s.fixturePort p).refreshing = false) : enablePortTo p true s = switchOn p s := by
  simp [enablePortTo, h]

theorem enablePortTo_off (h : (s.fixturePort p).refreshing = true) : enablePortTo p false s = switchOff p s := by
  simp [enablePortTo, h]

theorem shiftNext_of_query {q : Query} (hi : (s.fixturePort p).shifter = .idle) (hq : (s.fixturePort p).query = some q)
    (hw : q.phase = .waiting) : shiftNext p s = s.setFixturePort p { s.fixturePort p with
      shifter := .query s.now (s.fixturePort p).rate, query := some { q with phase := .sending } } := by
  simp only [shiftNext, takeWork, hi, hq, hw, if_true]

theorem shiftNext_of_busy (hi : (s.fixturePort p).shifter ≠ .idle) : shiftNext p s = s := by
  unfold shiftNext takeWork
  cases h : (s.fixturePort p).shifter with
  | idle => exact absurd h hi
  | level => simp only [setFixturePort_self]
  | query => simp only [setFixturePort_self]
  | cutOff => simp only [setFixturePort_self]

end

end Sys2Proof.Machine
end

section
/-! PROOFS. Set Fixture Port and Query Fixture (R164, R167). -/

namespace Sys2Proof.Machine

section
variable {s : State} {tick : Nat} {tag : Byte} (hroom : hasRoom s = true)
include hroom

theorem exec_setFixturePort_of_bad {port rate divisor : Nat} {enable : Bool}
    (h : 1 < port ∨ 1 < rate ∨ divisor = 0 ∨ 4 < divisor) :
    Answers (exec (.setFixturePort tick tag port enable rate divisor) s) (s.setNow (max s.now tick))
      (.answer tag Code.setFixturePort .outOfRange []) := by
  refine answers_exec rfl hroom ?_
  change doSetFixturePort tick tag port enable rate divisor s = _
  simp only [doSetFixturePort]
  split
  · next p r hp hr =>
    refine if_neg fun hd => ?_
    rcases h with h | h | h | h
    · rw [finOf_of_le (show 2 ≤ port from h)] at hp; cases hp
    · rw [rateOfCode_of_lt h] at hr; cases hr
    · omega
    · omega
  · rfl

/-- Set Fixture Port with settings in range, by what the port becomes. -/
theorem exec_setFixturePort {p : Fin 2} {rate : BitRate} {divisor : Nat} (hlow : 1 ≤ divisor) (hhigh : divisor ≤ 4)
    {on : Bool} {target : State}
    (h : enablePortTo p on ((s.setNow (max s.now tick)).setFixturePort p ((s.fixturePort p).stored rate divisor)) = target)
    (hon : (target.fixturePort p).refreshing = on) :
    Answers (exec (.setFixturePort tick tag p.val on rate.code divisor) s) target
      (.answer tag Code.setFixturePort .ok (flag on ++ u8 rate.code ++ u8 divisor)) := by
  refine answers_exec rfl hroom ?_
  change doSetFixturePort tick tag p.val on rate.code divisor s = _
  simp only [doSetFixturePort, finOf_val, rateOfCode_code]
  rw [if_pos ⟨hlow, hhigh⟩, storeRate_eq]
  change answer tag Code.setFixturePort .ok (flag ((enablePortTo p on ((s.setNow (max s.now tick)).setFixturePort p
    ((s.fixturePort p).stored rate divisor))).fixturePort p).refreshing ++ _ ++ _) (enablePortTo p on
      ((s.setNow (max s.now tick)).setFixturePort p ((s.fixturePort p).stored rate divisor))) = _
  rw [h, hon]

theorem exec_setFixturePort_off {p : Fin 2} {rate : BitRate} {divisor : Nat} (hlow : 1 ≤ divisor) (hhigh : divisor ≤ 4)
    (hon : (s.fixturePort p).refreshing = true) {target : State}
    (h : switchOff p ((s.setNow (max s.now tick)).setFixturePort p ((s.fixturePort p).stored rate divisor)) = target)
    (hoff : (target.fixturePort p).refreshing = false) :
    Answers (exec (.setFixturePort tick tag p.val false rate.code divisor) s) target
      (.answer tag Code.setFixturePort .ok (flag false ++ u8 rate.code ++ u8 divisor)) := by
  refine exec_setFixturePort hroom hlow hhigh ?_ hoff
  rw [enablePortTo_off _ _ (by rw [fixturePort_set_self]; exact hon), h]

end

/-- Settles O48: a port is stored, then switched, where a frame being sent is cut off first; a query is sent or waits. -/
theorem fixtureCommandsSwitchAndQuery : Obligations.FixtureCommandsSwitchAndQuery := by
  intro s tick tag hroom now s'
  refine ⟨fun port rate divisor enable h => exec_setFixturePort_of_bad hroom h, ?_, ?_, ?_⟩
  · intro p rate divisor hlow hhigh x stored off done sets
    have hx : (s'.setFixturePort p stored).fixturePort p = stored := fixturePort_set_self ..
    refine ⟨?_, ?_, ?_, ?_, ?_⟩
    · exact exec_setFixturePort hroom hlow hhigh (enablePortTo_same p _ _ (by rw [fixturePort_set_self]; rfl))
        (by rw [fixturePort_set_self])
    · intro hoff
      refine exec_setFixturePort hroom hlow hhigh ?_ (by rw [fixturePort_set_self])
      rw [enablePortTo_on _ _ (by rw [fixturePort_set_self]; exact hoff)]
      simp only [switchOn, fixturePort_set_self, setFixturePort_setFixturePort]
      rfl
    · intro hon hq hi
      refine exec_setFixturePort_off hroom hlow hhigh hon ?_ (by rw [fixturePort_set_self])
      have hcut : cutFrame p (s'.setFixturePort p stored) = s'.setFixturePort p stored :=
        cutFrame_of_none p _ (by rw [hx]; change x.shifter.begun = none; rw [hi]; rfl)
      change switchOff p (s'.setFixturePort p stored) = _
      rw [switchOff_of_none p _ (by rw [hx]; exact hq), hcut, hx, setFixturePort_setFixturePort]
      rfl
    · intro began sending slots hon hq hsh
      have hbegun : ((s'.setFixturePort p stored).fixturePort p).shifter.begun = some (began, sending) := by
        rw [hx]; change x.shifter.begun = _; rw [hsh]; rfl
      have hchars : shifterCharacters ((s'.setFixturePort p stored).fixturePort p) = 0x10 :: slots := by
        rw [hx]; simp only [shifterCharacters, stored, hsh]; rfl
      have hquery : ((s'.setFixturePort p stored).fixturePort p).query = none := by rw [hx]; exact hq
      refine ⟨fun hlt => ?_, fun whole hfrom hto => ?_⟩
      · refine exec_setFixturePort_off hroom hlow hhigh hon ?_ (by rw [fixturePort_set_self])
        change switchOff p (s'.setFixturePort p stored) = _
        rw [switchOff_of_none p _ hquery, cutFrame_of_lt p _ hbegun hlt, hx, fixturePort_set_self,
          setFixturePort_setFixturePort, setFixturePort_setFixturePort]
        rfl
      · refine exec_setFixturePort_off hroom hlow hhigh hon ?_ (by rw [fixturePort_setSent, fixturePort_set_self])
        change switchOff p (s'.setFixturePort p stored) = _
        rw [switchOff_of_none p _ hquery, cutFrame_of_le p _ hbegun (whole := whole) ?_ ?_, hchars, hx]
        · simp only [fixturePort_emit, fixturePort_set_self, setFixturePort_emit, setFixturePort_setFixturePort]
          rfl
        · cases sending <;> exact hfrom
        · cases sending <;> exact hto
    · intro q hon hq
      have hoff := switchOff_of_some p (s'.setFixturePort p stored) (q := q) (by rw [hx]; exact hq)
      have hkept : OnlyChanges [.fixture, .sent] (s'.setFixturePort p stored) (cutFrame p (s'.setFixturePort p stored)) := by
        simp
      have hrate : ((cutFrame p (s'.setFixturePort p stored)).fixturePort p).rate = rate := by rw [cutFrame_rate, hx]
      refine ⟨_, exec_setFixturePort_off hroom hlow hhigh hon hoff ?_, ?_, ?_, ?_, ?_, ?_, ?_, ?_, ?_⟩
      · rw [fixturePort_answer, fixturePort_set_self]; rfl
      · change (cutFrame p (s'.setFixturePort p stored)).mgmt.answer _ _ _ _ = _
        rw [hkept.mgmt rfl]; rfl
      · rw [fixturePort_answer, fixturePort_set_self]; rfl
      · rw [fixturePort_answer, fixturePort_set_self]; rfl
      · rw [fixturePort_answer, fixturePort_set_self]; rfl
      · rw [fixturePort_answer, fixturePort_set_self]; rfl
      · rw [fixturePort_answer, fixturePort_set_self]; exact hrate
      · intro hi
        have hcut : cutFrame p (s'.setFixturePort p stored) = s'.setFixturePort p stored :=
          cutFrame_of_none p _ (by rw [hx]; change x.shifter.begun = none; rw [hi]; rfl)
        rw [hcut, fixturePort_answer, fixturePort_set_self, hx]
        exact ⟨hi, rfl⟩
      · intro began sending characters hsh
        have hbegun : ((s'.setFixturePort p stored).fixturePort p).shifter.begun = some (began, sending) := by
          rw [hx]; change x.shifter.begun = _
          rcases hsh with ⟨slots, h, -⟩ | ⟨h, -⟩ <;> rw [h] <;> rfl
        have hchars : shifterCharacters ((s'.setFixturePort p stored).fixturePort p) = characters := by
          rw [hx]
          rcases hsh with ⟨slots, h, rfl⟩ | ⟨h, rfl⟩
          · simp only [shifterCharacters, stored, h]; rfl
          · simp only [shifterCharacters, stored, h, hq]; rfl
        refine ⟨fun hlt => ?_, fun whole hfrom hto => ?_⟩
        · rw [cutFrame_of_lt p _ hbegun hlt, fixturePort_answer, fixturePort_set_self, fixturePort_set_self]
          exact ⟨rfl, rfl⟩
        · rw [cutFrame_of_le p _ hbegun (whole := whole) (by cases sending <;> exact hfrom) (by cases sending <;> exact hto),
            hchars, fixturePort_answer, fixturePort_set_self, fixturePort_emit, fixturePort_set_self]
          exact ⟨rfl, rfl⟩
  · intro port address kind h
    refine answers_exec rfl hroom ?_
    change doQueryFixture tick tag port address kind s = _
    simp only [doQueryFixture]
    split
    · next p k hp hk =>
      refine if_pos ?_
      rcases h with h | h | h | h
      · rw [finOf_of_le (show 2 ≤ port from h)] at hp; cases hp
      · exact .inl h
      · exact .inr h
      · rw [queryOfCode_of_lt h] at hk; cases hk
    · rfl
  · intro p address kind hlow hhigh x c
    have hrun : run c s = if x.refreshing = false then refuse tag Code.queryFixture .wrongState s'
        else if x.query.isSome then refuse tag Code.queryFixture .busy s' else acceptQuery tag p address kind s' := by
      change doQueryFixture tick tag p.val address kind.code s = _
      simp only [doQueryFixture, finOf_val, queryOfCode_code]
      exact if_neg (by omega)
    refine ⟨fun hoff => ?_, fun hon hq => ?_, fun hon hq hb => ?_, fun hon hq hi => ?_⟩
    · exact answers_exec rfl hroom (by rw [hrun, if_pos hoff]; rfl)
    · refine answers_exec rfl hroom ?_
      rw [hrun, if_neg (by simp [hon]), if_pos (Option.isSome_iff_ne_none.mpr hq)]; rfl
    · refine reserves_exec rfl hroom ?_
      rw [hrun, if_neg (by simp [hon]), if_neg (by simp [hq])]
      exact shiftNext_of_busy p _ (by rw [fixturePort_set_self]; exact hb)
    · refine reserves_exec rfl hroom ?_
      rw [hrun, if_neg (by simp [hon]), if_neg (by simp [hq])]
      have hset := shiftNext_of_query p (s'.setFixturePort p { x with query := some ⟨tag, address, kind, .waiting⟩ })
        (q := ⟨tag, address, kind, .waiting⟩) (by rw [fixturePort_set_self]; exact hi) (by rw [fixturePort_set_self]) rfl
      refine hset.trans ?_
      rw [fixturePort_set_self, setFixturePort_setFixturePort]
      rfl

end Sys2Proof.Machine
end

section
/-! SUPPORT. What a command adds to the Report Queue (sections 11.1, 11.3): its answers, and its events where their kind is
selected and the queue has room. -/

namespace Sys2Proof.Machine

/-- The kind of an event; an answer has none. -/
def Report.kind? : Report → Option EventKind
  | .event k _ => some k
  | .answer _ _ _ _ => none

/-- The report is an event of one of the kinds, or, where `K` has `none`, an answer. -/
def Report.isIn (K : List (Option EventKind)) (r : Report) : Bool := decide (r.kind? ∈ K)

@[simp] theorem isIn_event (K : List (Option EventKind)) (k : EventKind) (body : List Byte) :
    (Report.event k body).isIn K = decide (some k ∈ K) := rfl

@[simp] theorem isIn_answer (K : List (Option EventKind)) (tag code : Byte) (result : Result) (body : List Byte) :
    (Report.answer tag code result body).isIn K = decide (none ∈ K) := rfl

/-- From `s` to `t` the Report Queue grows, by events only where it stays within their room. Of the reports in `K` it gains
some of `want` in their order: all of them where the mask selects the kinds of these events and no event is lost. -/
def Tells (K : List (Option EventKind)) (want : List Report) (s t : State) : Prop :=
  ∃ new, t.mgmt.queue = s.mgmt.queue ++ new ∧ (new.filter (Report.isIn K)).Sublist want ∧
    t.mgmt.mask = s.mgmt.mask ∧ t.mgmt.cut = s.mgmt.cut ∧ t.mgmt.stalled = s.mgmt.stalled ∧
    (s.mgmt.eventsLost = true → t.mgmt.eventsLost = true) ∧
    (new.countP Report.isAnswer = new.length ∨ t.mgmt.queue.length ≤ Config.eventRoom + new.countP Report.isAnswer) ∧
    ((∀ k, some k ∈ K → s.mgmt.selects k = true ∧ t.mgmt.eventsLost = false) → new.filter (Report.isIn K) = want)

/-- Every block but the Report Queue's. -/
@[simp] def Block.unmanaged : List Block :=
  [.now, .lane, .buffer, .slot, .intake, .timing, .banks, .level, .canvas, .ports, .limiter, .accumulation, .merge, .cue,
    .drive, .fixture, .sent, .draws, .pending]

section
variable {K : List (Option EventKind)} {want want' : List Report} {s t u : State}

theorem Tells.of_mgmt (h : t.mgmt = s.mgmt) : Tells K [] s t := by
  rw [Tells, h]
  exact ⟨[], by simp⟩

theorem Tells.refl : Tells K [] s s := .of_mgmt rfl

theorem Tells.trans (h : Tells K want s t) (h' : Tells K want' t u) : Tells K (want ++ want') s u := by
  obtain ⟨new, hq, hsub, hmask, hcut, hstall, hlost, hroom, hall⟩ := h
  obtain ⟨new', hq', hsub', hmask', hcut', hstall', hlost', hroom', hall'⟩ := h'
  refine ⟨new ++ new', by rw [hq', hq, List.append_assoc], ?_, hmask'.trans hmask, hcut'.trans hcut, hstall'.trans hstall,
    fun h => hlost' (hlost h), ?_, fun hsel => ?_⟩
  · rw [List.filter_append]; exact hsub.append hsub'
  · have hle := List.countP_le_length (p := Report.isAnswer) (l := new)
    have hlen := congrArg List.length hq
    have hlen' := congrArg List.length hq'
    simp only [List.countP_append, List.length_append] at *
    omega
  · have hno : ∀ k, some k ∈ K → t.mgmt.eventsLost = false := fun k hk => by
      by_contra hl
      have := hlost' (by simpa using hl)
      rw [(hsel k hk).2] at this
      cases this
    have hsel' : ∀ k, some k ∈ K → t.mgmt.selects k = true := fun k hk => by
      have := (hsel k hk).1
      rwa [Mgmt.selects, hmask]
    rw [List.filter_append, hall fun k hk => ⟨(hsel k hk).1, hno k hk⟩, hall' fun k hk => ⟨hsel' k hk, (hsel k hk).2⟩]

/-- Followed by what tells nothing. -/
theorem Tells.quiet (h : Tells K want s t) (h' : Tells K [] t u) : Tells K want s u := by simpa using h.trans h'

/-- Followed by a change of other blocks. -/
theorem Tells.other (h : Tells K want s t) (h' : OnlyChanges Block.unmanaged t u) : Tells K want s u :=
  h.quiet (.of_mgmt (h'.mgmt rfl))

/-- An answer is given. -/
theorem tells_answer_in (tag code : Byte) (result : Result) (body : List Byte) (h : Tells K want s t) :
    Tells K (want ++ [.answer tag code result body].filter (Report.isIn K)) s (answer tag code result body t) :=
  h.trans ⟨[.answer tag code result body], rfl, List.Sublist.refl _, rfl, rfl, rfl, id, .inl rfl, fun _ => rfl⟩

/-- An answer is given, and answers are not looked at. -/
theorem tells_answer (hn : none ∉ K) (tag code : Byte) (result : Result) (body : List Byte) (h : Tells K want s t) :
    Tells K want s (answer tag code result body t) := by
  simpa [hn] using tells_answer_in tag code result body h

/-- An event is offered. -/
theorem tells_offer (kind : EventKind) (body : List Byte) (h : Tells K want s t) :
    Tells K (want ++ [.event kind body].filter (Report.isIn K)) s (offer kind body t) := by
  refine h.trans ?_
  simp only [offer, Mgmt.offer, Tells, State.setMgmt_mgmt]
  split
  · next hm =>
    refine ⟨[], by simp, List.nil_sublist _, rfl, rfl, rfl, id, .inl rfl, fun hsel => ?_⟩
    have hk : some kind ∉ K := fun hk => by simp [(hsel kind hk).1] at hm
    simp [hk]
  · split
    · next hroom =>
      refine ⟨[.event kind body], rfl, List.Sublist.refl _, rfl, rfl, rfl, id, .inr ?_, fun _ => rfl⟩
      simp only [Mgmt.push, List.length_append, List.length_singleton]
      omega
    · refine ⟨[], by simp, List.nil_sublist _, rfl, rfl, rfl, fun _ => rfl, .inl rfl, fun hsel => ?_⟩
      have hk : some kind ∉ K := fun hk => by simpa using (hsel kind hk).2
      simp [hk]

/-- An event of another kind is offered. -/
theorem tells_offer_other {kind : EventKind} (hk : some kind ∉ K) (body : List Byte) (h : Tells K want s t) :
    Tells K want s (offer kind body t) := by
  simpa [hk] using tells_offer kind body h

theorem tells_forEach {n : Nat} {f : Fin n → State → State} (hf : ∀ i u, Tells K [] u (f i u)) (h : Tells K want s t) :
    Tells K want s (forEach f t) :=
  forEach_keeps (fun u => Tells K want s u) f (fun i _ hu => hu.quiet (hf i _)) t h

theorem tells_takeIf {f : State → State} (hf : ∀ u, Tells K [] u (f u)) (b : Bool) (h : Tells K want s t) :
    Tells K want s (takeIf b f t) :=
  takeIf_keeps (P := fun u => Tells K want s u) (fun _ hu => hu.quiet (hf _)) b h

end

/-! ### The chain ports -/

section
variable {K : List (Option EventKind)} {w : List Report} {s t : State} (hk : some .chainState ∉ K) (p : Fin 8)
include hk

theorem tells_enterTraining (cause : ChainCause) (h : Tells K w s t) : Tells K w s (enterTraining p cause t) :=
  tells_offer_other hk _ (h.other (by simp))

theorem tells_tryTraining (cause : ChainCause) (h : Tells K w s t) : Tells K w s (tryTraining p cause t) := by
  unfold tryTraining
  split
  · exact tells_enterTraining hk p cause h
  · exact h

theorem tells_enterDown (cause : ChainCause) (h : Tells K w s t) : Tells K w s (enterDown p cause t) :=
  tells_offer_other hk _ (h.other (by simp))

theorem tells_enterRecovery (cause : ChainCause) (h : Tells K w s t) : Tells K w s (enterRecovery p cause t) :=
  tells_offer_other hk _ (h.other (by simp))

theorem tells_enterActive (h : Tells K w s t) : Tells K w s (enterActive p t) := by
  simp only [enterActive]
  refine (tells_offer_other (kind := .chainState) hk _ (h.other ?_)).other ((only_sendCap _ ?_ ?_).mpr (.refl _ _)) <;> simp

theorem tells_enterDisabled (h : Tells K w s t) : Tells K w s (enterDisabled p t) :=
  tells_offer_other hk _ (h.other (by simp))

theorem tells_losePartner (h : Tells K w s t) : Tells K w s (losePartner p t) := by
  have hlost : Tells K w s (t.setPort p { t.port p with partner := false }) := h.other (by simp)
  simp only [losePartner]
  split
  · exact tells_enterDown hk p _ hlost
  · exact tells_enterDown hk p _ (hlost.other (by simp))
  · exact tells_enterDown hk p _ hlost
  · exact hlost
  · exact hlost

theorem tells_failTraining (h : Tells K w s t) : Tells K w s (failTraining p t) :=
  (tells_enterDown hk p .trainingTimeout h).other (by simp [failTraining])

theorem tells_failRecovery (h : Tells K w s t) : Tells K w s (failRecovery p t) :=
  tells_tryTraining hk p _ ((tells_enterDown hk p .recoveryFailure h).other (by simp))

theorem tells_endHoldoff (h : Tells K w s t) : Tells K w s (endHoldoff p t) :=
  tells_tryTraining hk p _ (h.other (by simp))

theorem tells_trainingBoundary (h : Tells K w s t) : Tells K w s (trainingBoundary p t) := by
  simp only [trainingBoundary]
  split
  · exact tells_failTraining hk p h
  · split
    · exact tells_failRecovery hk p h
    · split
      · exact h.other (by simp)
      · split
        · exact tells_endHoldoff hk p h
        · exact h.other (by simp)

theorem tells_addErrors (errors : Nat) (h : Tells K w s t) : Tells K w s (addErrors p errors t) := by
  have hadd : Tells K w s (t.setPort p { t.port p with errors := (t.port p).errors + errors }) :=
    h.other (by simp)
  simp only [addErrors]
  split
  · split
    · exact tells_enterRecovery hk p _ hadd
    · exact hadd
  · exact h

theorem tells_receiveReturn (m : ReturnMessage) (h : Tells K w s t) : Tells K w s (receiveReturn p m t) := by
  cases m with
  | censusAnswer hop => exact h.other (by simp [receiveReturn])
  | trainingComplete width => exact h.other (by simp [receiveReturn])
  | symbolErrors errors => exact tells_addErrors hk p errors h

theorem tells_finishDisable (hn : none ∉ K) (h : Tells K w s t) : Tells K w s (finishDisable p t) := by
  unfold finishDisable
  split
  · exact h
  · exact tells_answer hn _ _ _ _ (tells_enterDisabled hk p (h.other (by simp)))

theorem tells_portBoundary (hn : none ∉ K) (h : Tells K w s t) : Tells K w s (portBoundary p t) := by
  unfold portBoundary
  split
  · exact tells_finishDisable hk p hn h
  · split
    · exact h.other (by simp)
    · exact tells_trainingBoundary hk p h

theorem tells_portsBoundary (hn : none ∉ K) (h : Tells K w s t) : Tells K w s (portsBoundary t) :=
  tells_forEach (fun p _ => tells_portBoundary hk p hn .refl) h

theorem tells_trainPresent (h : Tells K w s t) : Tells K w s (trainPresent t) :=
  tells_forEach (fun p _ => tells_tryTraining hk p _ .refl) h

theorem tells_endWindow (hc : some .censusChanged ∉ K) (h : Tells K w s t) : Tells K w s (endWindow p t) := by
  have hcount : ∀ result u, Tells K [] u (completeCensus p result u) := fun result u => by
    simp only [completeCensus]
    split
    · exact Tells.refl.other (by simp)
    · exact tells_offer_other hc _ (Tells.refl.other (by simp))
  unfold endWindow
  split
  · exact h
  · have hadvance : ∀ n, Tells K w s (advanceTo n t) := fun n => h.other (by simp)
    dsimp only
    split
    · exact tells_enterActive hk p ((hadvance _).quiet (hcount _ _))
    · exact (hadvance _).quiet (hcount _ _)

end

/-! ### The limiter and the canvas -/

section
variable {K : List (Option EventKind)} {w : List Report} {s t : State}

theorem tells_offerLimiter (ha : some .limiterActive ∉ K) (hc : some .limiterClear ∉ K) (c : Fin 8) (before : Nat)
    (boundary : Option FrameNo) (h : Tells K w s t) : Tells K w s (offerLimiter c before boundary t) := by
  unfold offerLimiter
  split
  · exact tells_offer_other ha _ h
  · split
    · exact tells_offer_other hc _ h
    · exact h

theorem tells_updateChain (ha : some .limiterActive ∉ K) (hc : some .limiterClear ∉ K) (c : Fin 8) (h : Tells K w s t) :
    Tells K w s (updateChain c t) := by
  unfold updateChain
  split
  · exact h
  · split
    · exact tells_offerLimiter ha hc c _ _ (h.other (by simp))
    · exact h

theorem tells_limiterBoundary (ha : some .limiterActive ∉ K) (hc : some .limiterClear ∉ K) (h : Tells K w s t) :
    Tells K w s (limiterBoundary t) := by
  have heach : Tells K w s (forEach updateChain t) := tells_forEach (fun c _ => tells_updateChain ha hc c .refl) h
  simp only [limiterBoundary]
  split
  · exact heach.other (by simp)
  · exact heach

section
variable (he : some .holdEntered ∉ K) (hl : some .holdLeft ∉ K)
include he hl

theorem tells_changeWall (cause : HoldCause) (after : Canvas) (h : Tells K w s t) :
    Tells K w s (changeWall cause after t) := by
  have hset : Tells K w s (t.setCanvas after) := h.other (by simp)
  simp only [changeWall]
  split
  · exact tells_offer_other he _ hset
  · split
    · exact tells_offer_other hl _ hset
    · exact hset

theorem tells_holdWall (h : Tells K w s t) : Tells K w s (holdWall t) := by
  unfold holdWall
  split
  · exact h
  · exact (tells_changeWall he hl .operator { t.canvas with operator := true } h).other (by simp)

theorem tells_lightHoldBoundary (h : Tells K w s t) : Tells K w s (lightHoldBoundary t) := by
  have hset : Tells K w s (t.setCanvas { t.canvas with lightHold := t.canvas.lightOperator }) :=
    h.other (by simp)
  simp only [lightHoldBoundary]
  split
  · exact tells_offer_other he _ hset
  · split
    · exact tells_offer_other hl _ hset
    · exact hset

theorem tells_autoHoldBoundary (h : Tells K w s t) : Tells K w s (autoHoldBoundary t) := by
  have hinner : Tells K w s (if autoHoldDue t.canvas then setAutoHold t else if t.canvas.assignedNow then t
      else t.setCanvas { t.canvas with autoCount := min 2 (t.canvas.autoCount + 1) }) := by
    split
    · exact tells_changeWall he hl _ _ h
    · split
      · exact h
      · exact h.other (by simp)
  exact hinner.other (by simp [autoHoldBoundary])

theorem tells_contactHold (gp : Tab 4 Bool) (h : Tells K w s t) : Tells K w s (contactHold gp t) := by
  have hwall := tells_changeWall he hl .contact { t.canvas with contact := contactHolds t gp } h
  simp only [contactHold]
  split
  · exact hwall.other (by simp)
  · exact hwall

theorem tells_beginFrame (number : BitVec 16) (damaged : Bool) (h : Tells K w s t) :
    Tells K w s (beginFrame number damaged t) := by
  have hgone : Tells K w s (supersedeFrame t) := h.other (by simp)
  simp only [beginFrame]
  split
  · exact hgone.other (by simp)
  · exact (tells_changeWall he hl .auto { (supersedeFrame t).canvas with auto := false } hgone).other (by simp)

theorem tells_lossNotice (number : BitVec 16) (h : Tells K w s t) : Tells K w s (lossNotice number t) := by
  unfold lossNotice
  split
  · exact tells_beginFrame he hl number true h
  · split
    · exact h
    · split
      · exact h.other (by simp)
      · exact h

end

/-! ### Timing, takes, cues -/

theorem tells_changeTiming (hr : some .referenceState ∉ K) (after : Timing) (h : Tells K w s t) :
    Tells K w s (changeTiming after t) := by
  have hset : Tells K w s (t.setTiming after) := h.other (by simp)
  simp only [changeTiming, offerReference]
  split
  · exact tells_offer_other hr _ hset
  · exact hset

theorem tells_referenceBoundary (hr : some .referenceState ∉ K) (taken : Option TimeMark) (h : Tells K w s t) :
    Tells K w s (referenceBoundary taken t) := by
  unfold referenceBoundary
  split
  · exact tells_changeTiming hr _ h
  · split
    · exact tells_changeTiming hr _ h
    · exact tells_changeTiming hr _ h

theorem tells_numberBoundary (hn : some .renumbered ∉ K) (h : Tells K w s t) : Tells K w s (numberBoundary t) := by
  simp only [numberBoundary]
  split
  · exact h.other (by simp)
  · split
    · exact tells_offer_other hn _ (h.other (by simp))
    · exact h.other (by simp)

theorem tells_timingBoundary (hn : some .renumbered ∉ K) (hr : some .referenceState ∉ K) (h : Tells K w s t) :
    Tells K w s (timingBoundary t) :=
  tells_changeTiming hr _ (tells_referenceBoundary hr _ (tells_numberBoundary hn (h.other (by simp))))

theorem tells_failTake (hf : some .takeFailed ∉ K) (record : TakeRecord) (reason : FailReason) (h : Tells K w s t) :
    Tells K w s (failTake record reason t) :=
  tells_offer_other hf _ (h.other (by simp))

theorem tells_requestTake (hf : some .takeFailed ∉ K) (f : FrameNo) (origin : TakeOrigin) (h : Tells K w s t) :
    Tells K w s (requestTake f origin t) := by
  have hreject : ∀ record reason, Tells K w s (rejectRequest record reason t) := fun record reason =>
    tells_failTake hf _ _ (h.other (by simp))
  unfold requestTake
  split
  · exact hreject _ _
  · split
    · exact hreject _ _
    · exact h.other (by simp)

theorem tells_endValidation (hf : some .takeFailed ∉ K) (h : Tells K w s t) : Tells K w s (endValidation t) := by
  unfold endValidation
  split
  · exact h
  · exact h
  · split
    · exact h.other (by simp)
    · exact tells_failTake hf _ _ (h.other (by simp))

theorem tells_takeBoundary (hd : some .takeDone ∉ K) (h : Tells K w s t) : Tells K w s (takeBoundary t) := by
  unfold takeBoundary
  split
  · exact h
  · exact h
  · split
    · exact tells_offer_other hd _ (h.other (by simp))
    · exact h

theorem tells_acceptGo (hf : some .takeFailed ∉ K) (r : CueRecord) (origin : GoOrigin) (h : Tells K w s t) :
    Tells K w s (acceptGo r origin t) := by
  have hset : Tells K w s (t.setCue (goCue t.frameNo r origin t.cue)) := h.other (by simp)
  simp only [acceptGo]
  split
  · exact tells_requestTake hf _ _ hset
  · exact hset

theorem tells_contactGo (hf : some .takeFailed ∉ K) (input : Fin 4) (h : Tells K w s t) : Tells K w s (contactGo input t) := by
  unfold contactGo
  split
  · exact tells_acceptGo hf _ _ h
  · exact h.other (by simp)

theorem tells_contactGos (hf : some .takeFailed ∉ K) (gp : Tab 4 Bool) (h : Tells K w s t) : Tells K w s (contactGos gp t) :=
  tells_forEach (fun i u => by
    unfold contactGoStep
    split
    · exact tells_contactGo hf i .refl
    · exact .refl) h

theorem tells_contactTakes (hf : some .takeFailed ∉ K) (gp : Tab 4 Bool) (h : Tells K w s t) :
    Tells K w s (contactTakes gp t) :=
  tells_forEach (fun i u => by
    unfold contactTake
    split
    · exact tells_requestTake hf _ _ .refl
    · exact .refl) h

section
variable (hs : some .cueStarted ∉ K) (hc : some .cueComplete ∉ K) (hf : some .takeFailed ∉ K)

include hs in
theorem tells_startFade (h : Tells K w s t) : Tells K w s (startFade t) := by
  unfold startFade
  split
  · exact h
  · exact tells_offer_other hs _ (h.other (by simp))

include hc in
theorem tells_completeFade (h : Tells K w s t) : Tells K w s (completeFade t) :=
  tells_offer_other hc _ (h.other (by simp))

include hc in
theorem tells_testCompletion (h : Tells K w s t) : Tells K w s (testCompletion t) := by
  unfold testCompletion
  split
  · exact tells_completeFade hc h
  · exact h

include hf in
theorem tells_testFollow (h : Tells K w s t) : Tells K w s (testFollow t) := by
  have hset : Tells K w s (t.setCue { t.cue with follow := none }) := h.other (by simp)
  unfold testFollow
  split
  · simp only [fireFollow]
    split
    · exact tells_acceptGo hf _ _ hset
    · exact h.other (by simp)
  · exact h

include hs hc hf in
theorem tells_cueBoundary (h : Tells K w s t) : Tells K w s (cueBoundary t) := by
  unfold cueBoundary
  split
  · exact h
  · split
    · exact tells_testFollow hf (tells_testCompletion hc (tells_startFade hs h))
    · exact h.other (by simp)
  · exact tells_testFollow hf (tells_testCompletion hc (h.other (by simp)))
  · exact h
  · exact h
  · exact tells_testFollow hf (h.other (by simp))

include hs hc hf in
theorem tells_takesAtBoundary (hd : some .takeDone ∉ K) (gp : Tab 4 Bool) (o : CommitOrder) (h : Tells K w s t) :
    Tells K w s (takesAtBoundary gp o t) := by
  have hcue : ∀ u, Tells K [] u (cueBoundary u) := fun _ => tells_cueBoundary hs hc hf .refl
  have hcontact : ∀ u, Tells K [] u (contactTakes gp u) := fun _ => tells_contactTakes hf gp .refl
  have hgo : ∀ u, Tells K [] u (contactGos gp u) := fun _ => tells_contactGos hf gp .refl
  exact tells_takeIf hcue _ (tells_takeIf hcontact _ (tells_takeBoundary hd
    (tells_takeIf hgo _ (tells_takeIf hcue _ (tells_takeIf hcontact _ h)))))

end

end

end Sys2Proof.Machine
end

section
/-! SUPPORT. What the parts of a boundary add to the Report Queue, and what it makes of the fixture ports. -/

namespace Sys2Proof.Machine

section
variable {K : List (Option EventKind)} {w : List Report} {s t : State} (gp : Tab 4 Bool) (o : CommitOrder)

theorem tells_boundaryOpening (hn : some .renumbered ∉ K) (hr : some .referenceState ∉ K) (he : some .holdEntered ∉ K) (hl : some .holdLeft ∉ K)
    (h : Tells K w s t) : Tells K w s (boundaryOpening t) := by
  have hpresent : Tells K w s (applyPriorities (applySettings (presentFrame (timingBoundary t)))) :=
    (tells_timingBoundary hn hr h).other (by simp)
  exact (tells_lightHoldBoundary he hl hpresent).other (by simp [boundaryOpening])

theorem tells_boundaryLook (hs : some .cueStarted ∉ K) (hc : some .cueComplete ∉ K) (hf : some .takeFailed ∉ K) (hd : some .takeDone ∉ K)
    (h : Tells K w s t) : Tells K w s (boundaryLook gp o t) :=
  (tells_takesAtBoundary hs hc hf hd gp o h).other (by simp [boundaryLook])

/-- The wall's part of a boundary behind the auto hold. -/
def wallAfterAuto (s : State) : State :=
  latchPorts (fixWallGains (portsBoundary (limiterBoundary (sendMarkers s))))

theorem boundaryWall_eq (s : State) : boundaryWall s = wallAfterAuto (autoHoldBoundary s) := rfl

theorem tells_wallAfterAuto (hn : none ∉ K) (hs : some .chainState ∉ K) (ha : some .limiterActive ∉ K) (hc : some .limiterClear ∉ K) (h : Tells K w s t) :
    Tells K w s (wallAfterAuto t) :=
  (tells_portsBoundary hs hn (tells_limiterBoundary ha hc (h.other (u := sendMarkers t) (by simp)))).other
    (by simp [wallAfterAuto])

theorem tells_boundaryContacts (he : some .holdEntered ∉ K) (hl : some .holdLeft ∉ K) (hf : some .takeFailed ∉ K) (h : Tells K w s t) :
    Tells K w s (boundaryContacts gp o t) :=
  (tells_takeIf (fun _ => tells_contactGos hf gp .refl) (!o.gosFirst) (tells_contactHold he hl gp h)).other
    (by simp [boundaryContacts, keepSamples])

end

/-! ### The fixture ports at a boundary (R166, R170) -/

/-- What the refresh of a boundary makes of a port. -/
def FixturePort.refreshed (now : Nat) (held : Bool) (x : FixturePort) : FixturePort :=
  if refreshDue x then takeWork now (latchSnapshot held x)
  else if x.refreshing then { x with refreshCount := x.refreshCount - 1 }
  else x

theorem refreshBoundary_fixture (p : Fin 2) (s : State) :
    (refreshBoundary p s).fixture = s.fixture.set p ((s.fixturePort p).refreshed s.now s.canvas.lightHold) := by
  unfold refreshBoundary FixturePort.refreshed
  split
  · simp only [refreshLatch, shiftNext, setFixturePort_fixture, fixturePort_set_self, Tab.set_set]
    rfl
  · split
    · rfl
    · exact (Tab.set_get ..).symm

theorem forEach_two (f : Fin 2 → State → State) (s : State) : forEach f s = f 1 (f 0 s) := by
  simp [forEach, List.finRange_succ]

theorem forEach_refreshBoundary_port (p : Fin 2) (s : State) :
    (forEach refreshBoundary s).fixturePort p = (s.fixturePort p).refreshed s.now s.canvas.lightHold := by
  have hkept : OnlyChanges [.fixture] s (refreshBoundary 0 s) := by simp
  rw [forEach_two, fixturePort_of_fixture (refreshBoundary_fixture 1 _), hkept.now rfl, hkept.canvas rfl,
    fixturePort_of_fixture (refreshBoundary_fixture 0 s), fixturePort_of_fixture (refreshBoundary_fixture 0 s)]
  match p with
  | 0 => rfl
  | 1 => rfl

theorem drainFifo_fixture (p : Fin 2) (s : State) :
    (drainFifo p s).fixture = s.fixture.set p { s.fixturePort p with fifo := [] } :=
  foldl_keeps (fun t => t.fixture = s.fixture.set p { s.fixturePort p with fifo := [] })
    (fun s e => offer .fixtureReply (fixtureReplyBody p s.frameNo e) s) (fun _ _ h => h) (s.fixturePort p).fifo
    (s.setFixturePort p { s.fixturePort p with fifo := [] }) rfl

/-- The event of one reply. -/
def replyReport (p : Fin 2) (n : FrameNo) (e : FifoEntry) : Report := .event .fixtureReply (fixtureReplyBody p n e)

theorem tells_replies {s : State} (p : Fin 2) (n : FrameNo) (l : List FifoEntry) : ∀ (w : List Report) (u : State),
    u.frameNo = n → Tells [some .fixtureReply] w s u → Tells [some .fixtureReply] (w ++ l.map (replyReport p n)) s
      (l.foldl (fun s e => offer .fixtureReply (fixtureReplyBody p s.frameNo e) s) u) := by
  induction l with
  | nil => intro w u _ hu; simpa using hu
  | cons e l ih =>
    intro w u hframe hu
    have hoffer : Tells [some .fixtureReply] (w ++ [replyReport p n e]) s (offer .fixtureReply (fixtureReplyBody p u.frameNo e) u) := by
      have h := tells_offer .fixtureReply (fixtureReplyBody p u.frameNo e) hu
      rw [hframe] at h ⊢
      exact h
    have h := ih (w ++ [replyReport p n e]) (offer .fixtureReply (fixtureReplyBody p u.frameNo e) u) hframe hoffer
    rw [List.append_assoc] at h
    exact h

theorem tells_drainFifo {w : List Report} {s t : State} (p : Fin 2) (h : Tells [some .fixtureReply] w s t) :
    Tells [some .fixtureReply] (w ++ (t.fixturePort p).fifo.map (replyReport p t.frameNo)) s (drainFifo p t) :=
  tells_replies p t.frameNo (t.fixturePort p).fifo w (t.setFixturePort p { t.fixturePort p with fifo := [] }) rfl
    (h.other (by simp))

theorem forEach_drainFifo_port (p : Fin 2) (s : State) :
    (forEach drainFifo s).fixturePort p = { s.fixturePort p with fifo := [] } := by
  rw [forEach_two, fixturePort_of_fixture (drainFifo_fixture 1 _), fixturePort_of_fixture (drainFifo_fixture 0 s),
    fixturePort_of_fixture (drainFifo_fixture 0 s)]
  match p with
  | 0 => rfl
  | 1 => rfl

/-! ### The causes of the holds at a boundary (R84 to R88) -/

/-- The part of the canvas that the holds are made of. -/
def Canvas.holds (c : Canvas) : Canvas :=
  { c with record := none, engine := none, notice := none, frameDamaged := false, counters := CanvasCounters.zero }

@[simp] theorem Canvas.holds_eq_iff (c d : Canvas) : c.holds = d.holds ↔
    c.operator = d.operator ∧ c.contact = d.contact ∧ c.auto = d.auto ∧ c.autoCount = d.autoCount ∧
      c.assignedNow = d.assignedNow ∧ c.lightOperator = d.lightOperator ∧ c.lightHold = d.lightHold := by
  simp [Canvas.holds]

theorem stopMapping_holds {count : State → State} (hc : ∀ u, (count u).canvas.holds = u.canvas.holds) (s : State) :
    (stopMapping count s).canvas.holds = s.canvas.holds := by
  unfold stopMapping
  split
  · rfl
  · split
    · exact (hc _).trans rfl
    · rfl
    · rfl
    · rfl

theorem presentFrame_holds (s : State) : (presentFrame s).canvas.holds = s.canvas.holds := by
  have hstop : (stopMapping countLate s).canvas.holds = s.canvas.holds := stopMapping_holds (count := countLate) (fun u => rfl) s
  unfold presentFrame
  split
  · rfl
  · split
    · exact hstop
    · rfl

theorem abandonFrame_holds (s : State) : (abandonFrame s).canvas.holds = s.canvas.holds := by
  have hstop : (stopMapping countUnassigned s).canvas.holds = s.canvas.holds := stopMapping_holds (count := countUnassigned) (fun u => rfl) s
  unfold abandonFrame
  split
  · rfl
  · split
    · exact hstop
    · rfl

theorem changeWall_canvas (cause : HoldCause) (after : Canvas) (s : State) : (changeWall cause after s).canvas = after := by
  simp only [changeWall]
  split
  · rfl
  · split <;> rfl

theorem lightHoldBoundary_canvas (s : State) :
    (lightHoldBoundary s).canvas = { s.canvas with lightHold := s.canvas.lightOperator } := by
  simp only [lightHoldBoundary]
  split
  · rfl
  · split <;> rfl

/-- The canvas behind the part of a boundary that begins it. -/
theorem boundaryOpening_holds (s : State) :
    (boundaryOpening s).canvas.holds = { s.canvas with lightHold := s.canvas.lightOperator }.holds := by
  have htiming : (timingBoundary s).canvas = s.canvas := OnlyChanges.canvas (l := [.now, .slot, .timing, .mgmt]) (by simp) rfl
  have hpresent := presentFrame_holds (timingBoundary s)
  have hset : (applyPriorities (applySettings (presentFrame (timingBoundary s)))).canvas =
    (presentFrame (timingBoundary s)).canvas := OnlyChanges.canvas (l := [.drive, .merge]) (by simp) rfl
  change (lightHoldBoundary (applyPriorities (applySettings (presentFrame (timingBoundary s))))).canvas.holds = _
  rw [lightHoldBoundary_canvas, hset]
  rw [htiming, Canvas.holds_eq_iff] at hpresent
  obtain ⟨hop, hct, hau, hac, has, hlo, -⟩ := hpresent
  simp [hop, hct, hau, hac, has, hlo]

/-- The auto hold of a boundary (R87). -/
theorem autoHoldBoundary_holds (s : State) :
    let due := autoHoldDue s.canvas
    (autoHoldBoundary s).canvas = { s.canvas with
      auto := s.canvas.auto || due, assignedNow := false
      autoCount := if due then 2 else if s.canvas.assignedNow then s.canvas.autoCount else min 2 (s.canvas.autoCount + 1) } := by
  simp only [autoHoldBoundary]
  split
  · next h => simp [setAutoHold, changeWall_canvas, h]
  · next h =>
    split
    · next ha => simp [h, ha]
    · next ha => simp [h, ha]

theorem wallAfterAuto_only (s : State) :
    OnlyChanges [.mgmt, .ports, .sent, .limiter, .accumulation, .level] s (wallAfterAuto s) := by simp [wallAfterAuto]

theorem contactHold_holds (gp : Tab 4 Bool) (s : State) :
    (contactHold gp s).canvas.holds = { s.canvas with contact := contactHolds s gp }.holds := by
  simp only [contactHold]
  split
  · rw [abandonFrame_holds, changeWall_canvas]
  · rw [changeWall_canvas]

/-- The light hold behind the wall's part of a boundary. -/
theorem boundaryWall_lightHold (gp : Tab 4 Bool) (o : CommitOrder) (s : State) :
    (boundaryWall (boundaryLook gp o (boundaryOpening s))).canvas.lightHold = s.canvas.lightOperator := by
  have hlook := boundaryLook_only (boundaryOpening s) gp o
  have hopen := boundaryOpening_holds s
  rw [Canvas.holds_eq_iff] at hopen
  obtain ⟨-, -, -, -, -, -, hlight⟩ := hopen
  rw [boundaryWall_eq, (wallAfterAuto_only _).canvas rfl, autoHoldBoundary_holds, hlook.canvas rfl]
  exact hlight

/-- The port at the end of a boundary (R166, R170): its slot values are those of the new look. -/
theorem frameBoundary_fixturePort (gp : Tab 4 Bool) (o : CommitOrder) (s : State) (p : Fin 2) : ∃ slots,
    (frameBoundary gp o s).fixturePort p =
      { (s.fixturePort p).refreshed (frameBoundary gp o s).now s.canvas.lightOperator with slots := slots, fifo := [] } := by
  have hlight := boundaryWall_lightHold gp o s
  have hopen := boundaryOpening_only s
  have hlook := boundaryLook_only (boundaryOpening s) gp o
  have hwall := boundaryWall_only (boundaryLook gp o (boundaryOpening s))
  have hfixture : (boundaryWall (boundaryLook gp o (boundaryOpening s))).fixturePort p = s.fixturePort p := by
    rw [State.fixturePort, hwall.fixture rfl, hlook.fixture rfl, hopen.fixture rfl]; rfl
  change ∃ slots, (boundaryContacts gp o (boundaryLight (boundaryWall (boundaryLook gp o (boundaryOpening s))))).fixturePort p =
    { (s.fixturePort p).refreshed
        (boundaryContacts gp o (boundaryLight (boundaryWall (boundaryLook gp o (boundaryOpening s))))).now _ with
      slots := slots, fifo := [] }
  generalize boundaryWall (boundaryLook gp o (boundaryOpening s)) = u at hlight hfixture
  have hcontacts := boundaryContacts_only (boundaryLight u) gp o
  have htake : OnlyChanges [.drive] u (takeUp u) := by simp
  rw [hcontacts.now rfl, (boundaryLight_only u).now rfl, State.fixturePort, hcontacts.fixture rfl, ← State.fixturePort, boundaryLight,
    forEach_drainFifo_port]
  refine ⟨slotsFor (forEach refreshBoundary (takeUp u)) (grandMaster (forEach refreshBoundary (takeUp u))) p, ?_⟩
  have heval : (evaluateLight (forEach refreshBoundary (takeUp u))).fixturePort p =
      { (forEach refreshBoundary (takeUp u)).fixturePort p with
        slots := slotsFor (forEach refreshBoundary (takeUp u)) (grandMaster (forEach refreshBoundary (takeUp u))) p } := by
    simp [evaluateLight, State.fixturePort]
  rw [heval, forEach_refreshBoundary_port, State.fixturePort, htake.fixture rfl, htake.now rfl, htake.canvas rfl, ← State.fixturePort,
    hfixture, hlight]

end Sys2Proof.Machine
end

section
/-! PROOFS. Frames sent, characters received, replies, windows and refresh of the fixture ports (sections 10.5 to 10.7). -/

namespace Sys2Proof.Machine

section
variable (p : Fin 2) (s : State)

/-- What the shifter takes next once a frame is over (R166, R167). -/
theorem shiftNext_of_level {slots : List Byte} (hi : (s.fixturePort p).shifter = .idle)
    (hq : ∀ q, (s.fixturePort p).query = some q → q.phase ≠ .waiting) (hb : (s.fixturePort p).buffer = some slots) :
    shiftNext p s = s.setFixturePort p { s.fixturePort p with
      shifter := .level s.now (s.fixturePort p).rate slots, buffer := none } := by
  unfold shiftNext takeWork
  cases h : (s.fixturePort p).query with
  | none => simp only [hi, h, hb]
  | some q => simp only [hi, h, if_neg (hq q h), hb]

theorem shiftNext_of_rest (hq : ∀ q, (s.fixturePort p).query = some q → q.phase ≠ .waiting)
    (hb : (s.fixturePort p).buffer = none) : shiftNext p s = s := by
  cases hi : (s.fixturePort p).shifter with
  | idle =>
    unfold shiftNext takeWork
    cases h : (s.fixturePort p).query with
    | none => simp only [hi, hb, setFixturePort_self]
    | some q => simp only [hi, if_neg (hq q h), hb, setFixturePort_self]
  | level => exact shiftNext_of_busy p s (by simp [hi])
  | query => exact shiftNext_of_busy p s (by simp [hi])
  | cutOff => exact shiftNext_of_busy p s (by simp [hi])

end

/-! ### The shifter -/

theorem exec_of_run {c : Instr} (hc : isManagement c = false) {s t : State} (h : run c s = t) : exec c s = .next t :=
  (exec_of_not_management hc s).trans (congrArg _ h)

section
variable {s : State} {p : Fin 2} {began : Nat} {rate : BitRate}

theorem exec_shifterFrameEnd_level {slots : List Byte} (hs : (s.fixturePort p).shifter = .level began rate slots) :
    exec (.shifterFrameEnd p) s = .next (shiftNext p (emit (.fixture p rate (0x10 :: slots))
      ((s.setNow (max s.now (began + 11200 + (slots.length + 1) * rate.characterTicks))).setFixturePort p
        (s.fixturePort p).levelSent))) := by
  refine exec_of_run rfl ?_
  change endShifterFrame p s = _
  simp only [endShifterFrame, hs]
  rw [show began + 11200 + (slots.length + 1) * rate.characterTicks = began + frameTicks rate (levelFrame slots).length from
    Nat.add_assoc ..]
  rfl

theorem exec_shifterFrameEnd_query {q : Query} (hs : (s.fixturePort p).shifter = .query began rate)
    (hq : (s.fixturePort p).query = some q) :
    exec (.shifterFrameEnd p) s = .next (shiftNext p
      (emit (.fixture p rate [0x20, BitVec.ofNat 8 q.address, q.kind.character])
        ((s.setNow (max s.now (began + 11200 + 3 * rate.characterTicks))).setFixturePort p
          ((s.fixturePort p).querySent (max s.now (began + 11200 + 3 * rate.characterTicks)))))) := by
  refine exec_of_run rfl ?_
  change endShifterFrame p s = _
  simp only [endShifterFrame, shifterCharacters, hs, hq]
  rw [show began + 11200 + 3 * rate.characterTicks = began + frameTicks rate 3 from Nat.add_assoc ..]
  rfl

theorem exec_shifterFrameEnd_cutOff {characters : List Byte}
    (hs : (s.fixturePort p).shifter = .cutOff began rate characters) :
    exec (.shifterFrameEnd p) s = .next (shiftNext p
      ((s.setNow (max s.now (began + 11200 + characters.length * rate.characterTicks))).setFixturePort p
        { s.fixturePort p with shifter := .idle })) := by
  refine exec_of_run rfl ?_
  change endShifterFrame p s = _
  simp only [endShifterFrame, hs]
  rw [show began + 11200 + characters.length * rate.characterTicks = began + frameTicks rate characters.length from
    Nat.add_assoc ..]
  rfl

/-- The level of a bit on the line (log entry 33). -/
theorem frameLevel_bit {characters : List Byte} {i bit tick : Nat} {c : Byte} (hc : characters[i]? = some c) (hbit : bit < 11)
    (hlow : 11200 + i * rate.characterTicks + bit * (rate.characterTicks / 11) ≤ tick)
    (hhigh : tick < 11200 + i * rate.characterTicks + (bit + 1) * (rate.characterTicks / 11)) :
    some (frameLevel rate characters tick) = (characterBits c)[bit]? := by
  have hlen : (characterBits c).length = 11 := rfl
  have h11 : rate.characterTicks = 11 * (rate.characterTicks / 11) := by cases rate <;> rfl
  have hpos := characterTicks_pos rate
  generalize rate.characterTicks / 11 = d at *
  obtain ⟨r, rfl⟩ := Nat.exists_eq_add_of_le hlow
  have hr : r < d := by
    have : (bit + 1) * d = bit * d + d := Nat.succ_mul ..
    omega
  have hin : bit * d + r < rate.characterTicks := by
    have : (bit + 1) * d ≤ 11 * d := Nat.mul_le_mul_right d hbit
    have : (bit + 1) * d = bit * d + d := Nat.succ_mul ..
    omega
  have hsub : 11200 + i * rate.characterTicks + bit * d + r - Config.leadIn = i * rate.characterTicks + (bit * d + r) := by
    change 11200 + i * rate.characterTicks + bit * d + r - 11200 = _
    omega
  have hdiv : (i * rate.characterTicks + (bit * d + r)) / rate.characterTicks = i := by
    rw [Nat.add_comm, Nat.add_mul_div_right _ _ hpos, Nat.div_eq_of_lt hin, Nat.zero_add]
  have hmod : (i * rate.characterTicks + (bit * d + r)) % rate.characterTicks = bit * d + r := by
    rw [Nat.mul_add_mod_self_right, Nat.mod_eq_of_lt hin]
  have hd : (bit * d + r) / d = bit := by
    rw [Nat.add_comm, Nat.add_mul_div_right _ _ (by omega), Nat.div_eq_of_lt hr, Nat.zero_add]
  have hbreak : ¬ 11200 + i * rate.characterTicks + bit * d + r < Config.breakTicks := by
    change ¬ _ < 9600
    omega
  have hlead : ¬ 11200 + i * rate.characterTicks + bit * d + r < Config.leadIn := by
    change ¬ _ < 11200
    omega
  unfold frameLevel
  rw [if_neg hbreak, if_neg hlead, hsub, hdiv, hc, hmod]
  dsimp only
  rw [show rate.characterTicks / 11 = d by omega, hd, List.getD_eq_getElem?_getD, List.getElem?_eq_getElem (by rw [hlen]; exact hbit)]
  rfl

end

/-! ### Replies -/

section
variable {q : Query} {f : RxFrame}

/-- The reply that R169 calls good: start, count of 1 to 12, values, checksum, and no character in error. -/
def GoodReply (q : Query) (f : RxFrame) (values extra : List Byte) : Prop :=
  1 ≤ values.length ∧ values.length ≤ 12 ∧
    f.chars.map RxChar.data = replyStart q ++ u8 values.length ++ values ++
      [replyChecksum (replyStart q ++ u8 values.length ++ values)] ++ extra ∧
    ∀ c ∈ f.chars.take (5 + values.length), c.parityError = false ∧ c.framingError = false

theorem isReply_iff : isReply q f = true ↔ (f.chars.map RxChar.data).take 3 = replyStart q := by simp [isReply]

theorem length_replyStart (q : Query) : (replyStart q).length = 3 := rfl

/-- The parts of a good reply. -/
theorem GoodReply.parts {values extra : List Byte} (h : GoodReply q f values extra) :
    replyLength f.chars = values.length ∧
    (f.chars.map RxChar.data).take 3 = replyStart q ∧
    (f.chars.map RxChar.data).take (4 + values.length) = replyStart q ++ u8 values.length ++ values ∧
    ((f.chars.map RxChar.data).drop 4).take values.length = values ∧
    (f.chars.map RxChar.data).take (5 + values.length) = replyStart q ++ u8 values.length ++ values ++
      [replyChecksum (replyStart q ++ u8 values.length ++ values)] ∧ 5 + values.length ≤ f.chars.length := by
  obtain ⟨hlow, hhigh, hdata, -⟩ := h
  have hhead : (replyStart q ++ u8 values.length).length = 4 := rfl
  have hbody : (replyStart q ++ u8 values.length ++ values).length = 4 + values.length := by
    rw [List.length_append, hhead]
  have hall : (replyStart q ++ u8 values.length ++ values ++
      [replyChecksum (replyStart q ++ u8 values.length ++ values)]).length = 5 + values.length := by
    rw [List.length_append, hbody, List.length_singleton]; omega
  refine ⟨?_, by rw [hdata]; rfl, ?_, ?_, ?_, ?_⟩
  · have h3 : (f.chars.map RxChar.data)[3]? = some (BitVec.ofNat 8 values.length) := by rw [hdata]; rfl
    rw [List.getElem?_map] at h3
    obtain ⟨c, hc, hd⟩ := Option.map_eq_some_iff.mp h3
    simp only [replyLength, hc, Option.map_some, Option.getD_some, hd, BitVec.toNat_ofNat]
    omega
  · rw [hdata, List.append_assoc _ _ extra, ← hbody, List.take_left]
  · rw [hdata, List.append_assoc, List.append_assoc, ← hhead, List.drop_left, List.take_left]
  · rw [hdata, ← hall, List.take_left]
  · have := congrArg List.length hdata
    rw [List.length_append, hall, List.length_map] at this
    omega

theorem replyIsGood_of_good {values extra : List Byte} (h : GoodReply q f values extra) : replyIsGood f.chars = true := by
  obtain ⟨hlength, -, hbody, -, hall, hmin⟩ := h.parts
  obtain ⟨hlow, hhigh, -, herror⟩ := h
  have hchars : (f.chars.take (5 + values.length)).all (fun c => !c.parityError && !c.framingError) = true := by
    rw [List.all_eq_true]
    intro c hc
    obtain ⟨hparity, hframing⟩ := herror c hc
    simp [hparity, hframing]
  simp only [replyIsGood, hlength, List.map_take, hall, hbody, hchars, hlow, hhigh, hmin, List.getLast?_concat]
  simp

/-- A reply that passes every test is a good one. -/
theorem good_of_replyIsGood (hr : isReply q f = true) (hg : replyIsGood f.chars = true) :
    ∃ values extra, GoodReply q f values extra := by
  rw [isReply_iff] at hr
  simp only [replyIsGood, Bool.and_eq_true, decide_eq_true_eq, List.map_take, List.all_eq_true, Bool.not_eq_true'] at hg
  obtain ⟨⟨⟨⟨hlow, hhigh⟩, hmin⟩, herror⟩, hlast⟩ := hg
  generalize hn : replyLength f.chars = n at *
  generalize hd : f.chars.map RxChar.data = data at *
  have hlen : data.length = f.chars.length := by rw [← hd, List.length_map]
  have hcount : data.take 4 = replyStart q ++ u8 n := by
    have h3 : data[3]? = some (BitVec.ofNat 8 n) := by
      have hc : f.chars[3]? = some (f.chars[3]'(by omega)) := List.getElem?_eq_getElem _
      rw [← hd, List.getElem?_map, hc]
      simp [replyLength, hc] at hn
      simp [← hn]
    rw [List.take_add_one, hr, h3]; rfl
  have hvalues : ((data.drop 4).take n).length = n := by
    rw [List.length_take, List.length_drop]; omega
  have hbody : data.take (4 + n) = replyStart q ++ u8 n ++ (data.drop 4).take n := by
    rw [List.take_add, hcount]
  have hall : data.take (5 + n) = data.take (4 + n) ++ [replyChecksum (data.take (4 + n))] := by
    rw [show 5 + n = 4 + n + 1 by omega, List.take_add_one] at hlast ⊢
    have hc : data[4 + n]? = some (data[4 + n]'(by omega)) := List.getElem?_eq_getElem _
    rw [hc] at hlast ⊢
    simp only [Option.toList_some, List.getLast?_concat, Option.some.injEq] at hlast ⊢
    rw [hlast]
  refine ⟨(data.drop 4).take n, data.drop (5 + n), ?_⟩
  unfold GoodReply
  rw [hvalues, hd, ← hbody, ← hall, List.take_append_drop]
  exact ⟨hlow, hhigh, rfl, herror⟩

/-- What the FIFO makes of a frame that is over (R170). -/
def FixturePort.landed (f : RxFrame) (x : FixturePort) : FixturePort := joinFifo f { x with rx := none }

theorem landed_fields (f : RxFrame) (x : FixturePort) : (x.landed f).query = x.query ∧ (x.landed f).rate = x.rate ∧
    (x.landed f).rx = none ∧ (x.landed f).counters.noReplies = x.counters.noReplies := by
  unfold FixturePort.landed joinFifo
  dsimp only
  split
  · simp
  · split <;> simp

section
variable {s : State} {p : Fin 2} (hf : (s.fixturePort p).rx = some f)
include hf

theorem exec_frameEnd_of_other (h : (s.fixturePort p).query = none ∨ f.inWindow = false) :
    exec (.fixtureFrameEnd p) s = .next (s.setFixturePort p ((s.fixturePort p).landed f)) := by
  refine exec_of_run rfl ?_
  change endRxFrame p s = _
  simp only [endRxFrame, hf, fixturePort_set_self, setFixturePort_setFixturePort]
  split
  · rfl
  · next q hq =>
    have hw : f.inWindow = false := h.resolve_left (by simp [hq])
    simp only [hw, Bool.false_eq_true, if_false]
    rfl

variable (hq : (s.fixturePort p).query = some q) (hw : f.inWindow = true)
include hq hw

theorem exec_frameEnd_of_passing (hr : (f.chars.map RxChar.data).take 3 ≠ replyStart q) (hp : q.phase ≠ .closing) :
    exec (.fixtureFrameEnd p) s = .next (s.setFixturePort p ((s.fixturePort p).landed f)) := by
  refine exec_of_run rfl ?_
  change endRxFrame p s = _
  rw [endRxFrame_inWindow hf hq hw, if_neg (by rw [isReply_iff]; exact hr)]
  simp only [passFrame, if_neg hp, fixturePort_set_self, setFixturePort_setFixturePort]
  rfl

theorem exec_frameEnd_of_closing (hr : (f.chars.map RxChar.data).take 3 ≠ replyStart q) (hp : q.phase = .closing) :
    AnswersReserved (exec (.fixtureFrameEnd p) s) (s.setFixturePort p { (s.fixturePort p).landed f with
        query := none, rxRate := (s.fixturePort p).rate
        counters := { ((s.fixturePort p).landed f).counters with
          noReplies := bump (s.fixturePort p).counters.noReplies } })
      (.answer q.tag Code.queryFixture .noReply []) := by
  obtain ⟨hquery, hrate, hrx, hcount⟩ := landed_fields f (s.fixturePort p)
  refine exec_of_run rfl ?_
  change endRxFrame p s = _
  rw [endRxFrame_inWindow hf hq hw, if_neg (by rw [isReply_iff]; exact hr)]
  simp only [passFrame, if_pos hp, fixturePort_set_self, setFixturePort_setFixturePort]
  change closeWithoutReply p (s.setFixturePort p ((s.fixturePort p).landed f)) = _
  rw [closeWithoutReply_of_some (q := q) (by rw [fixturePort_set_self, hquery, hq])]
  simp only [fixturePort_set_self, setFixturePort_setFixturePort, FixturePort.freed, hrate, hrx, hcount]
  rfl

theorem exec_frameEnd_of_good {values extra : List Byte} (hg : GoodReply q f values extra) :
    AnswersReserved (exec (.fixtureFrameEnd p) s) (s.setFixturePort p { s.fixturePort p with
        rx := none, query := none, rxRate := (s.fixturePort p).rate
        counters := { (s.fixturePort p).counters with repliesGood := bump (s.fixturePort p).counters.repliesGood } })
      (.answer q.tag Code.queryFixture .ok (u8 values.length ++ values)) := by
  obtain ⟨hlength, hstart, -, hvalues, -, -⟩ := hg.parts
  refine exec_of_run rfl ?_
  change endRxFrame p s = _
  rw [endRxFrame_inWindow hf hq hw, if_pos (isReply_iff.mpr hstart),
    takeReply_of_good (q := q) (by rw [fixturePort_set_self]; exact hq) (replyIsGood_of_good hg), hlength, hvalues]
  simp only [fixturePort_set_self, setFixturePort_setFixturePort, list8, List.flatMap_singleton']
  rfl

theorem exec_frameEnd_of_bad (hr : (f.chars.map RxChar.data).take 3 = replyStart q)
    (hg : ∀ values extra, ¬GoodReply q f values extra) :
    AnswersReserved (exec (.fixtureFrameEnd p) s) (s.setFixturePort p { s.fixturePort p with
        rx := none, query := none, rxRate := (s.fixturePort p).rate
        counters := { (s.fixturePort p).counters with repliesBad := bump (s.fixturePort p).counters.repliesBad } })
      (.answer q.tag Code.queryFixture .replyBad
        (u16 ((f.chars.map RxChar.data).take 8186).length ++ (f.chars.map RxChar.data).take 8186)) := by
  have hreply := isReply_iff.mpr hr
  have hbad : replyIsGood f.chars = false := by
    by_contra h
    obtain ⟨values, extra, hgood⟩ := good_of_replyIsGood hreply (by simpa using h)
    exact hg values extra hgood
  refine exec_of_run rfl ?_
  change endRxFrame p s = _
  rw [endRxFrame_inWindow hf hq hw, if_pos hreply, takeReply_of_bad (q := q) (by rw [fixturePort_set_self]; exact hq) hbad]
  simp only [fixturePort_set_self, setFixturePort_setFixturePort, list16, List.flatMap_singleton']
  rfl

end

theorem replyBegun_iff (x : FixturePort) : replyBegun q x = true ↔ ∃ f, x.rx = some f ∧ f.inWindow = true ∧
    (f.chars.map RxChar.data).take 3 = (replyStart q).take f.chars.length := by
  unfold replyBegun mayBeReply
  cases x.rx <;> simp

section
variable {s : State} {p : Fin 2} {closes : Nat} (hq : (s.fixturePort p).query = some q) (hp : q.phase = .window closes)
include hq hp

theorem exec_windowClose_of_begun (h : replyBegun q (s.fixturePort p) = true) :
    exec (.replyWindowClose p) s = .next ((s.setNow (max s.now closes)).setFixturePort p
      { s.fixturePort p with query := some { q with phase := .closing } }) := by
  refine exec_of_run rfl ?_
  change closeWindow p s = _
  simp only [closeWindow, hq, hp]
  exact if_pos h

theorem exec_windowClose_of_not_begun (h : replyBegun q (s.fixturePort p) ≠ true) :
    AnswersReserved (exec (.replyWindowClose p) s) ((s.setNow (max s.now closes)).setFixturePort p { s.fixturePort p with
        query := none, rxRate := (s.fixturePort p).rate, rx := (s.fixturePort p).rx.map fun f => { f with inWindow := false }
        counters := { (s.fixturePort p).counters with noReplies := bump (s.fixturePort p).counters.noReplies } })
      (.answer q.tag Code.queryFixture .noReply []) := by
  refine exec_of_run rfl ?_
  change closeWindow p s = _
  simp only [closeWindow, hq, hp]
  refine (if_neg h).trans ?_
  exact closeWithoutReply_of_some (s := advanceTo closes s) hq

end

end

/-! ### Refresh (R166) -/

section
variable {x : FixturePort} (now : Nat) (held : Bool)

theorem takeWork_latch_of_busy (h : x.shifter ≠ .idle) : takeWork now (latchSnapshot held x) = latchSnapshot held x := by
  unfold takeWork latchSnapshot
  cases hs : x.shifter with
  | idle => exact absurd hs h
  | level => rfl
  | query => rfl
  | cutOff => rfl

theorem takeWork_latch_of_rest (h : x.shifter = .idle) (hq : ∀ q, x.query = some q → q.phase ≠ .waiting) :
    takeWork now (latchSnapshot held x) =
      { latchSnapshot held x with shifter := .level now x.rate (snapshotOf held x), buffer := none } := by
  have hs : (latchSnapshot held x).shifter = .idle := h
  have hquery : (latchSnapshot held x).query = x.query := rfl
  have hb : (latchSnapshot held x).buffer = some (snapshotOf held x) := rfl
  unfold takeWork
  cases hx : x.query with
  | none => simp only [hs, hquery, hx, hb]; rfl
  | some q => simp only [hs, hquery, hx, if_neg (hq q hx), hb]; rfl

theorem takeWork_latch_of_waiting {q : Query} (h : x.shifter = .idle) (hq : x.query = some q) (hw : q.phase = .waiting) :
    takeWork now (latchSnapshot held x) =
      { latchSnapshot held x with shifter := .query now x.rate, query := some { q with phase := .sending } } := by
  have hs : (latchSnapshot held x).shifter = .idle := h
  have hquery : (latchSnapshot held x).query = some q := hq
  simp only [takeWork, hs, hquery, hw, if_true]
  rfl

theorem refreshed_of_off (h : x.refreshing = false) : x.refreshed now held = x := by
  simp [FixturePort.refreshed, refreshDue, h]

theorem refreshed_of_later (h : x.refreshing = true) (hc : 1 < x.refreshCount) :
    x.refreshed now held = { x with refreshCount := x.refreshCount - 1 } := by
  simp [FixturePort.refreshed, refreshDue, h, Nat.not_le.mpr hc]

theorem refreshed_of_due (h : x.refreshing = true) (hc : x.refreshCount ≤ 1) :
    x.refreshed now held = takeWork now (latchSnapshot held x) := by
  simp [FixturePort.refreshed, refreshDue, h, hc]

end

theorem refreshDue_iff {x : FixturePort} : refreshDue x = true ↔ x.refreshing = true ∧ x.refreshCount ≤ 1 := by
  simp [refreshDue]

/-- Whatever the shifter takes, the refresh count, the count of late frames and the last snapshot are those latched. -/
theorem takeWork_latch_kept (now : Nat) (held : Bool) (x : FixturePort) :
    (takeWork now (latchSnapshot held x)).refreshCount = x.divisor ∧
    (takeWork now (latchSnapshot held x)).counters.lateFrames = bumpIf x.buffer.isSome x.counters.lateFrames ∧
    (takeWork now (latchSnapshot held x)).lastSnapshot = some (snapshotOf held x) := by
  unfold takeWork
  repeat' split
  all_goals exact ⟨rfl, rfl, rfl⟩

theorem bumpIf_isSome {α : Type} (b : Option α) (c : Counter) :
    bumpIf b.isSome c = if b = none then c else bump c := by cases b <;> rfl

theorem exec_fixtureRefresh (p : Fin 2) (s : State) : exec (.fixtureRefresh p) s =
    .next (if refreshDue (s.fixturePort p) then refreshLatch p s else s) := exec_of_run rfl rfl

theorem refreshLatch_eq (p : Fin 2) (s : State) : refreshLatch p s =
    s.setFixturePort p (takeWork s.now (latchSnapshot s.canvas.lightHold (s.fixturePort p))) := by
  simp only [refreshLatch, shiftNext, fixturePort_set_self, setFixturePort_setFixturePort]
  rfl

/-- A boundary tells of exactly the replies that the ports held, port 0 first (R170). -/
theorem tells_frameBoundary_replies (gp : Tab 4 Bool) (o : CommitOrder) (s : State) :
    Tells [some .fixtureReply] ((List.finRange 2).flatMap fun q =>
      (s.fixturePort q).fifo.map (replyReport q (frameBoundary gp o s).timing.frame)) s (frameBoundary gp o s) := by
  have hopen := boundaryOpening_only s
  have hlook := boundaryLook_only (boundaryOpening s) gp o
  have hwall := boundaryWall_only (boundaryLook gp o (boundaryOpening s))
  have htold : Tells [some .fixtureReply] [] s (boundaryWall (boundaryLook gp o (boundaryOpening s))) :=
    tells_wallAfterAuto (by decide) (by decide) (by decide) (by decide) (tells_autoHoldBoundary (by decide) (by decide)
      (tells_boundaryLook gp o (by decide) (by decide) (by decide) (by decide)
        (tells_boundaryOpening (by decide) (by decide) (by decide) (by decide) .refl)))
  have hfixture : ∀ q, (boundaryWall (boundaryLook gp o (boundaryOpening s))).fixturePort q = s.fixturePort q := fun q => by
    rw [State.fixturePort, hwall.fixture rfl, hlook.fixture rfl, hopen.fixture rfl]; rfl
  have hframe : (frameBoundary gp o s).timing.frame =
      (boundaryWall (boundaryLook gp o (boundaryOpening s))).timing.frame := by
    simp [frameBoundary]
  change Tells _ _ _ (boundaryContacts gp o (boundaryLight (boundaryWall (boundaryLook gp o (boundaryOpening s)))))
  rw [hframe]
  refine tells_boundaryContacts gp o (by decide) (by decide) (by decide) ?_
  generalize boundaryWall (boundaryLook gp o (boundaryOpening s)) = u at htold hfixture
  have hlight : OnlyChanges [.drive, .fixture, .level] u (evaluateLight (forEach refreshBoundary (takeUp u))) := by simp
  have hfifo : ∀ q, ((evaluateLight (forEach refreshBoundary (takeUp u))).fixturePort q).fifo = (s.fixturePort q).fifo := by
    intro q
    have hdrive : OnlyChanges [.drive] u (takeUp u) := by simp
    have heval : ∀ v, ((evaluateLight v).fixturePort q).fifo = (v.fixturePort q).fifo := fun v => by
      simp [evaluateLight, State.fixturePort]
    rw [heval, forEach_refreshBoundary_port, State.fixturePort, hdrive.fixture rfl, ← State.fixturePort, hfixture]
    unfold FixturePort.refreshed
    split
    · unfold takeWork
      repeat' split
      all_goals rfl
    · split <;> rfl
  have hu := htold.other (hlight.mono (by decide))
  have htwo : ∀ v, forEach drainFifo v = drainFifo 1 (drainFifo 0 v) := forEach_two _
  rw [boundaryLight, htwo]
  have h0 := tells_drainFifo 0 hu
  have h1 := tells_drainFifo 1 h0
  have hother : ∀ v, ((drainFifo 0 v).fixturePort 1) = v.fixturePort 1 := fun v => by
    rw [fixturePort_of_fixture (drainFifo_fixture 0 v)]; rfl
  have hn : ∀ v, (drainFifo 0 v).frameNo = v.frameNo := fun v => by
    have : OnlyChanges [.fixture, .mgmt] v (drainFifo 0 v) := by simp
    rw [State.frameNo, this.timing rfl]; rfl
  rw [hother, hn, hfifo, hfifo, State.frameNo, hlight.timing rfl] at h1
  simpa [List.finRange_succ] using h1

theorem replyReport_eq (p : Fin 2) (n : FrameNo) : replyReport p n = fun e => .event .fixtureReply
    (u8 p.val ++ u8 e.chars.length ++ e.chars ++ flag e.parity ++ flag e.framing ++ u32 n.toNat) := by
  funext e
  simp only [replyReport, fixtureReplyBody, list8, List.flatMap_singleton', frameBytes, List.append_assoc]

theorem isIn_singleton (kind : EventKind) : Report.isIn [some kind] = Report.isEvent kind := by
  funext r
  cases r <;> simp [Report.isEvent]

/-- Settles O49: row by row; at a boundary each port refreshes and its replies leave it. -/
theorem fixturePortsSendAndReceive : Obligations.FixturePortsSendAndReceive := by
  intro s p x k ticks
  have hticks : ∀ rate, ticks rate = rate.characterTicks := fun rate => by cases rate <;> rfl
  refine ⟨?_, ?_, ?_, ?_, ?_, ?_, ?_, ?_, ?_⟩
  · intro began rate slots hs now sent ends free
    have hexec := exec_shifterFrameEnd_level hs
    rw [← hticks] at hexec
    refine ⟨fun hfree hb => ?_, fun next hfree hb => ?_, fun q hq hw => ?_, fun tick => ?_⟩
    · exact hexec.trans (congrArg _ (shiftNext_of_rest p _ (by rw [fixturePort_emit, fixturePort_set_self]; exact hfree)
        (by rw [fixturePort_emit, fixturePort_set_self]; exact hb)))
    · refine hexec.trans (congrArg _ ((shiftNext_of_level p _ (by rw [fixturePort_emit, fixturePort_set_self]; rfl)
        (by rw [fixturePort_emit, fixturePort_set_self]; exact hfree)
        (by rw [fixturePort_emit, fixturePort_set_self]; exact hb)).trans ?_))
      rw [fixturePort_emit, fixturePort_set_self, setFixturePort_emit, setFixturePort_setFixturePort]
      rfl
    · refine hexec.trans (congrArg _ ((shiftNext_of_query p _ (by rw [fixturePort_emit, fixturePort_set_self]; rfl)
        (by rw [fixturePort_emit, fixturePort_set_self]; exact hq) hw).trans ?_))
      rw [fixturePort_emit, fixturePort_set_self, setFixturePort_emit, setFixturePort_setFixturePort]
      rfl
    · have hon : busLevel (began + tick) x = frameLevel rate (0x10 :: slots) tick := by
        have hs : (s.fixturePort p).shifter = .level began rate slots := hs
        simp only [busLevel, shifterCharacters, x, hs, Nat.add_sub_cancel_left]
        rfl
      intro on
      refine ⟨fun h => hon.trans (if_pos h), fun h h' => hon.trans ((if_neg (Nat.not_lt.mpr h)).trans (if_pos h')),
        fun i c bit hc hbit hlow hhigh => ?_⟩
      rw [hticks] at hlow hhigh
      exact (congrArg some hon).trans (frameLevel_bit hc hbit hlow hhigh)
  · intro began rate q hs hq now ends sent
    have hexec := exec_shifterFrameEnd_query hs hq
    rw [← hticks] at hexec
    have hport : (s.fixturePort p).querySent now = sent := by
      have hq : (s.fixturePort p).query = some q := hq
      simp only [FixturePort.querySent, hq]; rfl
    have hphase : ∀ q', sent.query = some q' → q'.phase ≠ .waiting := by
      rintro q' hq'
      obtain rfl := Option.some.inj hq'
      simp
    rw [show max s.now (began + 11200 + 3 * ticks rate) = now from rfl, hport] at hexec
    refine ⟨fun hb => ?_, fun next hb => ?_⟩
    · exact hexec.trans (congrArg _ (shiftNext_of_rest p _ (by rw [fixturePort_emit, fixturePort_set_self]; exact hphase)
        (by rw [fixturePort_emit, fixturePort_set_self]; exact hb)))
    · refine hexec.trans (congrArg _ ((shiftNext_of_level p _ (by rw [fixturePort_emit, fixturePort_set_self])
        (by rw [fixturePort_emit, fixturePort_set_self]; exact hphase)
        (by rw [fixturePort_emit, fixturePort_set_self]; exact hb)).trans ?_))
      rw [fixturePort_emit, fixturePort_set_self, setFixturePort_emit, setFixturePort_setFixturePort]
      rfl
  · intro began rate characters hs now ends free
    have hexec := exec_shifterFrameEnd_cutOff hs
    rw [← hticks] at hexec
    refine ⟨fun hfree hb => ?_, fun next hfree hb => ?_, fun q hq hw => ?_⟩
    · exact hexec.trans (congrArg _ (shiftNext_of_rest p _ (by rw [fixturePort_set_self]; exact hfree)
        (by rw [fixturePort_set_self]; exact hb)))
    · refine hexec.trans (congrArg _ ((shiftNext_of_level p _ (by rw [fixturePort_set_self])
        (by rw [fixturePort_set_self]; exact hfree) (by rw [fixturePort_set_self]; exact hb)).trans ?_))
      rw [fixturePort_set_self, setFixturePort_setFixturePort]
      rfl
    · refine hexec.trans (congrArg _ ((shiftNext_of_query p _ (by rw [fixturePort_set_self])
        (by rw [fixturePort_set_self]; exact hq) hw).trans ?_))
      rw [fixturePort_set_self, setFixturePort_setFixturePort]
      rfl
  · intro data parity stop gap bad seen c
    have hrun : run c s = receiveCharacter p data parity ⟨stop, gap⟩ s := rfl
    refine ⟨fun hoff => ?_, fun f hon hrx => ?_, fun hon hrx hgap => ?_, fun hon hrx hgap => ?_⟩ <;>
      refine exec_of_run rfl (hrun.trans ?_)
    · exact if_neg (by simp [show (s.fixturePort p).refreshing = false from hoff])
    all_goals
      refine (if_pos hon).trans ?_
      have hrx : (s.fixturePort p).rx = _ := hrx
      simp only [storeCharacter, frameAfter, hrx]
    · rfl
    · simp only [hgap, if_true]; rfl
    · simp only [hgap, Bool.false_eq_true, if_false]
      exact congrArg (s.setFixturePort p) (congrArg (fun r => { seen with rx := r }) hrx).symm
  · intro f hf data idle landed
    refine ⟨fun h => exec_frameEnd_of_other hf h, fun q hq hw => ?_⟩
    intro good
    exact ⟨fun hr hp => exec_frameEnd_of_passing hf hq hw hr hp, fun hr hp => exec_frameEnd_of_closing hf hq hw hr hp,
      fun values extra hg => exec_frameEnd_of_good hf hq hw hg, fun hr hg => exec_frameEnd_of_bad hf hq hw hr hg⟩
  · intro q closes hq hp begun s'
    refine ⟨fun h => exec_windowClose_of_begun hq hp ((replyBegun_iff _).mpr h),
      fun h => exec_windowClose_of_not_begun hq hp (fun hb => h ((replyBegun_iff _).mp hb))⟩
  · intro hon hc
    refine ⟨takeWork s.now (latchSnapshot s.canvas.lightHold x), ?_, ?_, ?_, ?_, ?_, ?_, ?_⟩
    · have hdue : refreshDue (s.fixturePort p) = true := refreshDue_iff.mpr ⟨hon, hc⟩
      rw [exec_fixtureRefresh, if_pos hdue, refreshLatch_eq]
    · rw [(takeWork_latch_kept ..).1]
    · rw [(takeWork_latch_kept ..).2.1]; exact bumpIf_isSome _ _
    · rw [(takeWork_latch_kept ..).2.2]; rfl
    · intro hb
      rw [takeWork_latch_of_busy _ _ hb]
      exact ⟨rfl, rfl⟩
    · intro hi hfree
      rw [takeWork_latch_of_rest _ _ hi hfree]
      refine ⟨rfl, rfl, fun slots hslots => ?_⟩
      obtain rfl := Option.some.inj hslots
      rfl
    · intro q hi hq hw
      rw [takeWork_latch_of_waiting _ _ hi hq hw]
      exact ⟨rfl, rfl, rfl⟩
  · intro h
    rw [exec_fixtureRefresh, if_neg]
    rw [refreshDue_iff]
    rintro ⟨hon, hc⟩
    rcases h with h | h
    · exact absurd (hon.symm.trans h) (by decide)
    · exact absurd hc (Nat.not_le.mpr h)
  · intro gp order
    obtain ⟨new, hqueue, hsub, -, -, -, -, -, hall⟩ := tells_frameBoundary_replies gp order s
    obtain ⟨slots, hport⟩ := frameBoundary_fixturePort gp order s p
    refine ⟨frameBoundary gp order s, new, rfl, hqueue, ?_⟩
    intro stands snapshot latched replies
    have hreplies : replies = (List.finRange 2).flatMap fun q =>
        (s.fixturePort q).fifo.map (replyReport q (frameBoundary gp order s).timing.frame) := by
      simp only [replies, ← replyReport_eq]
    rw [isIn_singleton, ← hreplies] at hsub hall
    have hstands : ∀ y, x.refreshed (frameBoundary gp order s).now s.canvas.lightOperator = y → stands y := by
      rintro y rfl
      change (frameBoundary gp order s).fixturePort p = { x.refreshed _ _ with
        slots := ((frameBoundary gp order s).fixturePort p).slots, fifo := [] }
      rw [hport]
    have hlatch : latchSnapshot s.canvas.lightOperator x = latched := by
      simp only [latchSnapshot, snapshotOf, bumpIf_isSome]; rfl
    refine ⟨fun hoff => hstands _ (refreshed_of_off _ _ hoff), fun hon hc => hstands _ (refreshed_of_later _ _ hon hc),
      fun hon hc => ⟨fun hb => hstands _ ?_, fun hi hfree => hstands _ ?_, fun q hi hq hw => hstands _ ?_⟩, hsub,
      fun hsel hlost => hall (by simpa using ⟨hsel, hlost⟩)⟩
    · rw [refreshed_of_due _ _ hon hc, takeWork_latch_of_busy _ _ hb, hlatch]
    · rw [refreshed_of_due _ _ hon hc, takeWork_latch_of_rest _ _ hi hfree, hlatch]; rfl
    · rw [refreshed_of_due _ _ hon hc, takeWork_latch_of_waiting _ _ hi hq hw, hlatch]

end Sys2Proof.Machine
end

section
/-! PROOFS. Playback commands, sources, the Clone and the take commands (sections 9.5, 8.1, 8.2, 3.4, 3.5, 3.9). -/

namespace Sys2Proof.Machine

/-! ### Halt, Resume, Clear Playback (R154, R155) -/

section
variable {s : State} {tag : Byte} (hroom : hasRoom s = true)
include hroom

theorem answers_halt {target : State} {r : Result} (h : doHalt tag s = answer tag Code.halt r [] target) :
    Answers (exec (.halt tag) s) target (.answer tag Code.halt r []) := answers_exec rfl hroom h

theorem answers_resume {target : State} {r : Result} (h : doResume tag s = answer tag Code.resume r [] target) :
    Answers (exec (.resume tag) s) target (.answer tag Code.resume r []) := answers_exec rfl hroom h

theorem answers_clearPlayback {target : State} (h : (if s.cue.state = .idle then s else s.setCue (clearCue s.cue)) = target) :
    Answers (exec (.clearPlayback tag) s) target (.answer tag Code.clearPlayback .ok []) :=
  answers_exec rfl hroom (h ▸ rfl)

end

/-- Settles O46: by the playback state. -/
theorem playbackHaltsResumesAndClears : Obligations.PlaybackHaltsResumesAndClears := by
  intro s tag hroom into halt resume
  refine ⟨fun h => ⟨?_, ?_⟩, fun h => ⟨?_, ?_⟩, fun h => ⟨?_, ?_⟩, fun h => ⟨?_, ?_⟩, fun h hf => ⟨?_, ?_⟩,
    fun h hf => ⟨?_, ?_⟩, fun h => ⟨?_, ?_, ?_⟩, fun h => ?_⟩
  · exact answers_halt hroom (by simp only [doHalt, h]; rfl)
  · exact answers_resume hroom (by simp only [doResume, h]; rfl)
  · exact answers_halt hroom (by simp only [doHalt, h]; rfl)
  · exact answers_resume hroom (by simp only [doResume, h]; rfl)
  · exact answers_halt hroom (by simp only [doHalt, h])
  · exact answers_resume hroom (by simp only [doResume, h]; rfl)
  · exact answers_halt hroom (by simp only [doHalt, h])
  · exact answers_resume hroom (by simp only [doResume, h]; rfl)
  · exact answers_halt hroom (by simp only [doHalt, h, Option.isSome_iff_ne_none.mpr hf, if_true])
  · exact answers_resume hroom (by simp only [doResume, h]; rfl)
  · exact answers_halt hroom (by simp only [doHalt, h, hf]; rfl)
  · exact answers_resume hroom (by simp only [doResume, h]; rfl)
  · exact answers_halt hroom (by simp only [doHalt, h]; rfl)
  · exact answers_resume hroom (by simp only [doResume, h]; rfl)
  · exact answers_clearPlayback hroom (if_pos h)
  · refine answers_clearPlayback hroom ((if_neg h).trans ?_)
    simp only [clearCue, bumpIf_isSome]

/-! ### Sources (R132, R133, R135) -/

theorem clampNat_one {high v : Nat} (h : 1 ≤ high) :
    clampNat 1 high v = if v = 0 then 1 else if high < v then high else v := by
  unfold clampNat
  split_ifs <;> omega

theorem silenceIsOver_iff {x : Source} :
    silenceIsOver x = true ↔ x.live = true ∧ x.unitSeen = false ∧ x.timeout ≤ x.silence + 1 := by
  simp [silenceIsOver, and_assoc]

theorem silenceTest_of_missed {x : Source} (h : silenceIsOver x = true) :
    silenceTest x = { goSilent x with unitSeen := false } := by simp [silenceTest, h]

theorem silenceTest_of_not_missed {x : Source} (h : ¬ silenceIsOver x = true) : silenceTest x = { x with
    unitSeen := false, silence := if x.live = true ∧ x.unitSeen = false then x.silence + 1 else x.silence } := by
  simp only [silenceTest, if_neg h]
  by_cases hl : x.live = true ∧ x.unitSeen = false
  · simp [hl]
  · have hl' : ¬ (x.live && !x.unitSeen) = true := by simpa using hl
    simp only [if_neg hl, if_neg hl']

theorem silenceTests_source (s : State) (k : Fin 3) : (silenceTests s).source k = silenceTest (s.source k) := by
  simp [silenceTests, State.source]

theorem mergeLook_sources (s : State) : (mergeLook s).merge.sources = s.merge.sources := by
  simp only [mergeLook, State.setMerge_merge]

/-- The sources of a boundary: their requests come into force, then each is tested for silence. -/
theorem frameBoundary_sources (gp : Tab 4 Bool) (o : CommitOrder) (s : State) :
    (frameBoundary gp o s).merge.sources = (s.merge.sources.map applyRequest).map silenceTest := by
  have htiming : OnlyChanges [.now, .slot, .buffer, .timing, .mgmt, .canvas, .drive] s
    (applySettings (presentFrame (timingBoundary s))) := by simp
  have hlight : OnlyChanges [.canvas, .mgmt] (applyPriorities (applySettings (presentFrame (timingBoundary s))))
    (lightHoldBoundary (applyPriorities (applySettings (presentFrame (timingBoundary s))))) := by simp
  have hopen : (boundaryOpening s).merge.sources = (s.merge.sources.map applyRequest).map silenceTest := by
    change ((lightHoldBoundary (applyPriorities (applySettings (presentFrame (timingBoundary s))))).merge.sources.map _) = _
    rw [hlight.merge rfl]
    change ((applySettings (presentFrame (timingBoundary s))).merge.sources.map applyRequest).map silenceTest = _
    rw [htiming.merge rfl]
  have htakes := takesAtBoundary_only (boundaryOpening s) gp o
  have hlook : (boundaryLook gp o (boundaryOpening s)).merge.sources = (boundaryOpening s).merge.sources :=
    (mergeLook_sources _).trans (congrArg Merge.sources (htakes.merge rfl))
  have hlater : (frameBoundary gp o s).merge = (boundaryLook gp o (boundaryOpening s)).merge := by
    rw [frameBoundary, (boundaryContacts_only _ gp o).merge rfl, (boundaryLight_only _).merge rfl,
      (boundaryWall_only _).merge rfl]
  rw [hlater, hlook, hopen]

theorem frameBoundary_source (gp : Tab 4 Bool) (o : CommitOrder) (s : State) (k : Fin 3) :
    (frameBoundary gp o s).source k = silenceTest (applyRequest (s.source k)) := by
  rw [State.source, frameBoundary_sources, Tab.get_map, Tab.get_map]; rfl

section
variable {s : State} {tag : Byte} (hroom : hasRoom s = true)
include hroom

theorem exec_setSourcePriority {source priority : Nat} (hs : source ≤ 3) (hp : priority ≤ 7) :
    Answers (exec (.setSourcePriority tag source priority) s) (requestPriority source priority s)
      (.answer tag Code.setSourcePriority .ok (u8 source ++ u8 priority ++ u32 (s.timing.frame + 1).toNat)) :=
  answers_exec rfl hroom (if_neg (by omega))

theorem exec_setSourceTimeout {source timeout : Nat} {k : Fin 3} (hs : source = k.val + 1) :
    Answers (exec (.setSourceTimeout tag source timeout) s)
      (s.setSource k { s.source k with timeout := if timeout = 0 then 1 else if 1000 < timeout then 1000 else timeout })
      (.answer tag Code.setSourceTimeout .ok
        (u8 source ++ u16 (if timeout = 0 then 1 else if 1000 < timeout then 1000 else timeout))) := by
  subst hs
  refine answers_exec rfl hroom ?_
  change doSetSourceTimeout tag (k.val + 1) timeout s = _
  simp only [doSetSourceTimeout, if_neg (Nat.succ_ne_zero _), Nat.add_sub_cancel, finOf_val,
    clampNat_one (by omega : 1 ≤ 1000)]

theorem exec_setSourceTimeout_of_bad {source timeout : Nat} (hs : source = 0 ∨ 3 < source) :
    Answers (exec (.setSourceTimeout tag source timeout) s) s (.answer tag Code.setSourceTimeout .outOfRange []) := by
  refine answers_exec rfl hroom ?_
  change doSetSourceTimeout tag source timeout s = _
  have hnone : (if source = 0 then none else finOf 3 (source - 1)) = (none : Option (Fin 3)) := by
    split
    · rfl
    · exact finOf_of_le (by omega)
  simp only [doSetSourceTimeout, hnone]
  rfl

end

theorem requestPriority_succ {k : Fin 3} (priority : Nat) (s : State) :
    requestPriority (k.val + 1) priority s = s.setSource k { s.source k with request := some priority } := by
  simp only [requestPriority, if_neg (Nat.succ_ne_zero _), Nat.add_sub_cancel, finOf_val]

/-- Settles O41: the two commands, and the silence test alone and at a boundary. -/
theorem sourcesAreSetAndFallSilent : Obligations.SourcesAreSetAndFallSilent := by
  refine ⟨?_, ?_, ?_⟩
  · intro s tag source priority hroom done
    refine ⟨fun h => answers_exec rfl hroom (if_pos h), ?_, ?_⟩
    · rintro rfl hp
      exact exec_setSourcePriority hroom (by omega) hp
    · rintro k rfl hp
      rw [← requestPriority_succ]
      exact exec_setSourcePriority hroom k.isLt hp
  · intro s tag source timeout hroom kept
    exact ⟨exec_setSourceTimeout_of_bad hroom, fun k hk => exec_setSourceTimeout hroom hk⟩
  · intro s k x missed silent
    have hmissed : silenceIsOver x = true ↔ missed := silenceIsOver_iff
    have hlater : silenceIsOver (applyRequest x) = silenceIsOver x := rfl
    refine ⟨fun h => ⟨exec_of_run rfl (if_pos (hmissed.mpr h)), ?_⟩, fun h => ?_, fun gp order =>
      ⟨frameBoundary gp order s, rfl, fun h => ?_, fun h => ?_⟩⟩
    · rw [silenceTests_source, silenceTest_of_missed (hmissed.mpr h)]; rfl
    · rw [silenceTests_source, silenceTest_of_not_missed (fun hx => h (hmissed.mp hx))]
    · rw [frameBoundary_source, silenceTest_of_missed (hlater.trans (hmissed.mpr h))]; rfl
    · rw [frameBoundary_source, silenceTest_of_not_missed (fun hx => h (hmissed.mp (hlater.symm.trans hx)))]; rfl

/-! ### Clone (R44) -/

/-- Settles O24: by the take and the Clone that stand. -/
theorem cloneCopiesTheActiveBank : Obligations.CloneCopiesTheActiveBank := by
  intro s tag
  refine ⟨fun hroom ht hc => ?_, fun hroom ht => ?_, fun hroom ht hc => ?_, fun hc => ?_⟩
  · refine reserves_exec rfl hroom ?_
    change doClone tag s = _
    rw [doClone, if_neg (not_not.mpr ht), if_neg (by simp [hc])]
  · exact answers_exec rfl hroom (if_pos ht)
  · refine answers_exec rfl hroom ?_
    change doClone tag s = _
    rw [doClone, if_neg (not_not.mpr ht), if_pos (Option.isSome_iff_ne_none.mpr hc)]
    rfl
  · refine exec_of_run rfl ?_
    change finishClone s = _
    simp only [finishClone, hc]
    cases ha : s.banks.aActive <;>
      simp only [ha, Banks.setStaged, State.activeBank, activeLetter, stagedLetter, if_true, Bool.false_eq_true, if_false] <;>
      rfl

/-! ### Take and Cancel Take (R46, R57) -/

/-- Settles O25: the tests of Take in their order, and Cancel Take by the take that stands. -/
theorem takesAreAcceptedAndCancelled : Obligations.TakesAreAcceptedAndCancelled := by
  intro s tag request frame hroom f ahead refused free
  have hdo : ∀ {u r body}, doTake tag request frame s = answer tag Code.take r body u →
      Answers (exec (.take tag request frame) s) u (.answer tag Code.take r body) := fun h => answers_exec rfl hroom h
  have hclone : ∀ {c : Option Byte}, c = none → ¬ c.isSome = true := by rintro _ rfl; simp
  refine ⟨fun ht => hdo (if_pos ht), fun ht hc => hdo ?_, fun hf hr => hdo ?_, fun hf hr ha => hdo ?_, fun hf hr ha => hdo ?_,
    fun hf h => hdo ?_, fun ht => ?_, fun r hr => ?_⟩
  · exact (if_neg (not_not.mpr ht)).trans (if_pos (Option.isSome_iff_ne_none.mpr hc))
  all_goals try obtain ⟨ht, hc⟩ := hf
  · exact (if_neg (not_not.mpr ht)).trans ((if_neg (hclone hc)).trans (if_pos hr))
  · exact (if_neg (not_not.mpr ht)).trans ((if_neg (hclone hc)).trans ((if_neg (by omega)).trans (if_pos ⟨hr, ha⟩)))
  · refine (if_neg (not_not.mpr ht)).trans ((if_neg (hclone hc)).trans ((if_neg (by omega)).trans ((if_neg ?_).trans
      (if_pos ⟨hr, ha⟩))))
    rintro ⟨-, hle⟩
    have : ahead ≤ 1 := hle
    omega
  · refine (if_neg (not_not.mpr ht)).trans ((if_neg (hclone hc)).trans ((if_neg (by omega)).trans ((if_neg ?_).trans
      (if_neg ?_))))
    · rintro ⟨hr, hle⟩
      have : ahead ≤ 1 := hle
      omega
    · rintro ⟨hr, hlt⟩
      have : 65536 < ahead := hlt
      omega
  · refine answers_exec rfl hroom ?_
    change doCancelTake tag s = _
    simp only [doCancelTake, ht]
    rfl
  · refine answers_exec rfl hroom ?_
    change doCancelTake tag s = _
    rcases hr with hr | hr <;> simp only [doCancelTake, hr] <;> rfl

end Sys2Proof.Machine
end

section
/-! PROOFS. Table writes and reads (sections 3.2, 3.3, 12.1). -/

namespace Sys2Proof.Machine

/-! ### Elements on the wire (Table 12-3) -/

theorem wordAt_pair (a b : Byte) (l : List Byte) : wordAt (a :: b :: l) 0 = a.toNat * 256 + b.toNat := rfl

/-- A value below 65536 reads back from its two bytes. -/
theorem word_of_bytes {v : Nat} (h : v < 65536) : (BitVec.ofNat 8 (v / 256)).toNat * 256 + (BitVec.ofNat 8 v).toNat = v := by
  simp only [BitVec.toNat_ofNat]
  omega

theorem byte_of_byte {v : Nat} (h : v < 256) : (BitVec.ofNat 8 v).toNat = v := by
  simp only [BitVec.toNat_ofNat]
  omega

theorem ofNat_word {w : Nat} (h : 2 ^ w ≤ 65536) (x : BitVec w) :
    BitVec.ofNat w ((BitVec.ofNat 8 (x.toNat / 256)).toNat * 256 + (BitVec.ofNat 8 x.toNat).toNat) = x := by
  rw [word_of_bytes (lt_of_lt_of_le x.isLt h), BitVec.ofNat_toNat, BitVec.setWidth_eq]

theorem finOfNat_byte {n : Nat} [NeZero n] (h : n ≤ 256) (i : Fin n) : Fin.ofNat n (BitVec.ofNat 8 i.val).toNat = i := by
  rw [byte_of_byte (lt_of_lt_of_le i.isLt h)]
  exact Fin.ext (Nat.mod_eq_of_lt i.isLt)

theorem testBit_flag (b : Bool) : ((BitVec.ofNat 8 b.toNat).toNat).testBit 0 = b := by cases b <;> rfl

theorem ofNat_byte (x : BitVec 8) : BitVec.ofNat 8 (BitVec.ofNat 8 x.toNat).toNat = x := by
  rw [byte_of_byte x.isLt, BitVec.ofNat_toNat, BitVec.setWidth_eq]

theorem tile_congr {valid valid' : Bool} {chain chain' : Fin 8} {position position' : Fin 32} {rotation rotation' : Fin 4}
    {x x' : BitVec 13} {y y' : BitVec 12} {w w' h h' : BitVec 9} {gainR gainR' gainG gainG' gainB gainB' : BitVec 13}
    {rated rated' : BitVec 10} (h1 : valid = valid') (h2 : chain = chain') (h3 : position = position')
    (h4 : rotation = rotation') (h5 : x = x') (h6 : y = y') (h7 : w = w') (h8 : h = h') (h9 : gainR = gainR')
    (h10 : gainG = gainG') (h11 : gainB = gainB') (h12 : rated = rated') :
    TileEntry.mk valid chain position rotation x y w h gainR gainG gainB rated =
      ⟨valid', chain', position', rotation', x', y', w', h', gainR', gainG', gainB', rated'⟩ := by
  subst_vars; rfl

theorem patch_congr {kind kind' : Fin 8} {curve curve' : Fin 4} {trim trim' : BitVec 13} {pwm pwm' : Fin 16}
    {port port' : Fin 2} {slot slot' : BitVec 9} {mask mask' : BitVec 8} (h1 : kind = kind') (h2 : curve = curve')
    (h3 : trim = trim') (h4 : pwm = pwm') (h5 : port = port') (h6 : slot = slot') (h7 : mask = mask') :
    PatchEntry.mk kind curve trim pwm port slot mask = ⟨kind', curve', trim', pwm', port', slot', mask'⟩ := by
  subst_vars; rfl

/-- The fields of a tile entry by its bytes (Table 12-3). -/
theorem tileOfBytes_list (b0 b1 b2 b3 b4 b5 b6 b7 b8 b9 b10 b11 b12 b13 b14 b15 b16 b17 b18 b19 : Byte) :
    tileOfBytes [b0, b1, b2, b3, b4, b5, b6, b7, b8, b9, b10, b11, b12, b13, b14, b15, b16, b17, b18, b19] =
      ⟨b0.toNat.testBit 0, Fin.ofNat 8 b1.toNat, Fin.ofNat 32 b2.toNat, Fin.ofNat 4 b3.toNat,
        BitVec.ofNat 13 (b4.toNat * 256 + b5.toNat), BitVec.ofNat 12 (b6.toNat * 256 + b7.toNat),
        BitVec.ofNat 9 (b8.toNat * 256 + b9.toNat), BitVec.ofNat 9 (b10.toNat * 256 + b11.toNat),
        BitVec.ofNat 13 (b12.toNat * 256 + b13.toNat), BitVec.ofNat 13 (b14.toNat * 256 + b15.toNat),
        BitVec.ofNat 13 (b16.toNat * 256 + b17.toNat), BitVec.ofNat 10 (b18.toNat * 256 + b19.toNat)⟩ := rfl

/-- Settles O22: field by field, each read at its offset. -/
theorem storedEntriesSurviveTheWire : Obligations.StoredEntriesSurviveTheWire := by
  refine ⟨fun e => ⟨rfl, ?_⟩, fun e => ⟨rfl, ?_⟩⟩
  · obtain ⟨valid, chain, position, rotation, x, y, w, h, gainR, gainG, gainB, rated⟩ := e
    refine (tileOfBytes_list _ _ _ _ _ _ _ _ _ _ _ _ _ _ _ _ _ _ _ _).trans ?_
    exact tile_congr (testBit_flag valid) (finOfNat_byte (by decide) chain) (finOfNat_byte (by decide) position)
      (finOfNat_byte (by decide) rotation) (ofNat_word (by decide) x) (ofNat_word (by decide) y) (ofNat_word (by decide) w)
      (ofNat_word (by decide) h) (ofNat_word (by decide) gainR) (ofNat_word (by decide) gainG)
      (ofNat_word (by decide) gainB) (ofNat_word (by decide) rated)
  · obtain ⟨kind, curve, trim, pwm, port, slot, mask⟩ := e
    exact patch_congr (finOfNat_byte (by decide) kind) (finOfNat_byte (by decide) curve) (ofNat_word (by decide) trim)
      (finOfNat_byte (by decide) pwm) (finOfNat_byte (by decide) port) (ofNat_word (by decide) slot) (ofNat_byte mask)

/-! ### Table writes (R41, R42) -/

theorem inTable_iff {size largest start count : Nat} : inTable size largest start count = true ↔
    start < size ∧ 1 ≤ count ∧ count ≤ largest ∧ start + count ≤ size := by
  simp [inTable, and_assoc]

/-- The elements of a write land at the indexes it names. -/
theorem get_writeFrom_elementsOf {α : Type} {n : Nat} (t : Tab n α) (start count size : Nat) (read : List Byte → α)
    (elements : List Byte) (i : Fin n) :
    (t.writeFrom start (elementsOf size read count elements)).get i =
      if start ≤ i.val ∧ i.val < start + count then read ((elements.drop ((i.val - start) * size)).take size)
      else t.get i := by
  rw [Tab.get_writeFrom]
  by_cases hlow : start ≤ i.val
  · rw [if_pos hlow, List.getD_eq_getElem?_getD]
    by_cases hhigh : i.val < start + count
    · rw [if_pos ⟨hlow, hhigh⟩, getElem?_elementsOf size read (by omega)]; rfl
    · rw [if_neg (fun h => hhigh h.2), List.getElem?_eq_none (by rw [length_elementsOf]; omega)]; rfl
  · rw [if_neg hlow, if_neg (fun h => hlow h.1)]

section
variable {s : State} {tag code : Byte} {table start count : Nat} {ok : Bool} {change : Bank → Bank}

theorem writeStaged_of_take (h : s.banks.take ≠ .idle) :
    writeStaged tag code table start count ok change s = refuse tag code .stageLocked s := if_pos h

theorem writeStaged_of_clone (ht : s.banks.take = .idle) (hc : s.banks.clone ≠ none) :
    writeStaged tag code table start count ok change s = refuse tag code .bankBusy s :=
  (if_neg (not_not.mpr ht)).trans (if_pos (Option.isSome_iff_ne_none.mpr hc))

theorem writeStaged_of_bad (ht : s.banks.take = .idle) (hc : s.banks.clone = none) (hok : ok = false) :
    writeStaged tag code table start count ok change s = refuse tag code .outOfRange s := by
  simp [writeStaged, ht, hc, hok]

theorem writeStaged_of_good (ht : s.banks.take = .idle) (hc : s.banks.clone = none) (hok : ok = true) :
    writeStaged tag code table start count ok change s =
      answer tag code .ok (u8 table ++ u16 start ++ u16 count) (s.setBanks
        (if s.banks.aActive then { s.banks with bankB := change s.stagedBank }
          else { s.banks with bankA := change s.stagedBank })) := by
  refine (if_neg (not_not.mpr ht)).trans ((if_neg (by simp [hc])).trans ((if_neg (by simp [hok])).trans ?_))
  rfl

variable {size largest width : Nat} {elements : List Byte} {c : Instr} (hm : isManagement c = true)
  (hrun : run c s = writeTable tag code table size largest width start count elements change s)
  (hroom : hasRoom s = true)
include hm hrun hroom

/-- What a table write answers where it is turned away (R41). -/
theorem writeTable_refused :
    (¬elements.length = count * width → Answers (exec c s)
      (s.setMgmt { s.mgmt with counters := { s.mgmt.counters with malformedUnits := bump s.mgmt.counters.malformedUnits } })
      (.answer tag code .malformed [])) ∧
    (elements.length = count * width → s.banks.take ≠ .idle →
      Answers (exec c s) s (.answer tag code .stageLocked [])) ∧
    (elements.length = count * width → s.banks.take = .idle → s.banks.clone ≠ none →
      Answers (exec c s) s (.answer tag code .bankBusy [])) ∧
    (elements.length = count * width → s.banks.take = .idle → s.banks.clone = none →
      size ≤ start ∨ count = 0 ∨ largest < count ∨ size < start + count →
      Answers (exec c s) s (.answer tag code .outOfRange [])) := by
  refine ⟨fun hl => answers_exec hm hroom (hrun.trans (if_neg hl)),
    fun hl ht => answers_exec hm hroom (hrun.trans ((if_pos hl).trans (writeStaged_of_take ht))),
    fun hl ht hc => answers_exec hm hroom (hrun.trans ((if_pos hl).trans (writeStaged_of_clone ht hc))),
    fun hl ht hc h => answers_exec hm hroom (hrun.trans ((if_pos hl).trans (writeStaged_of_bad ht hc ?_)))⟩
  rw [Bool.eq_false_iff, Ne, inTable_iff]
  omega

/-- What a table write stores (R42). -/
theorem writeTable_stores (ht : s.banks.take = .idle) (hc : s.banks.clone = none) (hcount : 1 ≤ count)
    (hlargest : count ≤ largest) (hsize : start + count ≤ size) (hl : elements.length = count * width) :
    Answers (exec c s) (s.setBanks (if s.banks.aActive then { s.banks with bankB := change s.stagedBank }
        else { s.banks with bankA := change s.stagedBank }))
      (.answer tag code .ok (u8 table ++ u16 start ++ u16 count)) :=
  answers_exec hm hroom (hrun.trans ((if_pos hl).trans (writeStaged_of_good ht hc
    (inTable_iff.mpr ⟨by omega, hcount, hlargest, hsize⟩))))

end

theorem writeStaged_refused {s : State} {tag code : Byte} {table start count : Nat} {ok : Bool} {change : Bank → Bank}
    {c : Instr} (hm : isManagement c = true) (hrun : run c s = writeStaged tag code table start count ok change s)
    (hroom : hasRoom s = true) :
    (s.banks.take ≠ .idle → Answers (exec c s) s (.answer tag code .stageLocked [])) ∧
    (s.banks.take = .idle → s.banks.clone ≠ none → Answers (exec c s) s (.answer tag code .bankBusy [])) :=
  ⟨fun ht => answers_exec hm hroom (hrun.trans (writeStaged_of_take ht)),
    fun ht hc => answers_exec hm hroom (hrun.trans (writeStaged_of_clone ht hc))⟩

section
variable {s : State} {tag : Byte} {start count : Nat} {elements : List Byte}

theorem run_writeTileEntries : run (.writeTileEntries tag start count elements) s =
    writeTable tag Code.writeTileEntries 0 256 128 20 start count elements
      (fun b => { b with tiles := b.tiles.writeFrom start (elementsOf 20 tileOfBytes count elements) }) s := rfl

theorem run_writeChainLengths : run (.writeChainLengths tag start count elements) s =
    writeTable tag Code.writeChainLengths 1 8 8 1 start count elements
      (fun b => { b with lengths := b.lengths.writeFrom start (elementsOf 1 lengthOfBytes count elements) }) s := rfl

theorem run_writeWallCurve : run (.writeWallCurve tag start count elements) s =
    writeTable tag Code.writeWallCurve 4 1024 1024 2 start count elements
      (fun b => { b with wallCurve := b.wallCurve.writeFrom start (elementsOf 2 levelOfBytes count elements) }) s := rfl

theorem run_writeLightCurve : run (.writeLightCurve tag start count elements) s =
    writeTable tag Code.writeLightCurve 5 1024 1024 2 start count elements
      (fun b => { b with lightCurve := b.lightCurve.writeFrom start (elementsOf 2 levelOfBytes count elements) }) s := rfl

theorem run_writePatch : run (.writePatch tag start count elements) s =
    writeTable tag Code.writePatch 6 512 512 9 start count elements
      (fun b => { b with patch := b.patch.writeFrom start (elementsOf 9 patchOfBytes count elements) }) s := rfl

theorem run_writeSlotCounts : run (.writeSlotCounts tag start count elements) s =
    writeTable tag Code.writeSlotCounts 7 2 2 2 start count elements
      (fun b => { b with slotCounts := b.slotCounts.writeFrom start (elementsOf 2 slotCountOfBytes count elements) }) s := rfl

theorem run_writeRingFlags {flags : Nat} : run (.writeRingFlags tag flags) s =
    writeStaged tag Code.writeRingFlags 2 0 1 true (fun b => { b with rings := Tab.ofFn fun k => flags.testBit k.val }) s := rfl

theorem run_writeCanvasSize {width height : Nat} : run (.writeCanvasSize tag width height) s =
    writeStaged tag Code.writeCanvasSize 3 0 1 true
      (fun b => { b with canvasW := BitVec.ofNat 14 width, canvasH := BitVec.ofNat 13 height }) s := rfl

end

/-- Settles O21: one argument for the six tables of elements, one for the two others. -/
theorem tableWritesAreRefused : Obligations.TableWritesAreRefused := by
  intro s tag start count elements hroom
  refine ⟨fun w hw => ?_, fun flags width height w hw => ?_⟩
  · simp only [List.mem_cons, List.not_mem_nil, or_false] at hw
    rcases hw with rfl | rfl | rfl | rfl | rfl | rfl <;> exact writeTable_refused rfl rfl hroom
  · simp only [List.mem_cons, List.not_mem_nil, or_false] at hw
    rcases hw with rfl | rfl
    · exact writeStaged_refused rfl run_writeRingFlags hroom
    · exact writeStaged_refused rfl run_writeCanvasSize hroom

/-- Settles O20: the six tables of elements alike, then ring flags and canvas size. -/
theorem tableWritesStore : Obligations.TableWritesStore := by
  intro s tag start count elements hroom ht hc hcount
  dsimp only
  refine ⟨fun hn hsize hl => ?_, fun hsize hl => ?_, fun hsize hl => ?_, fun hsize hl => ?_, fun hsize hl => ?_,
    fun hsize hl => ?_, fun flags => ?_, fun width height => ?_⟩
  · have h := writeTable_stores rfl (run_writeTileEntries (tag := tag)) hroom ht hc hcount hn hsize hl
    refine ⟨s.stagedBank.tiles.writeFrom start (elementsOf 20 tileOfBytes count elements), h, fun i => ?_⟩
    exact get_writeFrom_elementsOf ..
  · have hwidth : elements.length = count * 1 := by omega
    have hlargest : count ≤ 8 := by omega
    have h := writeTable_stores rfl (run_writeChainLengths (tag := tag)) hroom ht hc hcount hlargest hsize hwidth
    refine ⟨s.stagedBank.lengths.writeFrom start (elementsOf 1 lengthOfBytes count elements), h, fun i => ?_⟩
    rw [get_writeFrom_elementsOf]
    simp only [lengthOfBytes, byteAt_take _ (by omega : 0 < 1), byteAt_drop, Nat.mul_one, Nat.add_zero]
  · have h := writeTable_stores rfl (run_writeWallCurve (tag := tag)) hroom ht hc hcount (by omega) hsize hl
    refine ⟨s.stagedBank.wallCurve.writeFrom start (elementsOf 2 levelOfBytes count elements), h, fun i => ?_⟩
    rw [get_writeFrom_elementsOf]
    simp only [levelOfBytes, wordAt_take _ (by omega : 0 + 1 < 2), wordAt_drop, Nat.add_zero]
  · have h := writeTable_stores rfl (run_writeLightCurve (tag := tag)) hroom ht hc hcount (by omega) hsize hl
    refine ⟨s.stagedBank.lightCurve.writeFrom start (elementsOf 2 levelOfBytes count elements), h, fun i => ?_⟩
    rw [get_writeFrom_elementsOf]
    simp only [levelOfBytes, wordAt_take _ (by omega : 0 + 1 < 2), wordAt_drop, Nat.add_zero]
  · have h := writeTable_stores rfl (run_writePatch (tag := tag)) hroom ht hc hcount (by omega) hsize hl
    refine ⟨s.stagedBank.patch.writeFrom start (elementsOf 9 patchOfBytes count elements), h, fun i => ?_⟩
    exact get_writeFrom_elementsOf ..
  · have h := writeTable_stores rfl (run_writeSlotCounts (tag := tag)) hroom ht hc hcount (by omega) hsize hl
    refine ⟨s.stagedBank.slotCounts.writeFrom start (elementsOf 2 slotCountOfBytes count elements), h, fun i => ?_⟩
    rw [get_writeFrom_elementsOf]
    simp only [slotCountOfBytes, wordAt_take _ (by omega : 0 + 1 < 2), wordAt_drop, Nat.add_zero]
  · refine ⟨Tab.ofFn fun k => flags.testBit k.val, answers_exec rfl hroom ?_, fun k => Tab.get_ofFn ..⟩
    rw [run_writeRingFlags]
    exact writeStaged_of_good ht hc rfl
  · refine answers_exec rfl hroom ?_
    rw [run_writeCanvasSize]
    exact writeStaged_of_good ht hc rfl

/-! ### Read Table (R43) -/

/-- The indexes of a run, in ascending order. -/
def indexRun (n start count : Nat) : List (Fin n) :=
  (List.finRange n).filter fun i => decide (start ≤ i.val) && decide (i.val < start + count)

theorem indexRun_eq (n start count : Nat) : indexRun n start count = ((List.finRange n).drop start).take count := by
  have hsplit : List.finRange n = (List.finRange n).take start ++
      (((List.finRange n).drop start).take count ++ ((List.finRange n).drop start).drop count) := by
    rw [List.take_append_drop, List.take_append_drop]
  unfold indexRun
  rw [hsplit, List.filter_append, List.filter_append, List.filter_eq_nil_iff.mpr, List.filter_eq_self.mpr,
    List.filter_eq_nil_iff.mpr, List.nil_append, List.append_nil, ← hsplit]
  · intro x hx
    obtain ⟨j, hj, rfl⟩ := List.mem_iff_getElem.mp hx
    simp at hj
    simp
  · intro x hx
    obtain ⟨j, hj, rfl⟩ := List.mem_iff_getElem.mp hx
    simp at hj
    simp
    omega
  · intro x hx
    obtain ⟨j, hj, rfl⟩ := List.mem_iff_getElem.mp hx
    simp at hj
    simp
    omega

theorem finRange_map_get {α : Type} {n : Nat} (t : Tab n α) : (List.finRange n).map t.get = t.data := by
  obtain ⟨l, hl⟩ := t
  subst hl
  exact List.map_getElem_finRange l

/-- The bytes of a run are those of its elements in ascending index. -/
theorem runBytes_eq {α : Type} {n : Nat} (f : α → List Byte) (t : Tab n α) (start count : Nat) :
    runBytes f t start count = (indexRun n start count).flatMap fun i => f (t.get i) := by
  rw [runBytes, indexRun_eq, ← finRange_map_get, ← List.map_drop, ← List.map_take, List.flatMap_map]

theorem ringByte_spec (rings : Tab 4 Bool) : ∃ flags : Byte, ringByte rings = [flags] ∧ flags.toNat < 16 ∧
    ∀ k : Fin 4, flags.getLsbD k.val = rings.get k := by
  refine ⟨_, rfl, ?_⟩
  generalize h0 : rings.get 0 = a
  generalize h1 : rings.get 1 = b
  generalize h2 : rings.get 2 = c
  generalize h3 : rings.get 3 = d
  refine ⟨by clear h0 h1 h2 h3; revert a b c d; decide, fun k => ?_⟩
  match k with
  | 0 => rw [h0]; clear h0 h1 h2 h3; revert a b c d; decide
  | 1 => rw [h1]; clear h0 h1 h2 h3; revert a b c d; decide
  | 2 => rw [h2]; clear h0 h1 h2 h3; revert a b c d; decide
  | 3 => rw [h3]; clear h0 h1 h2 h3; revert a b c d; decide

theorem readRange_iff {table start count : Nat} : readRange table start count = true ↔
    table = 2 ∨ table = 3 ∨ ∃ z ∈ [(0, 256, 128), (1, 8, 8), (4, 1024, 1024), (5, 1024, 1024), (6, 512, 512), (7, 2, 2)],
      table = z.1 ∧ start < z.2.1 ∧ 1 ≤ count ∧ count ≤ z.2.2 ∧ start + count ≤ z.2.1 := by
  match table with
  | 0 | 1 | 2 | 3 | 4 | 5 | 6 | 7 => simp [readRange, inTable_iff]
  | n + 8 => simp [readRange]

/-- Settles O23: the bytes of each table, and the tests of Read Table in their order. -/
theorem readTableShowsTheBank : Obligations.ReadTableShowsTheBank := by
  refine ⟨fun b start count => ?_, fun s tag bank table start count hroom => ?_⟩
  · exact ⟨runBytes_eq .., runBytes_eq .., ringByte_spec b.rings, rfl, runBytes_eq .., runBytes_eq .., runBytes_eq ..,
      runBytes_eq ..⟩
  · intro c sizes inRange run
    have hin : readRange table start count = true ↔ inRange := readRange_iff
    have hdo : ∀ {u r body}, doReadTable tag bank table start count s = answer tag Code.readTable r body u →
        Answers (exec c s) u (.answer tag Code.readTable r body) := fun h => answers_exec rfl hroom h
    refine ⟨fun hb hc => hdo (if_pos ⟨hb, Option.isSome_iff_ne_none.mpr hc⟩), fun hn h => hdo ?_, fun hb h => hdo ?_,
      fun hb hc h => hdo ?_⟩
    · refine (if_neg (fun h => hn ⟨h.1, Option.isSome_iff_ne_none.mp h.2⟩)).trans (if_pos (h.imp_right fun h => ?_))
      rw [Bool.eq_false_iff, Ne, hin]
      exact h
    · subst hb
      exact (if_neg (by simp)).trans (if_neg (by simp [hin.mpr h]))
    · subst hb
      exact (if_neg (by simp [hc])).trans (if_neg (by simp [hin.mpr h]))

end Sys2Proof.Machine
end

section
/-! SUPPORT. What a boundary leaves as it is in the Timebase. -/

namespace Sys2Proof.Machine

/-- The part of the Timebase that only commands, and the samples that only the end of a boundary, change. -/
def Timing.standing (t : Timing) : Nat × Tab 4 Bool × Tab 4 ContactFunction × Nat × Reference × Nat :=
  (t.k, t.samples, t.functions, t.phaseOffset, t.reference, t.internalRate)

theorem waitTiming_standing (t : Timing) : (waitTiming t).standing = t.standing := by
  unfold waitTiming
  repeat' split
  all_goals rfl

theorem markTiming_standing (tb : Nat) (m : TimeMark) (t : Timing) : (markTiming tb m t).standing = t.standing := by
  unfold markTiming
  split
  · rfl
  · rfl
  · unfold acquireMark lockToMarks
    repeat' split
    all_goals rfl
  · unfold trackMark; split <;> rfl

theorem fixedTiming_standing (period : Nat) (t : Timing) : (fixedTiming period t).standing = t.standing := rfl

theorem timingBoundary_standing (s : State) : (timingBoundary s).timing.standing = s.timing.standing := by
  rw [timingBoundary_timing, fixedTiming_standing]
  obtain ⟨n, counters, hnumber⟩ := numberBoundary_timing (advanceTo s.timing.nextBoundary s)
  have hstart : (numberBoundary (advanceTo s.timing.nextBoundary s)).timing.standing = s.timing.standing := by
    rw [hnumber]; rfl
  rcases referenceBoundary_timing (takenMark s) (numberBoundary (advanceTo s.timing.nextBoundary s)) with h | ⟨m, -, -, h⟩
  · rw [h, waitTiming_standing, hstart]
  · rw [h, markTiming_standing, hstart]

/-- Samples and functions as the contacts of a boundary find them. -/
theorem timingBoundary_contacts (s : State) :
    (timingBoundary s).timing.samples = s.timing.samples ∧ (timingBoundary s).timing.functions = s.timing.functions := by
  have h := timingBoundary_standing s
  simp only [Timing.standing, Prod.mk.injEq] at h
  exact ⟨h.2.1, h.2.2.1⟩

end Sys2Proof.Machine
end

section
/-! PROOFS. The cue list, and the Gos (sections 9.1 to 9.3). -/

namespace Sys2Proof.Machine

/-! ### Write Cue, Delete Cue, Read Cue (R145 to R147) -/

theorem isAscending_iff (l : List Nat) : isAscending l = true ↔ l.Pairwise (· < ·) := by
  rw [← List.isChain_iff_pairwise]
  induction l with
  | nil => simp [isAscending]
  | cons a l ih =>
    cases l with
    | nil => simp [isAscending]
    | cons b rest => rw [isAscending, Bool.and_eq_true, ih, decide_eq_true_iff, List.isChain_cons_cons]

theorem cueInRange_iff (number : Nat) (pairs : List (Nat × Nat)) : cueInRange number pairs = true ↔
    (1 ≤ number ∧ number ≤ 999) ∧ (1 ≤ pairs.length ∧ pairs.length ≤ 48) ∧ (∀ x ∈ pairs, x.1 ≤ 511) ∧
      (pairs.map Prod.fst).Pairwise (· < ·) := by
  have hroom : decide (pairs.length ≤ Config.pairRoom) = true ↔ pairs.length ≤ 48 := decide_eq_true_iff
  simp only [cueInRange, Bool.and_eq_true, hroom, decide_eq_true_eq, List.all_eq_true, isAscending_iff, and_assoc]

section
variable {s : State} {tag : Byte} (hroom : hasRoom s = true)
include hroom

theorem exec_writeCue {number up down delay : Nat} {follow : Option Nat} {link : Bool} {pairs : List (Nat × Nat)}
    {target : State} {r : Result} {body : List Byte}
    (h : doWriteCue tag number up down delay follow link pairs s = answer tag Code.writeCue r body target) :
    Answers (exec (.writeCue tag number up down delay follow link pairs) s) target (.answer tag Code.writeCue r body) :=
  answers_exec rfl hroom h

theorem exec_deleteCue {number : Nat} {target : State} {r : Result} {body : List Byte}
    (h : doDeleteCue tag number s = answer tag Code.deleteCue r body target) :
    Answers (exec (.deleteCue tag number) s) target (.answer tag Code.deleteCue r body) := answers_exec rfl hroom h

theorem exec_readCue {number : Nat} {target : State} {r : Result} {body : List Byte}
    (h : doReadCue tag number s = answer tag Code.readCue r body target) :
    Answers (exec (.readCue tag number) s) target (.answer tag Code.readCue r body) := answers_exec rfl hroom h

end

/-- Deleting a record of an ascending list takes out that record alone. -/
theorem mem_delete {list : List CueRecord} (h : Ascending list) {r : CueRecord} (hr : r ∈ list) (x : CueRecord) :
    x ∈ list.filter (fun y => decide (y.number ≠ r.number)) ↔ x ∈ list ∧ x ≠ r := by
  rw [List.mem_filter, decide_eq_true_iff]
  refine and_congr_right fun hx => not_congr ⟨fun hn => h.eq_of_number_eq hx hr hn, fun he => he ▸ rfl⟩

theorem length_delete {list : List CueRecord} (h : Ascending list) {r : CueRecord} (hr : r ∈ list) :
    (list.filter fun y => decide (y.number ≠ r.number)).length + 1 = list.length := by
  induction list with
  | nil => cases hr
  | cons a rest ih =>
    obtain ⟨ha, hrest⟩ := List.pairwise_cons.mp h
    rcases List.mem_cons.mp hr with rfl | hr
    · have hself : rest.filter (fun y => decide (y.number ≠ r.number)) = rest :=
        List.filter_eq_self.mpr fun y hy => decide_eq_true (by have := ha y hy; omega)
      rw [List.filter_cons_of_neg (by simp), hself, List.length_cons]
    · have hne : a.number ≠ r.number := by have := ha r hr; omega
      rw [List.filter_cons_of_pos (by simpa using hne), List.length_cons, List.length_cons, ih hrest hr]

/-- Settles O43: each command by its tests, on a list in ascending order. -/
theorem cueListIsKept : Obligations.CueListIsKept := by
  intro s tag hroom hasc hpos list isLive
  have hlive : ∀ number, isLiveCue s.cue number = true ↔ isLive number := fun _ => isLiveCue_iff
  refine ⟨?_, fun number => ⟨fun h => ?_, fun hl hn => ?_, fun hl r hr hn => ?_⟩, fun r hr => ?_, ?_, fun number h0 hn => ?_⟩
  · intro number up down delay follow link pairs c inRange refused record isIn
    have hrange : cueInRange number pairs = true ↔ inRange := cueInRange_iff number pairs
    have hin : findCue list number ≠ none ↔ isIn := findCue_ne_none_iff
    refine ⟨fun h => exec_writeCue hroom (if_pos ?_), fun h hl => exec_writeCue hroom ?_, fun h hl hn hfull =>
      exec_writeCue hroom ?_, fun h hl hn => ⟨putCue record list, (findCue list number).isSome, ?_, exec_writeCue hroom ?_,
        ascending_putCue hasc _, fun r => mem_putCue hasc⟩⟩
    · simpa using mt hrange.mp h
    all_goals have hok : ¬ (!cueInRange number pairs) = true := by simp [hrange.mpr h]
    · exact (if_neg hok).trans (if_pos ((hlive _).mpr hl))
    · have hnone : findCue list number = none := by simpa using mt hin.mp hn
      exact (if_neg hok).trans ((if_neg (mt (hlive _).mp hl)).trans (if_pos ⟨by simp [list, ← hnone], hfull⟩))
    · rw [Option.isSome_iff_ne_none]; exact hin
    · refine (if_neg hok).trans ((if_neg (mt (hlive _).mp hl)).trans (if_neg ?_))
      rintro ⟨hnone, hfull⟩
      rcases hn with hn | hn
      · exact hin.mpr hn (by simpa using hnone)
      · exact absurd hfull (Nat.not_le.mpr hn)
  · exact exec_deleteCue hroom (if_pos ((hlive _).mpr h))
  · refine exec_deleteCue hroom ((if_neg (mt (hlive _).mp hl)).trans (if_pos ?_))
    rw [findCue_eq_none_iff.mpr hn]; rfl
  · subst hn
    refine ⟨_, length_delete hasc hr, mem_delete hasc hr, exec_deleteCue hroom ((if_neg (mt (hlive _).mp hl)).trans (if_neg ?_))⟩
    rw [findCue_of_mem hasc hr]; simp
  · refine exec_readCue hroom ?_
    simp only [doReadCue, findCue_of_mem hasc hr]
  · refine exec_readCue hroom ?_
    have hnone : findCue s.cue.list 0 = none := findCue_eq_none_iff.mpr fun r hr => by have := hpos r hr; omega
    simp only [doReadCue, hnone]
    rfl
  · refine exec_readCue hroom ?_
    have hnone : findCue s.cue.list number = none := findCue_eq_none_iff.mpr hn
    simp only [doReadCue, hnone, if_neg h0]
    rfl

/-! ### The cue that a Go names (R149) -/

/-- The first of an ascending list that passes a test. -/
theorem find?_of_least {list : List CueRecord} (h : Ascending list) {p : CueRecord → Bool} {r : CueRecord} (hr : r ∈ list)
    (hp : p r = true) (hmin : ∀ x ∈ list, p x = true → r.number ≤ x.number) : list.find? p = some r := by
  cases hf : list.find? p with
  | none => exact absurd hp (List.find?_eq_none.mp hf r hr)
  | some x =>
    have hx := List.mem_of_find?_eq_some hf
    have hle := hmin x hx (List.find?_some hf)
    obtain ⟨-, before, after, rfl, hbefore⟩ := List.find?_eq_some_iff_append.mp hf
    rw [List.mem_append, List.mem_cons] at hr
    rcases hr with hr | rfl | hr
    · have := hbefore r hr
      simp [hp] at this
    · rfl
    · have := (List.pairwise_cons.mp (List.pairwise_append.mp h).2.1).1 r hr
      omega

/-- The last of an ascending list. -/
theorem getLast?_of_greatest {list : List CueRecord} (h : Ascending list) {r : CueRecord} (hr : r ∈ list)
    (hmax : ∀ x ∈ list, x.number ≤ r.number) : list.getLast? = some r := by
  induction list with
  | nil => cases hr
  | cons a rest ih =>
    obtain ⟨ha, hrest⟩ := List.pairwise_cons.mp h
    rcases List.mem_cons.mp hr with rfl | hr
    · have hempty : rest = [] := by
        rw [List.eq_nil_iff_forall_not_mem]
        intro x hx
        have := ha x hx
        have := hmax x (List.mem_cons_of_mem _ hx)
        omega
      rw [hempty]; rfl
    · have := ih hrest hr fun x hx => hmax x (List.mem_cons_of_mem _ hx)
      rw [List.getLast?_cons, this]; rfl

section
variable {c : Cue} {r : CueRecord}

/-- The record lies past the cue of reference. -/
def IsPast (c : Cue) (r : CueRecord) : Prop := ∀ n, (if c.target = none then c.current else c.target) = some n → n < r.number

/-- The record lies before the cue of reference. -/
def IsBefore (c : Cue) (r : CueRecord) : Prop :=
  ∃ n, (if c.target = none then c.current else c.target) = some n ∧ r.number < n

theorem referenceCue_eq (c : Cue) : referenceCue c = if c.target = none then c.current else c.target := by
  unfold referenceCue; cases c.target <;> simp

theorem nextCue_eq_find? (c : Cue) : nextCue c =
    c.list.find? fun r => match referenceCue c with
      | none => true
      | some n => decide (n < r.number) := by
  unfold nextCue
  cases referenceCue c with
  | none => cases c.list <;> rfl
  | some n => rfl

theorem isPast_iff : (match referenceCue c with
    | none => true
    | some n => decide (n < r.number)) = true ↔ IsPast c r := by
  rw [IsPast, ← referenceCue_eq]
  cases referenceCue c <;> simp

theorem nextCue_of_first (h : Ascending c.list) (hr : r ∈ c.list) (hp : IsPast c r)
    (hmin : ∀ x ∈ c.list, IsPast c x → r.number ≤ x.number) : nextCue c = some r := by
  rw [nextCue_eq_find?]
  exact find?_of_least h hr (isPast_iff.mpr hp) fun x hx hpx => hmin x hx (isPast_iff.mp hpx)

theorem nextCue_of_none (h : ∀ r ∈ c.list, ¬IsPast c r) : nextCue c = none := by
  rw [nextCue_eq_find?, List.find?_eq_none]
  exact fun x hx hp => h x hx (isPast_iff.mp hp)

theorem previousCue_eq (c : Cue) : previousCue c =
    (c.list.filter fun r => match referenceCue c with
      | none => false
      | some n => decide (r.number < n)).getLast? := by
  unfold previousCue
  cases referenceCue c with
  | none => simp
  | some n => rfl

theorem isBefore_iff : (match referenceCue c with
    | none => false
    | some n => decide (r.number < n)) = true ↔ IsBefore c r := by
  rw [IsBefore, ← referenceCue_eq]
  cases referenceCue c <;> simp

theorem previousCue_of_last (h : Ascending c.list) (hr : r ∈ c.list) (hp : IsBefore c r)
    (hmax : ∀ x ∈ c.list, IsBefore c x → x.number ≤ r.number) : previousCue c = some r := by
  rw [previousCue_eq]
  refine getLast?_of_greatest (h.filter _) (List.mem_filter.mpr ⟨hr, isBefore_iff.mpr hp⟩) fun x hx => ?_
  obtain ⟨hx, hpx⟩ := List.mem_filter.mp hx
  exact hmax x hx (isBefore_iff.mp hpx)

theorem previousCue_of_none (h : ∀ r ∈ c.list, ¬IsBefore c r) : previousCue c = none := by
  rw [previousCue_eq, List.getLast?_eq_none_iff, List.filter_eq_nil_iff]
  exact fun x hx hp => h x hx (isBefore_iff.mp hp)

end

/-- What an accepted Go makes of the state (R150, R156). -/
def startedGo (s : State) (r : CueRecord) (origin : GoOrigin) : State :=
  let foretold := s.timing.frame + 1 + BitVec.ofNat 32 r.delay
  let s' := s.setCue { s.cue with
    state := .delay, target := some r.number, follow := none, delayLeft := r.delay, start := foretold
    origin := origin, tookTake := r.link
    counters := { s.cue.counters with
      gosAccepted := bump s.cue.counters.gosAccepted
      fadesInterrupted :=
        if s.cue.target = none then s.cue.counters.fadesInterrupted else bump s.cue.counters.fadesInterrupted } }
  if r.link then requestTake (foretold + 1) (.cue r.number) s' else s'

theorem acceptGo_eq (r : CueRecord) (origin : GoOrigin) (s : State) : acceptGo r origin s = startedGo s r origin := by
  simp only [acceptGo, goCue, bumpIf_isSome]
  rfl

theorem acceptGo_noFollow (r : CueRecord) (origin : GoOrigin) (s : State) :
    acceptGo r origin (s.setCue { s.cue with follow := none }) = acceptGo r origin s := rfl

section
variable {s : State} {tag : Byte} (hroom : hasRoom s = true)
include hroom

theorem answers_go_of_some {c : Instr} {code : Byte} {r : CueRecord} {origin : GoOrigin} {refusal : Result}
    {incoming : Option CueRecord} (hc : isManagement c = true) (hrun : run c s = answerGo tag code incoming origin refusal s)
    (h : incoming = some r) :
    Answers (exec c s) (startedGo s r origin) (.answer tag code .ok
      (u16 r.number ++ u32 (s.timing.frame + 1 + BitVec.ofNat 32 r.delay).toNat ++ flag r.link)) := by
  subst h
  rw [← acceptGo_eq]
  exact answers_exec hc hroom hrun

theorem answers_go_of_none {c : Instr} {code : Byte} {origin : GoOrigin} {refusal : Result}
    {incoming : Option CueRecord} (hc : isManagement c = true) (hrun : run c s = answerGo tag code incoming origin refusal s)
    (h : incoming = none) : Answers (exec c s) s (.answer tag code refusal []) := by
  subst h
  exact answers_exec hc hroom hrun

end

/-! ### The Gos of contacts at a boundary -/

section
variable (gp : Tab 4 Bool)

/-- The input asks for a Go. -/
def GoesAt (s : State) (i : Fin 4) : Prop :=
  s.timing.functions.get i = .go ∧ gp.get i = true ∧ s.timing.samples.get i = false

theorem goesAt_iff (s : State) (i : Fin 4) :
    (s.timing.functions.get i = .go ∧ rises s gp i = true) ↔ GoesAt gp s i := by simp [GoesAt, rises]

theorem contactGoStep_of_not {s : State} {i : Fin 4} (h : ¬GoesAt gp s i) : contactGoStep gp i s = s :=
  if_neg (mt (goesAt_iff gp s i).mp h)

theorem contactGoStep_of_goes {s : State} {i : Fin 4} (h : GoesAt gp s i) : contactGoStep gp i s = contactGo i s :=
  if_pos ((goesAt_iff gp s i).mpr h)

theorem goesAt_contactGo (s : State) (i j : Fin 4) : GoesAt gp (contactGo i s) j ↔ GoesAt gp s j := by
  simp [GoesAt]

theorem contactGos_eq (s : State) :
    contactGos gp s = contactGoStep gp 3 (contactGoStep gp 2 (contactGoStep gp 1 (contactGoStep gp 0 s))) := by
  simp [contactGos, forEach, List.finRange_succ]

/-- Where one input alone asks, the Gos of a boundary are its Go. -/
theorem contactGos_of_single {s : State} {i : Fin 4} (h : GoesAt gp s i) (hother : ∀ j, GoesAt gp s j → j = i) :
    contactGos gp s = contactGo i s := by
  have hstand : ∀ j, j ≠ i → ∀ u, u = s ∨ u = contactGo i s → contactGoStep gp j u = u := by
    rintro j hj u (rfl | rfl)
    · exact contactGoStep_of_not gp (fun hg => hj (hother j hg))
    · exact contactGoStep_of_not gp (fun hg => hj (hother j ((goesAt_contactGo gp s i j).mp hg)))
  have hact := contactGoStep_of_goes gp h
  rw [contactGos_eq]
  match i with
  | 0 => rw [hact, hstand 1 (by decide) _ (.inr rfl), hstand 2 (by decide) _ (.inr rfl), hstand 3 (by decide) _ (.inr rfl)]
  | 1 => rw [hstand 0 (by decide) _ (.inl rfl), hact, hstand 2 (by decide) _ (.inr rfl), hstand 3 (by decide) _ (.inr rfl)]
  | 2 => rw [hstand 0 (by decide) _ (.inl rfl), hstand 1 (by decide) _ (.inl rfl), hact, hstand 3 (by decide) _ (.inr rfl)]
  | 3 => rw [hstand 0 (by decide) _ (.inl rfl), hstand 1 (by decide) _ (.inl rfl), hstand 2 (by decide) _ (.inl rfl), hact]

end

theorem boundaryOpening_cue (s : State) : (boundaryOpening s).cue = s.cue := (boundaryOpening_only s).cue rfl

theorem goesAt_congr {gp : Tab 4 Bool} {s t : State} {i : Fin 4} (hf : t.timing.functions = s.timing.functions)
    (hs : t.timing.samples = s.timing.samples) : GoesAt gp t i ↔ GoesAt gp s i := by rw [GoesAt, GoesAt, hf, hs]

theorem boundaryOpening_contacts (s : State) : (boundaryOpening s).timing.samples = s.timing.samples ∧
    (boundaryOpening s).timing.functions = s.timing.functions := by
  rw [boundaryOpening_timing]; exact timingBoundary_contacts s

theorem takeIf_true (f : State → State) (s : State) : takeIf true f s = f s := rfl
theorem takeIf_false (f : State → State) (s : State) : takeIf false f s = s := rfl

theorem cueBoundary_of_idle {s : State} (h : s.cue.state = .idle) : cueBoundary s = s := by
  simp only [cueBoundary, h]

/-- The takes of a boundary in IDLE keep the cue block where no Go of a contact is among them. -/
theorem takesAtBoundary_cue_of_idle (gp : Tab 4 Bool) {o : CommitOrder} {s : State} (ho : o.gosFirst = false)
    (h : s.cue.state = .idle) : (takesAtBoundary gp o s).cue = s.cue := by
  have hcue : ∀ u b, u.cue = s.cue → (takeIf b cueBoundary u).cue = s.cue := fun u b hu => by
    unfold takeIf
    split
    · rw [cueBoundary_of_idle (hu ▸ h), hu]
    · exact hu
  have hcontacts : ∀ u b, (takeIf b (contactTakes gp) u).cue = u.cue := fun u b => OnlyChanges.cue (l := [.banks, .mgmt]) (by simp) rfl
  have htake : ∀ u, (takeBoundary u).cue = u.cue := fun u => OnlyChanges.cue (l := [.banks, .mgmt]) (by simp) rfl
  simp only [takesAtBoundary, ho, takeIf_false]
  refine hcue _ _ ?_
  rw [hcontacts, htake]
  refine hcue _ _ ?_
  rw [hcontacts]

/-- With the Gos first, they meet the cue block as it stood, and it keeps what they make of it. -/
theorem takesAtBoundary_cue_of_gosFirst (gp : Tab 4 Bool) {o : CommitOrder} {s : State} (ho : o.gosFirst = true)
    (h : s.cue.state = .idle) :
    (takesAtBoundary gp o s).cue = (contactGos gp (takeIf o.contactsFirst (contactTakes gp) s)).cue := by
  have hcontacts : ∀ u b, (takeIf b (contactTakes gp) u).cue = u.cue := fun u b => OnlyChanges.cue (l := [.banks, .mgmt]) (by simp) rfl
  have htake : ∀ u, (takeBoundary u).cue = u.cue := fun u => OnlyChanges.cue (l := [.banks, .mgmt]) (by simp) rfl
  have hfirst : cuesFirst o = true := by simp [cuesFirst, ho]
  simp only [takesAtBoundary, ho, hfirst, Bool.not_true, takeIf_false, takeIf_true]
  rw [hcontacts, htake, cueBoundary_of_idle (by rw [hcontacts]; exact h)]

theorem boundaryWall_light_cue (s : State) : (boundaryLight (boundaryWall s)).cue = s.cue :=
  ((boundaryLight_only (boundaryWall s)).cue rfl).trans ((boundaryWall_only s).cue rfl)

theorem mergeLook_cue (s : State) : (mergeLook s).cue = s.cue := OnlyChanges.cue (l := [.merge]) (by simp) rfl

theorem frameBoundary_cue (gp : Tab 4 Bool) (o : CommitOrder) (s : State) :
    (frameBoundary gp o s).cue = (takeIf (!o.gosFirst) (contactGos gp)
      (contactHold gp (boundaryLight (boundaryWall (boundaryLook gp o (boundaryOpening s)))))).cue := rfl

theorem boundaryLook_cue (gp : Tab 4 Bool) (o : CommitOrder) (s : State) :
    (boundaryLook gp o s).cue = (takesAtBoundary gp o s).cue := mergeLook_cue _

theorem contactHold_cue (gp : Tab 4 Bool) (s : State) : (contactHold gp s).cue = s.cue :=
  OnlyChanges.cue (l := [.canvas, .buffer, .accumulation, .mgmt]) (by simp) rfl

/-- The cue block of a boundary in IDLE: one input's Go. -/
theorem frameBoundary_cue_of_idle (gp : Tab 4 Bool) (o : CommitOrder) {s : State} {i : Fin 4} (hgoes : GoesAt gp s i)
    (hother : ∀ j, GoesAt gp s j → j = i) (hidle : s.cue.state = .idle) :
    ∃ u : State, u.cue = s.cue ∧ u.timing.frame = (frameBoundary gp o s).timing.frame ∧
      (frameBoundary gp o s).cue = (contactGo i u).cue := by
  obtain ⟨hsamples, hfunctions⟩ := boundaryOpening_contacts s
  have hcue := boundaryOpening_cue s
  have hframe : (frameBoundary gp o s).timing.frame = (boundaryOpening s).timing.frame := by simp [frameBoundary]
  have hsingle : ∀ u, u.timing = (boundaryOpening s).timing → contactGos gp u = contactGo i u := fun u hu =>
    have hg : ∀ j, GoesAt gp u j ↔ GoesAt gp s j := fun j => goesAt_congr (hu ▸ hfunctions) (hu ▸ hsamples)
    contactGos_of_single gp ((hg i).mpr hgoes) fun j hj => hother j ((hg j).mp hj)
  rw [hframe, frameBoundary_cue]
  generalize boundaryOpening s = v at hcue hsingle
  have hbefore : (contactHold gp (boundaryLight (boundaryWall (boundaryLook gp o v)))).cue = (takesAtBoundary gp o v).cue := by
    rw [contactHold_cue, boundaryWall_light_cue, boundaryLook_cue]
  cases ho : o.gosFirst with
  | true =>
    have hu : (takeIf o.contactsFirst (contactTakes gp) v).timing = v.timing :=
      OnlyChanges.timing (l := [.banks, .mgmt]) (by simp) rfl
    have hc : (takeIf o.contactsFirst (contactTakes gp) v).cue = v.cue := OnlyChanges.cue (l := [.banks, .mgmt]) (by simp) rfl
    refine ⟨_, hc.trans hcue, congrArg Timing.frame hu, ?_⟩
    rw [← hsingle _ hu, ← takesAtBoundary_cue_of_gosFirst gp ho (hcue ▸ hidle), Bool.not_true, takeIf_false]
    exact hbefore
  | false =>
    have hu : (contactHold gp (boundaryLight (boundaryWall (boundaryLook gp o v)))).timing = v.timing := by simp
    have hc := hbefore.trans (takesAtBoundary_cue_of_idle gp ho (hcue ▸ hidle))
    refine ⟨_, hc.trans hcue, congrArg Timing.frame hu, ?_⟩
    rw [Bool.not_false, takeIf_true, hsingle _ hu]

theorem followDue_of {s : State} {f : FrameNo} (hrest : s.cue.state = .resting) (hf : s.cue.follow = some f)
    (hdue : 0 ≤ (s.timing.frame - f).toInt) : followDue s = true := by
  simp only [followDue, hrest, hf, decide_true, Bool.true_and]
  exact decide_eq_true hdue

/-- Settles O44: each origin names its cue by the cue of reference. -/
theorem gosNameTheirCue : Obligations.GosNameTheirCue := by
  intro s tag hasc list reference past before foretold started body
  refine ⟨fun hroom => ⟨fun r hr hp hmin => ?_, fun h => ?_, fun r hr => ?_, fun number h => ?_, fun r hr hp hmax => ?_,
    fun h => ?_⟩, fun f hrest hf hdue => ⟨fun r hr hp hmin => ?_, fun h => ?_⟩, ?_⟩
  · exact answers_go_of_some hroom rfl rfl (nextCue_of_first hasc hr hp hmin)
  · exact answers_go_of_none hroom rfl rfl (nextCue_of_none h)
  · exact answers_go_of_some hroom rfl rfl (findCue_of_mem hasc hr)
  · exact answers_go_of_none hroom rfl rfl (findCue_eq_none_iff.mpr h)
  · exact answers_go_of_some hroom rfl rfl (previousCue_of_last hasc hr hp hmax)
  · exact answers_go_of_none hroom rfl rfl (previousCue_of_none h)
  · have hdue' := followDue_of hrest hf hdue
    have hnext : nextCue { s.cue with follow := none } = some r := nextCue_of_first hasc hr hp hmin
    refine exec_of_run rfl ((if_pos hdue').trans ?_)
    simp only [fireFollow, State.setCue_cue, hnext]
    rw [acceptGo_noFollow, acceptGo_eq]
    rfl
  · have hdue' := followDue_of hrest hf hdue
    have hnext : nextCue { s.cue with follow := none } = none := nextCue_of_none h
    refine exec_of_run rfl ((if_pos hdue').trans ?_)
    simp only [fireFollow, State.setCue_cue, hnext]
    rfl
  · intro gp goes refused
    refine ⟨contactGos_eq gp s, fun i h => contactGoStep_of_not gp h, fun i h => ⟨fun r hr hp hmin => ?_, fun hn => ?_⟩, ?_⟩
    · rw [contactGoStep_of_goes gp h]
      simp only [contactGo, nextCue_of_first hasc hr hp hmin]
      exact acceptGo_eq ..
    · rw [contactGoStep_of_goes gp h]
      simp only [contactGo, nextCue_of_none hn]
      rfl
    · intro i order hi hother hidle hcurrent htarget
      obtain ⟨u, hcue, hframe, hresult⟩ := frameBoundary_cue_of_idle gp order hi hother hidle
      have hnext : nextCue u.cue = list.head? := by
        rw [hcue]; simp [nextCue, referenceCue, hcurrent, htarget, list]
      refine ⟨_, rfl, fun hempty => hresult.trans ?_, fun r rest hlist => hresult.trans ?_⟩
      · rw [contactGo_cue, hnext, hempty, hcue]; rfl
      · rw [contactGo_cue, hnext, hlist, hcue]
        simp [goCue, fadeStartOf, State.frameNo, hframe, htarget]

end Sys2Proof.Machine
end

section
/-! PROOFS. What a bank that passes validation meets: each check of Table 3-7 as the condition it tests (R52, R53). -/

namespace Sys2Proof.Machine

variable {b : Bank}

/-! ### A test of each entry against the lower ones -/

/-- A symmetric relation that holds at no pair of a lower and a higher index holds at no two indices. -/
theorem forall_ne_iff_forall_lt {n : Nat} {r : Fin n → Fin n → Prop} (hsymm : ∀ i j, r i j → r j i) :
    (∀ i j, j < i → ¬r i j) ↔ ∀ i j, j ≠ i → ¬r i j := by
  refine ⟨fun h i j hne => ?_, fun h i j hlt => h i j (ne_of_lt hlt)⟩
  rcases lt_or_gt_of_ne hne with hlt | hgt
  · exact h i j hlt
  · exact fun hr => h j i hgt (hsymm i j hr)

/-! ### The canvas and the counts -/

theorem checkCanvas_eq_none_iff : checkCanvas b = none ↔
    1 ≤ b.canvasW.toNat ∧ b.canvasW.toNat ≤ 8192 ∧ 1 ≤ b.canvasH.toNat ∧ b.canvasH.toNat ≤ 4096 := by
  simp only [checkCanvas, Option.or_eq_none_iff, failUnless_eq_none_iff, Bool.and_eq_true, decide_eq_true_eq, and_assoc]

theorem checkLengths_eq_none_iff : checkLengths b = none ↔ ∀ c, (b.lengths.get c).toNat ≤ 32 :=
  findSome?_failUnless_eq_none_iff.trans (forall_congr' fun _ => decide_eq_true_iff)

theorem checkSlots_eq_none_iff : checkSlots b = none ↔ ∀ p, (b.slotCounts.get p).toNat ≤ 384 :=
  findSome?_failUnless_eq_none_iff.trans (forall_congr' fun _ => decide_eq_true_iff)

/-! ### The tiles -/

theorem sizeOk_iff {e : TileEntry} : sizeOk e = true ↔
    1 ≤ e.w.toNat ∧ e.w.toNat ≤ 256 ∧ 1 ≤ e.h.toNat ∧ e.h.toNat ≤ 256 := by
  simp only [sizeOk, Bool.and_eq_true, decide_eq_true_eq, and_assoc]

/-- A tile is turned at an odd rotation, where its footprint exchanges its sides. -/
theorem insideOk_iff {e : TileEntry} : insideOk b e = true ↔
    e.x.toNat + (if e.rotation.val % 2 = 1 then e.h.toNat else e.w.toNat) ≤ b.canvasW.toNat ∧
      e.y.toNat + (if e.rotation.val % 2 = 1 then e.w.toNat else e.h.toNat) ≤ b.canvasH.toNat := by
  have hturned : ∀ x y : Nat, (if e.rotation.val % 2 = 0 then x else y) = if e.rotation.val % 2 = 1 then y else x := by
    intro x y
    split
    · rw [if_neg (by omega)]
    · rw [if_pos (by omega)]
  simp only [insideOk, footprintW, footprintH, Bool.and_eq_true, decide_eq_true_eq, hturned]

theorem gainsOk_iff {e : TileEntry} : gainsOk e = true ↔
    e.gainR.toNat ≤ 4096 ∧ e.gainG.toNat ≤ 4096 ∧ e.gainB.toNat ≤ 4096 := by
  simp only [gainsOk, Bool.and_eq_true, decide_eq_true_eq, and_assoc]

/-- Two valid entries at one position of one chain (R52). -/
def SharesTile (b : Bank) (i j : Fin 256) : Prop :=
  (b.tiles.get i).valid = true ∧ (b.tiles.get j).valid = true ∧ (b.tiles.get j).chain = (b.tiles.get i).chain ∧
    (b.tiles.get j).position = (b.tiles.get i).position

theorem sharesTile_symm {i j : Fin 256} (h : SharesTile b i j) : SharesTile b j i := by
  obtain ⟨hi, hj, hchain, hposition⟩ := h
  exact ⟨hj, hi, hchain.symm, hposition.symm⟩

theorem uniqueTile_iff {i : Fin 256} (hi : (b.tiles.get i).valid = true) :
    uniqueTile b i = true ↔ ∀ j, j < i → ¬SharesTile b i j := by
  simp only [uniqueTile, sameTile, SharesTile, hi, List.all_eq_true, List.mem_finRange, forall_const, Bool.not_eq_true',
    Bool.and_eq_false_imp, decide_eq_true_eq, true_and, not_and, Bool.and_eq_true, decide_eq_false_iff_not, and_imp]

/-- What check 4 of Table 3-7 tests of one valid entry by itself. -/
def TileSound (b : Bank) (e : TileEntry) : Prop :=
  (1 ≤ e.w.toNat ∧ e.w.toNat ≤ 256 ∧ 1 ≤ e.h.toNat ∧ e.h.toNat ≤ 256) ∧
    e.x.toNat + (if e.rotation.val % 2 = 1 then e.h.toNat else e.w.toNat) ≤ b.canvasW.toNat ∧
    e.y.toNat + (if e.rotation.val % 2 = 1 then e.w.toNat else e.h.toNat) ≤ b.canvasH.toNat ∧
    e.position.val < (b.lengths.get e.chain).toNat ∧
    e.gainR.toNat ≤ 4096 ∧ e.gainG.toNat ≤ 4096 ∧ e.gainB.toNat ≤ 4096

theorem checkTile_eq_none_iff {i : Fin 256} : checkTile b i = none ↔ ((b.tiles.get i).valid = true →
    TileSound b (b.tiles.get i)) ∧ ∀ j, j < i → ¬SharesTile b i j := by
  cases hv : (b.tiles.get i).valid with
  | false => exact iff_of_true (by simp [checkTile, hv]) ⟨nofun, fun j _ ⟨hi, _⟩ => absurd (hv.symm.trans hi) nofun⟩
  | true =>
    simp only [checkTile, hv, if_true, Option.or_eq_none_iff, failUnless_eq_none_iff, sizeOk_iff, insideOk_iff, gainsOk_iff,
      uniqueTile_iff hv, positionOk, decide_eq_true_eq, TileSound, forall_const, and_assoc]

theorem checkTiles_eq_none_iff : checkTiles b = none ↔ ∀ i, (b.tiles.get i).valid = true →
    TileSound b (b.tiles.get i) ∧ ∀ j, j ≠ i → (b.tiles.get j).valid = true →
      (b.tiles.get j).chain = (b.tiles.get i).chain → (b.tiles.get j).position ≠ (b.tiles.get i).position := by
  have hall : checkTiles b = none ↔ (∀ i, (b.tiles.get i).valid = true → TileSound b (b.tiles.get i)) ∧
      ∀ i j, j < i → ¬SharesTile b i j := by
    simp only [checkTiles, List.findSome?_eq_none_iff, List.mem_finRange, forall_const, checkTile_eq_none_iff, forall_and]
  rw [hall, forall_ne_iff_forall_lt fun _ _ => sharesTile_symm]
  constructor
  · rintro ⟨hsound, hshare⟩ i hi
    exact ⟨hsound i hi, fun j hne hj hchain hposition => hshare i j hne ⟨hi, hj, hchain, hposition⟩⟩
  · intro h
    refine ⟨fun i hi => (h i hi).1, fun i j hne ⟨hi, hj, hchain, hposition⟩ => ?_⟩
    obtain ⟨-, hother⟩ := h i hi
    exact hother j hne hj hchain hposition

/-! ### The rings -/

theorem ringOk_iff {k : Fin 4} {c : Fin 8} (hc : c.val = 2 * k.val + 1) : ringOk b k = true ↔
    (b.rings.get k = true → b.lengths.get c = 0 ∧ ∀ i, (b.tiles.get i).valid = true → (b.tiles.get i).chain ≠ c) := by
  have hself : (⟨2 * k.val + 1, by omega⟩ : Fin 8) = c := Fin.ext hc.symm
  cases hk : b.rings.get k <;> simp [ringOk, hself, hk, ← BitVec.toNat_inj, ← Bool.not_eq_true, imp_iff_not_or]

theorem checkRings_eq_none_iff : checkRings b = none ↔ ∀ (k : Fin 4) (c : Fin 8), c.val = 2 * k.val + 1 →
    b.rings.get k = true → b.lengths.get c = 0 ∧ ∀ i, (b.tiles.get i).valid = true → (b.tiles.get i).chain ≠ c :=
  findSome?_failUnless_eq_none_iff.trans <| forall_congr' fun k =>
    ⟨fun h _ hc => (ringOk_iff hc).1 h, fun h => (ringOk_iff rfl).2 (h ⟨2 * k.val + 1, by omega⟩ rfl)⟩

/-! ### The curves -/

theorem forall_not_curveFalls_iff {t : Tab 1024 Level} : (∀ i, ¬CurveFalls t i) ↔
    ∀ i j : Fin 1024, i.val + 1 = j.val → (t.get i).toNat ≤ (t.get j).toNat := by
  simp only [CurveFalls, not_exists, not_and, Nat.not_lt]
  exact ⟨fun h i j => h j i, fun h j i => h i j⟩

/-! ### The patch -/

theorem rangeOk_iff {e : PatchEntry} : rangeOk b e = true ↔
    (e.kind = 2 → e.slot.toNat < (b.slotCounts.get e.port).toNat) ∧
      (e.kind = 3 → e.slot.toNat + 1 < (b.slotCounts.get e.port).toNat) ∧ (e.kind = 4 → e.mask ≠ 0) := by
  unfold rangeOk
  split
  case isTrue h2 => simp [h2]
  case isFalse h2 =>
    split
    case isTrue h3 => simp [h3]
    case isFalse h3 => split <;> simp_all

/-- Two masks share a chain where a bit of one is a bit of the other. -/
theorem and_ne_zero_iff {x y : Byte} : x &&& y ≠ 0 ↔ ∃ c : Fin 8, x.getLsbD c.val = true ∧ y.getLsbD c.val = true := by
  constructor
  · intro h
    by_contra hno
    refine h (BitVec.eq_of_getLsbD_eq fun i hi => ?_)
    rw [BitVec.getLsbD_and]
    simp only [not_exists, not_and, Bool.not_eq_true] at hno
    cases hx : x.getLsbD i with
    | false => simp
    | true => simp [hno ⟨i, hi⟩ hx]
  · rintro ⟨c, hx, hy⟩ h
    have hbit : (x &&& y).getLsbD c.val = false := by rw [h]; exact BitVec.getLsbD_zero
    rw [BitVec.getLsbD_and, hx, hy] at hbit
    exact absurd hbit nofun

/-- Slots of one or two bytes overlap just where one of the first bytes is a byte of the other. -/
theorem slotsOverlap_iff {e f : PatchEntry} (he : e.kind = 2 ∨ e.kind = 3) (hf : f.kind = 2 ∨ f.kind = 3) :
    slotsOverlap e f = true ↔ e.port = f.port ∧ (e.slot = f.slot ∨ (e.kind = 3 ∧ e.slot.toNat + 1 = f.slot.toNat) ∨
      (f.kind = 3 ∧ f.slot.toNat + 1 = e.slot.toNat)) := by
  simp only [slotsOverlap, Bool.and_eq_true, decide_eq_true_eq, and_assoc, ← BitVec.toNat_inj]
  refine and_congr_right fun _ => ?_
  rcases he with he | he <;> rcases hf with hf | hf <;> simp [slotsOf, he, hf] <;> omega

theorem conflicts_eq_sameTarget (e f : PatchEntry) : conflicts e f = SameTarget e f := by
  rw [Bool.eq_iff_iff]
  unfold conflicts SameTarget
  split
  case isTrue h1 => simp [h1]
  case isFalse h1 =>
    split
    case isTrue h23 =>
      have h4 : e.kind ≠ 4 := by rintro h; rw [h] at h23; exact absurd h23 (by decide)
      have h5 : e.kind ≠ 5 := by rintro h; rw [h] at h23; exact absurd h23 (by decide)
      by_cases hf : f.kind = 2 ∨ f.kind = 3
      · simp [h1, h23, h4, h5, hf, slotsOverlap_iff h23 hf]
      · simp [h1, h4, h5, hf]
    case isFalse h23 =>
      split
      case isTrue h4 =>
        simp only [h4, and_ne_zero_iff, Bool.and_eq_true, Bool.or_eq_true, decide_eq_true_eq]
        simp
      case isFalse h4 => split <;> simp_all

theorem sameTarget_symm {e f : PatchEntry} (h : SameTarget e f = true) : SameTarget f e = true := by
  simp only [SameTarget, Bool.or_eq_true, decide_eq_true_eq] at h ⊢
  rcases h with ((⟨he, hf, ho⟩ | ⟨he, hf, hp, hs⟩) | ⟨he, hf, c, hc, hc'⟩) | ⟨he, hf⟩
  · exact .inl (.inl (.inl ⟨hf, he, ho.symm⟩))
  · refine .inl (.inl (.inr ⟨hf, he, hp.symm, ?_⟩))
    rcases hs with hs | hs | hs
    · exact .inl hs.symm
    · exact .inr (.inr hs)
    · exact .inr (.inl hs)
  · exact .inl (.inr ⟨hf, he, c, hc', hc⟩)
  · exact .inr ⟨hf, he⟩

theorem conflictFree_iff {i : Fin 512} : conflictFree b i = true ↔
    ∀ j, j < i → ¬SameTarget (b.patch.get i) (b.patch.get j) = true := by
  by_cases h0 : (b.patch.get i).kind = 0
  · have hfree : conflictFree b i = true := by simp [conflictFree, h0]
    have hnone : ∀ f, ¬SameTarget (b.patch.get i) f = true := fun f => by simp [SameTarget, h0]
    exact iff_of_true hfree fun j _ => hnone _
  · simp only [conflictFree, h0, conflicts_eq_sameTarget, decide_false, Bool.false_or, List.all_eq_true, List.mem_finRange,
      forall_const, Bool.not_eq_true', Bool.and_eq_false_imp, decide_eq_true_eq, Bool.not_eq_true]

/-- What check 8 of Table 3-7 tests of one channel by itself. -/
def PatchSound (b : Bank) (e : PatchEntry) : Prop :=
  e.kind.val ≤ 5 ∧ e.curve.val ≤ 2 ∧ e.trim.toNat ≤ 4096 ∧
    (e.kind = 2 → e.slot.toNat < (b.slotCounts.get e.port).toNat) ∧
    (e.kind = 3 → e.slot.toNat + 1 < (b.slotCounts.get e.port).toNat) ∧ (e.kind = 4 → e.mask ≠ 0)

theorem checkChannel_eq_none_iff {i : Fin 512} : checkChannel b i = none ↔
    PatchSound b (b.patch.get i) ∧ ∀ j, j < i → ¬SameTarget (b.patch.get i) (b.patch.get j) = true := by
  simp only [checkChannel, Option.or_eq_none_iff, failUnless_eq_none_iff, decide_eq_true_eq, rangeOk_iff, conflictFree_iff,
    PatchSound, and_assoc]

theorem checkPatch_eq_none_iff : checkPatch b = none ↔
    (∀ i, PatchSound b (b.patch.get i)) ∧ ∀ i j, j ≠ i → SameTarget (b.patch.get i) (b.patch.get j) = false := by
  have hall : checkPatch b = none ↔ (∀ i, PatchSound b (b.patch.get i)) ∧
      ∀ i j, j < i → ¬SameTarget (b.patch.get i) (b.patch.get j) = true := by
    simp only [checkPatch, List.findSome?_eq_none_iff, List.mem_finRange, forall_const, checkChannel_eq_none_iff, forall_and]
  rw [hall, forall_ne_iff_forall_lt fun _ _ => sameTarget_symm]
  simp only [Bool.not_eq_true]

/-! ### The whole bank -/

theorem validate_eq_none_iff : validate b = none ↔
    checkCanvas b = none ∧ checkLengths b = none ∧ checkSlots b = none ∧ checkTiles b = none ∧ checkRings b = none ∧
      (checkCurve .wallCurve b.wallCurve = none ∧ checkCurve .lightCurve b.lightCurve = none) ∧ checkPatch b = none := by
  simp only [validate, Option.or_eq_none_iff, and_assoc]

/-- Both banks pass validation after reset: nothing is mounted or patched, and the curves rise (R41). -/
theorem validate_reset_bank : validate Bank.reset = none := by
  have htile : ∀ i, (Bank.reset.tiles.get i).valid = false := fun i => by simp [Bank.reset, TileEntry.reset]
  have hpatch : ∀ i, Bank.reset.patch.get i = PatchEntry.reset := fun i => by simp [Bank.reset]
  have hslots : ∀ p, Bank.reset.slotCounts.get p = 0 := fun p => by simp [Bank.reset]
  have hwall : ∀ i, (Bank.reset.wallCurve.get i).toNat = i.val * 65535 / 1023 := fun i => by
    have hi : i.val * 65535 / 1023 < 65536 := by omega
    simp [Bank.reset, Nat.mod_eq_of_lt hi]
  have hlight : ∀ i, (Bank.reset.lightCurve.get i).toNat = 64 * i.val := fun i => by
    have hi : 64 * i.val < 65536 := by omega
    simp [Bank.reset, Nat.mod_eq_of_lt hi]
  refine validate_eq_none_iff.2 ⟨by decide, checkLengths_eq_none_iff.2 fun c => ?_, checkSlots_eq_none_iff.2 fun p => ?_,
    checkTiles_eq_none_iff.2 fun i hi => ?_, checkRings_eq_none_iff.2 fun k c _ hk => ?_, ⟨checkCurve_eq_none_iff.2 ?_,
    checkCurve_eq_none_iff.2 ?_⟩, checkPatch_eq_none_iff.2 ⟨fun i => ?_, fun i j _ => ?_⟩⟩
  · simp [Bank.reset]
  · rw [hslots]; decide
  · exact absurd ((htile i).symm.trans hi) nofun
  · exact absurd hk (by simp [Bank.reset])
  · rw [forall_not_curveFalls_iff]
    intro i j hij
    rw [hwall, hwall, ← hij]
    omega
  · rw [forall_not_curveFalls_iff]
    intro i j hij
    rw [hlight, hlight, ← hij]
    omega
  · rw [hpatch]; exact ⟨by decide, by decide, by decide, nofun, nofun, nofun⟩
  · rw [hpatch, hpatch]; decide

/-- Settles O28: validation passes just where each check of Table 3-7 does, and each check is its condition. -/
theorem validationAdmitsSoundBanks : Obligations.ValidationAdmitsSoundBanks := by
  intro b
  rw [validate_eq_none_iff, checkCanvas_eq_none_iff, checkLengths_eq_none_iff, checkSlots_eq_none_iff, checkTiles_eq_none_iff,
    checkRings_eq_none_iff, checkCurve_eq_none_iff, checkCurve_eq_none_iff, checkPatch_eq_none_iff, forall_not_curveFalls_iff,
    forall_not_curveFalls_iff]
  simp only [TileSound, PatchSound, and_assoc, ← forall_and]

end Sys2Proof.Machine
end

section
/-! PROOFS. Every step keeps the active bank validated (R38 to R58). -/

namespace Sys2Proof.Machine

def Banks.active (b : Banks) : Bank := if b.aActive then b.bankA else b.bankB

def Banks.staged (b : Banks) : Bank := if b.aActive then b.bankB else b.bankA

/-- What `BanksSound` says of the banks. -/
def BanksOk (b : Banks) : Prop :=
  validate b.active = none ∧ (∀ r, b.take = .pending r → validate b.staged = none) ∧ (b.clone ≠ none → b.take = .idle)

theorem banksSound_iff (s : State) : BanksSound s ↔ BanksOk s.banks := Iff.rfl

theorem banksSound_reads : Reads [.banks] BanksSound := fun s t h hs => by
  have hb : t.banks = s.banks := h .banks (by simp)
  rw [banksSound_iff, hb]
  exact hs

/-! ### The banks -/

/-- With no take, the staged bank may hold anything. -/
theorem BanksOk.of_idle {b c : Banks} (h : BanksOk b) (ha : c.active = b.active) (ht : c.take = .idle) : BanksOk c :=
  ⟨by rw [ha]; exact h.1, fun r hr => absurd (ht.symm.trans hr) nofun, fun _ => ht⟩

theorem active_setStaged (b : Banks) (x : Bank) : (b.setStaged x).active = b.active := by
  unfold Banks.setStaged Banks.active
  cases h : b.aActive <;> simp [h]

theorem take_setStaged (b : Banks) (x : Bank) : (b.setStaged x).take = b.take := by
  unfold Banks.setStaged
  split <;> rfl

theorem BanksOk.acceptTake {b : Banks} (h : BanksOk b) (hc : b.clone = none) (r : TakeRecord) (k : BankCounters) :
    BanksOk { b with take := .validating r, counters := k } :=
  ⟨h.1, nofun, fun h => absurd hc h⟩

/-- A commit brings a bank into force that has passed (R54). -/
theorem BanksOk.commit {b : Banks} (h : BanksOk b) {r : TakeRecord} (hp : b.take = .pending r) (last : TakeOutcome) (late : Bool)
    (k : BankCounters) :
    BanksOk { b with aActive := !b.aActive, take := .idle, last := last, lateTake := late, counters := k } := by
  refine ⟨?_, nofun, fun _ => rfl⟩
  have hstaged := h.2.1 r hp
  unfold Banks.staged at hstaged
  unfold Banks.active
  cases ha : b.aActive <;> simpa [ha] using hstaged

theorem banksOk_reset : BanksOk Banks.reset := ⟨validate_reset_bank, nofun, fun _ => rfl⟩

/-! ### The operations -/

theorem banksSound_writeStaged {s : State} (hs : BanksSound s) (tag code : Byte) (table start count : Nat) (ok : Bool)
    (change : Bank → Bank) : BanksSound (writeStaged tag code table start count ok change s) := by
  unfold writeStaged
  split
  · exact hs
  · next ht =>
    split
    · exact hs
    · split
      · exact hs
      · exact BanksOk.of_idle hs (active_setStaged _ _) ((take_setStaged _ _).trans (not_not.mp ht))

theorem banksSound_writeTable {s : State} (hs : BanksSound s) (tag code : Byte) (table size largest width start count : Nat)
    (elements : List Byte) (change : Bank → Bank) :
    BanksSound (writeTable tag code table size largest width start count elements change s) := by
  unfold writeTable
  split
  · exact banksSound_writeStaged hs _ _ _ _ _ _ _
  · exact hs

/-! ### Requests, validation and commits, for any property of the banks -/

/-- The property of the banks is kept by a request that is accepted and by one that is not. -/
structure RequestsKeep (P : Banks → Prop) : Prop where
  accept : ∀ b r k, P b → b.take = .idle → b.clone = none → P { b with take := .validating r, counters := k }
  note : ∀ b last k, P b → P { b with last := last, takeFailed := true, counters := k }

/-- The property of the banks is kept by requests and by a commit. -/
structure TakesKeep (P : Banks → Prop) : Prop extends RequestsKeep P where
  commit : ∀ b r last late k, P b → b.take = .pending r →
    P { b with aActive := !b.aActive, take := .idle, last := last, lateTake := late, counters := k }

section
variable {P : Banks → Prop} (hP : RequestsKeep P) {s : State} (hs : P s.banks)
include hP hs

theorem RequestsKeep.requestTake (f : FrameNo) (origin : TakeOrigin) : P (requestTake f origin s).banks := by
  unfold Machine.requestTake
  split
  · exact hP.note s.banks _ _ hs
  · next ht =>
    split
    · exact hP.note s.banks _ _ hs
    · next hc => exact hP.accept _ _ _ hs (not_not.mp ht) (by simpa using hc)

theorem RequestsKeep.acceptGo (r : CueRecord) (origin : GoOrigin) : P (acceptGo r origin s).banks := by
  simp only [Machine.acceptGo]
  split
  · exact hP.requestTake (s := s.setCue (goCue s.frameNo r origin s.cue)) hs _ _
  · exact hs

theorem RequestsKeep.answerGo (tag code : Byte) (incoming : Option CueRecord) (origin : GoOrigin) (refusal : Result) :
    P (answerGo tag code incoming origin refusal s).banks := by
  cases incoming with
  | none => exact hs
  | some r => exact hP.acceptGo hs r origin

theorem RequestsKeep.testFollow : P (testFollow s).banks := by
  unfold Machine.testFollow
  split
  · simp only [fireFollow]
    split
    · exact hP.acceptGo (s := s.setCue { s.cue with follow := none }) hs _ _
    · exact hs
  · exact hs

theorem RequestsKeep.cueBoundary : P (cueBoundary s).banks := by
  have hcue : ∀ t, OnlyChanges [.cue, .mgmt] s t → P (Machine.testFollow t).banks := fun t h =>
    hP.testFollow (h.banks rfl ▸ hs)
  unfold Machine.cueBoundary
  split
  · exact hs
  · split
    · exact hcue _ (by simp)
    · exact hs
  · exact hcue _ (by simp)
  · exact hs
  · exact hs
  · exact hcue _ (by simp)

theorem RequestsKeep.contactGoStep (gp : Tab 4 Bool) (i : Fin 4) : P (contactGoStep gp i s).banks := by
  unfold Machine.contactGoStep contactGo
  split
  · split
    · exact hP.acceptGo hs _ _
    · exact hs
  · exact hs

theorem RequestsKeep.contactTake (gp : Tab 4 Bool) (i : Fin 4) : P (contactTake gp i s).banks := by
  unfold Machine.contactTake
  split
  · exact hP.requestTake hs _ _
  · exact hs

theorem RequestsKeep.contactGos (gp : Tab 4 Bool) : P (contactGos gp s).banks :=
  forEach_keeps (fun s => P s.banks) _ (fun i _ h => hP.contactGoStep h gp i) s hs

theorem RequestsKeep.contactTakes (gp : Tab 4 Bool) : P (contactTakes gp s).banks :=
  forEach_keeps (fun s => P s.banks) _ (fun i _ h => hP.contactTake h gp i) s hs

theorem RequestsKeep.boundaryContacts (gp : Tab 4 Bool) (o : CommitOrder) : P (boundaryContacts gp o s).banks := by
  have hhold : (contactHold gp s).banks = s.banks :=
    OnlyChanges.banks (l := [.canvas, .buffer, .accumulation, .mgmt]) (by simp) rfl
  refine takeIf_keeps (P := fun u => P u.banks) (fun _ h => hP.contactGos h gp) _ ?_
  rw [hhold]
  exact hs

end

section
variable {P : Banks → Prop} (hP : TakesKeep P) {s : State} (hs : P s.banks)
include hP hs

theorem TakesKeep.takeBoundary : P (takeBoundary s).banks := by
  unfold Machine.takeBoundary
  split
  · exact hs
  · exact hs
  · next r hp =>
    split
    · exact hP.commit _ r _ _ _ hs hp
    · exact hs

theorem TakesKeep.boundaryLook (gp : Tab 4 Bool) (o : CommitOrder) : P (boundaryLook gp o s).banks := by
  have hgos : ∀ u : State, P u.banks → P (Machine.contactGos gp u).banks := fun _ h => hP.contactGos h gp
  have htakes : ∀ u : State, P u.banks → P (Machine.contactTakes gp u).banks := fun _ h => hP.contactTakes h gp
  have hcue : ∀ u : State, P u.banks → P (Machine.cueBoundary u).banks := fun _ h => hP.cueBoundary h
  have hif : ∀ {f : State → State}, (∀ u : State, P u.banks → P (f u).banks) → ∀ (b : Bool) (u : State),
      P u.banks → P (takeIf b f u).banks := fun hf b _ h => takeIf_keeps (P := fun u => P u.banks) hf b h
  have hmerge : OnlyChanges [.merge] (takesAtBoundary gp o s) (Machine.boundaryLook gp o s) := by simp [Machine.boundaryLook]
  rw [hmerge.banks rfl]
  exact hif hcue _ _ (hif htakes _ _ (hP.takeBoundary (hif hgos _ _ (hif hcue _ _ (hif htakes _ _ hs)))))

theorem TakesKeep.frameBoundary (gp : Tab 4 Bool) (o : CommitOrder) : P (frameBoundary gp o s).banks := by
  have hopening : P (boundaryOpening s).banks := (boundaryOpening_only s).banks rfl ▸ hs
  refine hP.boundaryContacts (s := boundaryLight (boundaryWall (Machine.boundaryLook gp o (boundaryOpening s)))) ?_ gp o
  rw [(boundaryLight_only _).banks rfl, (boundaryWall_only _).banks rfl]
  exact hP.boundaryLook hopening gp o

end

theorem takesKeep_banksOk : TakesKeep BanksOk where
  accept _ r k h _ hc := h.acceptTake hc r k
  note _ _ _ h := h
  commit _ _ last late k h hp := h.commit hp last late k

/-- No take begins or ends a Clone. -/
theorem takesKeep_clone (c : Option Byte) : TakesKeep fun b => b.clone = c where
  accept _ _ _ h _ _ := h
  note _ _ _ h := h
  commit _ _ _ _ _ h _ := h

theorem banksSound_endValidation {s : State} (hs : BanksSound s) : BanksSound (endValidation s) := by
  unfold endValidation
  split
  · exact hs
  · exact hs
  · next r hv =>
    have hclone : s.banks.clone = none := by
      by_contra hc
      exact absurd (hv.symm.trans (hs.2.2 hc)) nofun
    split
    · next hpass => exact ⟨hs.1, fun _ _ => hpass, fun h => absurd hclone h⟩
    · exact BanksOk.of_idle (b := s.banks) hs rfl rfl

theorem banksSound_run (c : Instr) {s : State} (hc : ∃ b ∈ [Block.banks], b ∈ touches c)
    (hu : ∀ n, c ≠ .managementUnitStart n) (hs : BanksSound s) : BanksSound (run c s) := by
  obtain ⟨b, hb, hc⟩ := hc
  obtain rfl := List.mem_singleton.mp hb
  cases c with
  | managementUnitStart n => exact absurd rfl (hu n)
  | powerOnReset gp => exact banksSound_reads.keeps (trainPresent_only (defaults gp s)) (by decide) banksOk_reset
  | lineReset gp =>
    exact banksSound_reads.keeps (trainPresent_only ((defaults gp s).setIntake (keptIdentity s.intake))) (by decide)
      banksOk_reset
  | frameBoundary gp o => exact takesKeep_banksOk.frameBoundary hs gp o
  | writeTileEntries tag start count elements => exact banksSound_writeTable hs ..
  | writeChainLengths tag start count elements => exact banksSound_writeTable hs ..
  | writeWallCurve tag start count elements => exact banksSound_writeTable hs ..
  | writeLightCurve tag start count elements => exact banksSound_writeTable hs ..
  | writePatch tag start count elements => exact banksSound_writeTable hs ..
  | writeSlotCounts tag start count elements => exact banksSound_writeTable hs ..
  | writeRingFlags tag flags => exact banksSound_writeStaged hs ..
  | writeCanvasSize tag width height => exact banksSound_writeStaged hs ..
  | clone tag =>
    simp only [run, doClone]
    split
    · exact hs
    · next ht =>
      split
      · exact hs
      · exact BanksOk.of_idle (b := s.banks) hs rfl (not_not.mp ht)
  | cloneComplete =>
    simp only [run, finishClone]
    split
    · exact hs
    · next tag hc =>
      have hidle : s.banks.take = .idle := hs.2.2 (by simp [hc])
      exact BanksOk.of_idle (b := s.banks) hs (active_setStaged _ _) ((take_setStaged _ _).trans hidle)
  | take tag request frame =>
    simp only [run, doTake]
    split
    · exact hs
    · split
      · exact hs
      · next hc =>
        repeat' split
        case isFalse => exact BanksOk.acceptTake hs (by simpa using hc) _ _
        all_goals exact hs
  | cancelTake tag =>
    simp only [run, doCancelTake]
    split
    · exact hs
    · exact BanksOk.of_idle (b := s.banks) hs rfl rfl
    · exact BanksOk.of_idle (b := s.banks) hs rfl rfl
  | validationEnd => exact banksSound_endValidation hs
  | go tag => exact takesKeep_banksOk.answerGo hs ..
  | goTo tag number => exact takesKeep_banksOk.answerGo hs ..
  | back tag => exact takesKeep_banksOk.answerGo hs ..
  | followGo => exact takesKeep_banksOk.testFollow hs
  | clearStatus tag block mask =>
    simp only [run, doClearStatus, clearFlags]
    repeat' split
    all_goals exact hs
  | clearCounters tag block =>
    simp only [run, doClearCounters, clearBlock]
    repeat' split
    all_goals exact hs
  | _ => simp [touches] at hc

/-- Settles O55: every operation on the banks keeps what `BanksSound` says, and no other command touches them. -/
theorem stepsKeepBanksValidated : Obligations.StepsKeepBanksValidated := fun _ _ h hs =>
  banksSound_reads.step_keeps (by decide) (by simp) (fun c _ hc hu => banksSound_run c hc hu) h hs

end Sys2Proof.Machine
end

section
/-! SUPPORT. How many reports the Report Queue holds and how much of its room is reserved (section 11.1): what each operation
adds to both. -/

namespace Sys2Proof.Machine

/-! ### Counts over a table -/

/-- The sum of a count over a table. -/
def tabSum {α : Type} {n : Nat} (g : α → Nat) (t : Tab n α) : Nat := ∑ i, g (t.get i)

section
variable {α : Type} {n : Nat} {g : α → Nat}

theorem length_flatMap_tab {β : Type} (f : α → List β) (t : Tab n α) :
    (t.data.flatMap f).length = tabSum (fun x => (f x).length) t := by
  rw [← finRange_map_get, List.length_flatMap, List.map_map, tabSum, Fin.sum_univ_def]
  rfl

theorem tabSum_set (t : Tab n α) (i : Fin n) (x : α) : tabSum g (t.set i x) + g (t.get i) = tabSum g t + g x := by
  have h : ∀ u : Tab n α, tabSum g u = g (u.get i) + ∑ j ∈ Finset.univ.erase i, g (u.get j) := fun u =>
    (Finset.add_sum_erase _ _ (Finset.mem_univ i)).symm
  have hrest : ∑ j ∈ Finset.univ.erase i, g ((t.set i x).get j) = ∑ j ∈ Finset.univ.erase i, g (t.get j) :=
    Finset.sum_congr rfl fun j hj => by rw [Tab.get_set, if_neg (Finset.ne_of_mem_erase hj).symm]
  rw [h, h t, hrest, Tab.get_set, if_pos rfl]
  omega

theorem tabSum_congr {t u : Tab n α} (h : ∀ i, g (t.get i) = g (u.get i)) : tabSum g t = tabSum g u :=
  Finset.sum_congr rfl fun i _ => h i

theorem tabSum_le (hg : ∀ x, g x ≤ 1) (t : Tab n α) : tabSum g t ≤ n := by
  simpa [tabSum] using Finset.sum_le_card_nsmul Finset.univ (fun i => g (t.get i)) 1 fun i _ => hg _

end

/-! ### The reservations -/

/-- How much of the queue's room is reserved. -/
def State.reserved (s : State) : Nat := (reservations s).length

/-- The places an answer that is put off takes. -/
def places {α : Type} (x : Option α) : Nat := x.toList.length

@[simp] theorem places_none {α : Type} : places (none : Option α) = 0 := rfl
@[simp] theorem places_some {α : Type} (x : α) : places (some x) = 1 := rfl

theorem places_le {α : Type} (x : Option α) : places x ≤ 1 := by cases x <;> simp

theorem reserved_eq (s : State) : s.reserved = places s.banks.clone + tabSum (fun p => places p.disable) s.ports +
    tabSum (fun p => places p.query) s.fixture := by
  simp only [State.reserved, reservations, List.length_append, List.length_map, length_flatMap_tab, places, Nat.add_assoc]

theorem reserved_le (s : State) : s.reserved ≤ 11 := by
  have h1 := places_le s.banks.clone
  have h2 := tabSum_le (fun p : Port => places_le p.disable) s.ports
  have h3 := tabSum_le (fun p : FixturePort => places_le p.query) s.fixture
  rw [reserved_eq]
  omega

section
variable {s t : State}

/-- No Clone, Disable or query begins or ends. -/
theorem reserved_of_kept (hb : t.banks.clone = s.banks.clone) (hp : ∀ p, (t.port p).disable = (s.port p).disable)
    (hf : ∀ p, places (t.fixturePort p).query = places (s.fixturePort p).query) : t.reserved = s.reserved := by
  have h1 : tabSum (fun p => places p.disable) t.ports = tabSum (fun p => places p.disable) s.ports :=
    tabSum_congr fun p => congrArg places (hp p)
  have h2 : tabSum (fun p => places p.query) t.fixture = tabSum (fun p => places p.query) s.fixture := tabSum_congr hf
  rw [reserved_eq, reserved_eq, hb, h1, h2]

theorem reserved_of_banks (hp : t.ports = s.ports) (hf : t.fixture = s.fixture) :
    t.reserved + places s.banks.clone = s.reserved + places t.banks.clone := by
  rw [reserved_eq, reserved_eq, hp, hf]
  omega

theorem reserved_of_port {p : Fin 8} {x : Port} (hb : t.banks = s.banks) (hp : t.ports = s.ports.set p x)
    (hf : t.fixture = s.fixture) : t.reserved + places (s.port p).disable = s.reserved + places x.disable := by
  have h : tabSum (fun p => places p.disable) (s.ports.set p x) + places (s.port p).disable = _ := tabSum_set s.ports p x
  rw [reserved_eq, reserved_eq, hb, hp, hf]
  omega

theorem reserved_of_fixture {p : Fin 2} {x : FixturePort} (hb : t.banks = s.banks) (hp : t.ports = s.ports)
    (hf : t.fixture = s.fixture.set p x) : t.reserved + places (s.fixturePort p).query = s.reserved + places x.query := by
  have h : tabSum (fun p => places p.query) (s.fixture.set p x) + places (s.fixturePort p).query = _ :=
    tabSum_set s.fixture p x
  rw [reserved_eq, reserved_eq, hb, hp, hf]
  omega

end

/-! ### What is owed -/

/-- The places of the queue that are taken: those of its reports and those that are reserved. -/
def State.taken (s : State) : Nat := s.mgmt.queue.length + s.reserved

/-- The answers that wait in the queue or for their time. -/
def State.owed (s : State) : Nat := answersIn s + s.reserved

/-- From `s` to `t` the answers owed grow by `n`, the queue does not shrink, and the engine's stall and what stands cut off
stay; the events that join keep within their room, so that they change nothing of the stall. -/
structure Owes (n : Nat) (s t : State) : Prop where
  stalled : t.mgmt.stalled = s.mgmt.stalled
  cut : t.mgmt.cut = s.mgmt.cut
  queue : s.mgmt.queue.length ≤ t.mgmt.queue.length
  owed : t.owed = s.owed + n
  le_taken : s.taken + n ≤ t.taken
  near : t.taken = s.taken + n ∨ t.taken ≤ 23 + n

section
variable {n m : Nat} {want : List Report} {s t u : State}

theorem Owes.refl : Owes 0 s s := ⟨rfl, rfl, le_rfl, rfl, le_rfl, .inl rfl⟩

theorem Owes.trans (h : Owes n s t) (h' : Owes m t u) : Owes (n + m) s u := by
  obtain ⟨hstall, hcut, hqueue, howed, hle, htaken⟩ := h
  obtain ⟨hstall', hcut', hqueue', howed', hle', htaken'⟩ := h'
  refine ⟨hstall'.trans hstall, hcut'.trans hcut, hqueue.trans hqueue', ?_, ?_, ?_⟩ <;> omega

theorem Owes.quiet (h : Owes n s t) (h' : Owes 0 t u) : Owes n s u := h.trans h'

theorem answersIn_of_queue (h : t.mgmt.queue = s.mgmt.queue) : answersIn t = answersIn s := by
  rw [answersIn, answersIn, h]

/-- An answer alone is told of. -/
theorem tells_answer_only (tag code : Byte) (result : Result) (body : List Byte) (h : Tells [none] [] s t) :
    Tells [none] [.answer tag code result body] s (answer tag code result body t) := by
  simpa using tells_answer_in tag code result body h

/-- The queue and the stall stand; the reservations grow by `n`. -/
theorem owes_of_queue (hq : t.mgmt.queue = s.mgmt.queue) (hstall : t.mgmt.stalled = s.mgmt.stalled)
    (hcut : t.mgmt.cut = s.mgmt.cut)
    (hr : t.reserved = s.reserved + n) : Owes n s t := by
  have ha := answersIn_of_queue hq
  have hlen := congrArg List.length hq
  refine ⟨hstall, hcut, hlen.ge, ?_, ?_, ?_⟩ <;> simp only [State.owed, State.taken] <;> omega

theorem owes_of_mgmt (hm : t.mgmt = s.mgmt) (hr : t.reserved = s.reserved + n) : Owes n s t :=
  owes_of_queue (by rw [hm]) (by rw [hm]) (by rw [hm]) hr

theorem owes_answer (tag code : Byte) (result : Result) (body : List Byte) (h : Owes n s t) :
    Owes (n + 1) s (answer tag code result body t) := by
  have hr : (answer tag code result body t).reserved = t.reserved := rfl
  have hl : (answer tag code result body t).mgmt.queue.length = t.mgmt.queue.length + 1 := by
    simp [answer, Mgmt.answer, Mgmt.push]
  have ha : answersIn (answer tag code result body t) = answersIn t + 1 := by
    simp only [answersIn, answer, Mgmt.answer, Mgmt.push, State.setMgmt_mgmt, List.countP_append]
    rfl
  refine h.trans ⟨rfl, rfl, by omega, ?_, ?_, ?_⟩ <;> simp only [State.owed, State.taken] <;> omega

/-- The reports of `want` are answers, and only events join the queue besides; the reservations make up the balance. -/
theorem owes_of_tells (h : Tells [none] want s t) (hr : t.reserved + want.length = s.reserved + n) : Owes n s t := by
  obtain ⟨new, hq, -, -, hcut, hstall, -, hroom, hall⟩ := h
  have hcount : new.countP Report.isAnswer = want.length := by
    rw [← hall (by simp), List.countP_eq_length_filter]
    exact congrArg List.length (congrFun (congrArg List.filter (funext fun r => by cases r <;> simp [Report.isAnswer])) new)
  have hans : answersIn t = answersIn s + want.length := by
    rw [answersIn, answersIn, hq, List.countP_append, hcount]
  have hlen : t.mgmt.queue.length = s.mgmt.queue.length + new.length := by rw [hq, List.length_append]
  have hle := List.countP_le_length (p := Report.isAnswer) (l := new)
  have hbound := reserved_le s
  rw [hcount] at hroom hle
  simp only [Config.eventRoom] at hroom
  refine ⟨hstall, hcut, by omega, ?_, ?_, ?_⟩ <;> simp only [State.owed, State.taken] <;> omega

theorem Owes.tells (h : Owes n s t) (h' : Tells [none] [] t u) (hr : u.reserved = t.reserved) : Owes n s u :=
  h.quiet (owes_of_tells h' hr)

/-- The blocks that neither the Report Queue nor a reservation is of. -/
@[simp] def Block.unowing : List Block :=
  [.now, .lane, .buffer, .slot, .intake, .timing, .level, .canvas, .limiter, .accumulation, .merge, .cue, .drive, .sent,
    .draws, .pending]

theorem reserved_of_only {l : List Block} (h : OnlyChanges l s t) (h1 : l.contains .banks = false)
    (h2 : l.contains .ports = false) (h3 : l.contains .fixture = false) : t.reserved = s.reserved :=
  reserved_of_kept (by rw [h.banks h1]) (fun p => by rw [State.port, h.ports h2]; rfl)
    fun p => by rw [State.fixturePort, h.fixture h3]; rfl

theorem Owes.other (h : Owes n s t) (h' : OnlyChanges Block.unowing t u) : Owes n s u :=
  h.quiet (owes_of_mgmt (h'.mgmt rfl) (reserved_of_only h' rfl rfl rfl))

/-- The banks change, but for the Clone. -/
theorem Owes.banks (h : Owes n s t) (h' : OnlyChanges [.banks] t u) (hc : u.banks.clone = t.banks.clone) : Owes n s u :=
  h.quiet (owes_of_mgmt (h'.mgmt rfl) (reserved_of_kept hc (fun p => by rw [State.port, (h'.ports rfl)]; rfl)
    fun p => by rw [State.fixturePort, h'.fixture rfl]; rfl))

theorem owes_forEach {k : Nat} {f : Fin k → State → State} (hf : ∀ i u, Owes 0 u (f i u)) (h : Owes n s t) :
    Owes n s (forEach f t) :=
  forEach_keeps (fun u => Owes n s u) f (fun i _ hu => hu.quiet (hf i _)) t h

end

end Sys2Proof.Machine
end

section
/-! SUPPORT. Which operations keep the pending Disables and the outstanding queries, and what each command and each part of a
boundary adds to the answers owed. -/

namespace Sys2Proof.Machine

/-! ### The pending Disables -/

/-- The pending Disable of each port. -/
def Disables (d : Fin 8 → Option Byte) (s : State) : Prop := ∀ q, (s.port q).disable = d q

section
variable {d : Fin 8 → Option Byte} {s t : State} (p : Fin 8)

theorem disables_self (s : State) : Disables (fun q => (s.port q).disable) s := fun _ => rfl

theorem disables_reads : Reads [.ports] (Disables d) := fun s t h hs q => by
  have hp : t.ports = s.ports := h .ports (by simp)
  rw [State.port, hp]
  exact hs q

theorem disables_of_ports {p : Fin 8} {x : Port} (hs : Disables d s) (h : t.ports = s.ports.set p x)
    (hx : x.disable = (s.port p).disable) : Disables d t := fun q => by
  rw [port_of_ports h]
  split
  · next hq => rw [hx, hq]; exact hs q
  · exact hs q

theorem disables_setPort (hs : Disables d s) {x : Port} (hx : x.disable = (s.port p).disable) :
    Disables d (s.setPort p x) := disables_of_ports hs (setPort_ports p s x) hx

theorem disable_capped (x : Port) : x.capped.disable = x.disable := by unfold Port.capped; split <;> rfl

theorem disables_tryTraining (cause : ChainCause) (hs : Disables d s) : Disables d (tryTraining p cause s) := by
  unfold tryTraining
  split
  · exact disables_of_ports hs (enterTraining_ports p s cause) rfl
  · exact hs

theorem disables_enterDown (cause : ChainCause) (hs : Disables d s) : Disables d (enterDown p cause s) :=
  disables_of_ports hs (enterDown_ports p s cause) rfl

theorem disables_enterRecovery (cause : ChainCause) (hs : Disables d s) : Disables d (enterRecovery p cause s) := by
  obtain ⟨k, -, h⟩ := enterRecovery_ports p cause s
  exact disables_of_ports hs h rfl

theorem disables_losePartner (hs : Disables d s) : Disables d (losePartner p s) := by
  have hlost : Disables d (s.setPort p { s.port p with partner := false }) := disables_setPort p hs rfl
  simp only [losePartner]
  split
  · exact disables_enterDown p _ hlost
  · obtain ⟨k, -, h⟩ := breakFrame_ports p (s.setPort p { s.port p with partner := false })
    exact disables_enterDown p _ (disables_of_ports hlost h rfl)
  · exact disables_enterDown p _ hlost
  · exact hlost
  · exact hlost

theorem disables_sendToken (hs : Disables d s) : Disables d (sendToken p s) :=
  disables_of_ports hs (sendToken_ports p s) rfl

theorem disables_trainingExchange (width : Nat) (hs : Disables d s) : Disables d (trainingExchange p width s) := by
  have hpass : Disables d (passExchange p s) := disables_setPort p hs rfl
  simp only [trainingExchange]
  split
  · exact hs
  · split
    · split
      · exact disables_sendToken p (disables_setPort p hs rfl)
      · exact hpass
    · exact hpass

theorem disables_failTraining (hs : Disables d s) : Disables d (failTraining p s) :=
  disables_setPort p (disables_enterDown p _ hs) rfl

theorem disables_failRecovery (hs : Disables d s) : Disables d (failRecovery p s) :=
  disables_tryTraining p _ (disables_setPort p (disables_enterDown p _ hs) rfl)

theorem disables_endHoldoff (hs : Disables d s) : Disables d (endHoldoff p s) :=
  disables_tryTraining p _ (disables_setPort p hs rfl)

theorem disables_trainingBoundary (hs : Disables d s) : Disables d (trainingBoundary p s) := by
  simp only [trainingBoundary]
  split
  · exact disables_failTraining p hs
  · split
    · exact disables_failRecovery p hs
    · split
      · exact disables_of_ports (p := p) hs (x := { s.port p with
          count := (s.port p).count + 1, offer := (s.port p).offer.map Lanes.narrower }) (by simp [stepOffer, setPort_ports]) rfl
      · split
        · exact disables_endHoldoff p hs
        · exact disables_setPort p hs rfl

theorem disables_recordHop (hop : Nat) (hs : Disables d s) : Disables d (recordHop p hop s) := by
  unfold recordHop
  split
  · exact hs
  · exact disables_setPort p hs rfl

theorem disables_endWindow (hs : Disables d s) : Disables d (endWindow p s) := by
  unfold endWindow
  split
  · exact hs
  · next run _ =>
    have hcount : Disables d (completeCensus p (censusResult run.hops) (advanceTo (run.sent + Config.censusWindow) s)) :=
      disables_of_ports (s := advanceTo (run.sent + Config.censusWindow) s) hs (completeCensus_ports p _ _) rfl
    dsimp only
    split
    · exact disables_of_ports hcount (enterActive_ports p _) (disable_capped _)
    · exact hcount

theorem disables_censusBoundary (hs : Disables d s) : Disables d (censusBoundary p s) := by
  have hcount : Disables d (s.setPort p { s.port p with censusCount := (s.port p).censusCount + 1 }) :=
    disables_setPort p hs rfl
  simp only [censusBoundary]
  split
  · split
    · exact disables_sendToken p hcount
    · exact hcount
  · exact hs

theorem disables_addErrors (errors : Nat) (hs : Disables d s) : Disables d (addErrors p errors s) := by
  have hadd : Disables d (s.setPort p { s.port p with errors := (s.port p).errors + errors }) := disables_setPort p hs rfl
  simp only [addErrors]
  split
  · split
    · exact disables_enterRecovery p _ hadd
    · exact hadd
  · exact hs

theorem disables_receiveReturn (m : ReturnMessage) (hs : Disables d s) : Disables d (receiveReturn p m s) := by
  cases m with
  | censusAnswer hop => exact disables_recordHop p hop hs
  | trainingComplete width => exact disables_trainingExchange p width hs
  | symbolErrors errors => exact disables_addErrors p errors hs

theorem disables_handSegment (g : Segment) (hs : Disables d s) : Disables d (handSegment p g s) := by
  simp only [handSegment]
  split <;> exact disables_setPort p hs rfl

theorem disables_handCaps (watts : Nat) (hs : Disables d s) : Disables d (handCaps p watts s) := by
  have hcap : ∀ q u, Disables d u → Disables d (handCap q watts u) := fun q _ hu => disables_setPort q hu rfl
  unfold handCaps
  repeat' split
  · exact hcap _ _ (hcap _ _ hs)
  · exact hs
  · exact hcap _ _ hs

theorem disables_markPort (normal : Bool) (hs : Disables d s) : Disables d (markPort normal p s) := by
  simp only [markPort]
  split
  · refine disables_setPort p (disables_reads.keeps (m := [.sent]) (by simp) (by decide) hs) ?_
    rw [sendChain_port, foldl_sendChain]
    rfl
  · exact disables_setPort p hs rfl

theorem disables_handPiece (x : Piece) (hs : Disables d s) : Disables d (handPiece s x) :=
  disables_reads.keeps (m := [.accumulation]) (s := handSegment x.port x.segment s) (by simp [handPiece]) (by decide)
    (disables_handSegment _ _ hs)

theorem disables_handPieces (pieces : List Piece) (hs : Disables d s) : Disables d (pieces.foldl handPiece s) :=
  foldl_keeps (Disables d) _ (fun _ x h => disables_handPiece x h) _ s hs

theorem disables_handFirst (pieces : List Piece) (handed begun : Nat) (hs : Disables d s) :
    Disables d (handFirst pieces handed begun s) := by
  have hfirst := disables_handPieces (pieces.take handed) hs
  simp only [handFirst]
  split
  · exact hfirst
  · exact disables_reads.keeps (m := [.accumulation]) (by simp) (by decide) hfirst

theorem disables_handRest (pieces : List Piece) (handed begun : Nat) (hs : Disables d s) :
    Disables d (handRest pieces handed begun s) := by
  unfold handRest
  split
  · exact hs
  · next x rest _ =>
    exact disables_handPieces rest (disables_reads.keeps (m := [.accumulation]) (s := handSegment x.port x.segment s)
      (by simp) (by decide) (disables_handSegment _ _ hs))

theorem disables_takeUnit (hs : Disables d s) : Disables d (takeUnit s) := by
  unfold takeUnit
  split
  · simp only [startUnitMapping]
    split
    · exact hs
    · exact hs
    · exact hs
    · refine disables_handFirst _ _ _ ?_
      exact hs
  · exact hs
  · exact hs

theorem disables_finishUnit (hs : Disables d s) : Disables d (finishUnit s) := by
  unfold finishUnit
  split
  · exact hs
  · dsimp only
    split
    · exact hs
    · exact hs
    · exact hs
    · refine disables_reads.keeps (m := [.canvas]) ((only_mapLine _ (by simp)).mpr (.refl _ _)) (by decide) ?_
      exact disables_handRest _ _ _ (by exact hs)

end

theorem disables_sendMarkers {d : Fin 8 → Option Byte} {s : State} (hs : Disables d s) : Disables d (sendMarkers s) :=
  forEach_keeps (Disables d) _ (fun p _ => disables_markPort p _) _ hs

theorem disables_latchPorts {d : Fin 8 → Option Byte} {s : State} (hs : Disables d s) : Disables d (latchPorts s) := fun q => by
  rw [State.port, latchPorts, State.setPorts_ports, Tab.get_mapFin]
  exact hs q

theorem disables_trainPresent {d : Fin 8 → Option Byte} {s : State} (hs : Disables d s) : Disables d (trainPresent s) :=
  forEach_keeps (Disables d) _ (fun p _ => disables_tryTraining p _) s hs

/-! ### What is owed -/

section
variable {n : Nat} {w : List Report} {s t u : State}

/-- The ports change, but for their pending Disables. -/
theorem reserved_of_disables (h : Disables (fun q => (s.port q).disable) t) (hb : t.banks = s.banks)
    (hf : t.fixture = s.fixture) : t.reserved = s.reserved :=
  reserved_of_kept (by rw [hb]) h fun p => by rw [State.fixturePort, hf]; rfl

theorem Owes.ports (h : Owes n s t) (htell : Tells [none] [] t u) (hd : Disables (fun q => (t.port q).disable) u)
    (hb : u.banks = t.banks) (hf : u.fixture = t.fixture) : Owes n s u :=
  h.tells htell (reserved_of_disables hd hb hf)

/-! ### The ports -/

theorem owes_finishDisable (p : Fin 8) (h : Owes n s t) : Owes n s (finishDisable p t) := by
  unfold finishDisable
  split
  · exact h
  · next tag htag =>
    have hports := enterDisabled_ports p (t.setPort p { t.port p with disable := none })
    rw [setPort_ports, Tab.set_set, port_setPort_self] at hports
    have hdis : OnlyChanges [.ports, .mgmt] t (enterDisabled p (t.setPort p { t.port p with disable := none })) := by simp
    have hr := reserved_of_port (hdis.banks rfl) hports (hdis.fixture rfl)
    rw [htag] at hr
    exact h.quiet (owes_of_tells (tells_answer_only _ _ _ _ (tells_enterDisabled (by decide) p (Tells.refl.other (by simp)))) hr)

theorem owes_portBoundary (p : Fin 8) (h : Owes n s t) : Owes n s (portBoundary p t) := by
  have hquiet : ∀ u, OnlyChanges [.ports, .mgmt, .sent] t u → Tells [none] [] t u →
      Disables (fun q => (t.port q).disable) u → Owes n s u := fun u ho htell hd => h.ports htell hd (ho.banks rfl) (ho.fixture rfl)
  unfold portBoundary
  split
  · exact owes_finishDisable p h
  · split
    · refine hquiet _ (by simp) (Tells.refl.other (by simp)) (disables_censusBoundary p ?_)
      exact disables_of_ports (disables_self t) (sendCap_ports p t) (disable_capped _)
    · exact hquiet _ (by simp) (tells_trainingBoundary (by decide) p .refl)
        (disables_trainingBoundary p (disables_self t))

/-! ### The fixture ports -/

theorem places_takeWork (now : Nat) (x : FixturePort) : places (takeWork now x).query = places x.query := by
  unfold takeWork
  split
  · split
    · next q hq =>
      split
      · simp [hq]
      · split <;> rfl
    · split <;> rfl
  all_goals rfl

theorem places_refreshed (now : Nat) (held : Bool) (x : FixturePort) :
    places (x.refreshed now held).query = places x.query := by
  unfold FixturePort.refreshed
  split
  · exact places_takeWork _ _
  · split <;> rfl

/-- A fixture port changes, but not whether it holds a query. -/
theorem Owes.fixture (h : Owes n s t) {p : Fin 2} {x : FixturePort} (hm : u.mgmt = t.mgmt) (hb : u.banks = t.banks)
    (hp : u.ports = t.ports) (hf : u.fixture = t.fixture.set p x) (hx : places x.query = places (t.fixturePort p).query) :
    Owes n s u := by
  have hr := reserved_of_fixture hb hp hf
  exact h.quiet (owes_of_mgmt hm (by omega))

theorem owes_setFixturePort (h : Owes n s t) (p : Fin 2) {x : FixturePort}
    (hx : places x.query = places (t.fixturePort p).query) : Owes n s (t.setFixturePort p x) :=
  h.fixture rfl rfl rfl (setFixturePort_fixture p t x) hx

theorem owes_shiftNext (p : Fin 2) (h : Owes n s t) : Owes n s (shiftNext p t) :=
  owes_setFixturePort h p (places_takeWork _ _)

theorem owes_refreshBoundary (p : Fin 2) (h : Owes n s t) : Owes n s (refreshBoundary p t) := by
  have ho : OnlyChanges [.fixture] t (refreshBoundary p t) := by simp
  exact h.fixture (ho.mgmt rfl) (ho.banks rfl) (ho.ports rfl) (refreshBoundary_fixture p t) (places_refreshed _ _ _)

theorem tells_drainFifo_other {K : List (Option EventKind)} (hk : some .fixtureReply ∉ K) (p : Fin 2) (h : Tells K w s t) :
    Tells K w s (drainFifo p t) :=
  foldl_keeps (fun u => Tells K w s u) _ (fun _ _ hu => tells_offer_other hk _ hu) _ _ (h.other (by simp))

theorem owes_drainFifo (p : Fin 2) (h : Owes n s t) : Owes n s (drainFifo p t) := by
  have ho : OnlyChanges [.fixture, .mgmt] t (drainFifo p t) := by simp
  have hr := reserved_of_fixture (ho.banks rfl) (ho.ports rfl) (drainFifo_fixture p t)
  exact h.tells (tells_drainFifo_other (by decide) p .refl) (Nat.add_right_cancel hr)

/-- An outstanding query is answered in the room it reserved (R171). -/
theorem owes_answerQuery (p : Fin 2) (result : Result) (body : List Byte) (h : Owes n s t) :
    Owes n s (answerQuery p result body t) := by
  cases hq : (t.fixturePort p).query with
  | none => rwa [answerQuery_of_none p t result body hq]
  | some q =>
    rw [answerQuery_of_some p t result body hq]
    have hr := reserved_of_fixture (s := t) (t := t.setFixturePort p (t.fixturePort p).freed) rfl rfl (setFixturePort_fixture p t (t.fixturePort p).freed)
    rw [hq] at hr
    exact h.quiet (owes_of_tells (tells_answer_only _ _ _ _ (Tells.refl.other (by simp))) hr)

theorem owes_closeWithoutReply (p : Fin 2) (h : Owes n s t) : Owes n s (closeWithoutReply p t) :=
  owes_answerQuery p _ _ (owes_setFixturePort h p rfl)

theorem query_joinFifo (f : RxFrame) (x : FixturePort) : (joinFifo f x).query = x.query := by
  unfold joinFifo
  dsimp only
  split
  · rfl
  · split <;> rfl

theorem owes_endRxFrame (p : Fin 2) (h : Owes n s t) : Owes n s (endRxFrame p t) := by
  have hjoin : ∀ f u, Owes n s u → Owes n s (u.setFixturePort p (joinFifo f (u.fixturePort p))) := fun f u hu =>
    owes_setFixturePort hu p (by rw [query_joinFifo])
  have hrx : Owes n s (t.setFixturePort p { t.fixturePort p with rx := none }) := owes_setFixturePort h p rfl
  unfold endRxFrame
  split
  · exact h
  · dsimp only
    split
    · exact hjoin _ _ hrx
    · split
      · split
        · simp only [takeReply]
          split <;> exact owes_answerQuery p _ _ (owes_setFixturePort hrx p rfl)
        · simp only [passFrame]
          split
          · exact owes_closeWithoutReply p (hjoin _ _ hrx)
          · exact hjoin _ _ hrx
      · exact hjoin _ _ hrx

theorem owes_closeWindow (p : Fin 2) (h : Owes n s t) : Owes n s (closeWindow p t) := by
  unfold closeWindow
  split
  · exact h
  · next q hq =>
    split
    · exact h
    · exact h
    · exact h
    · next closes _ =>
      have hadvance : Owes n s (advanceTo closes t) := h.other (by simp)
      dsimp only
      split
      · exact owes_setFixturePort hadvance p (by rw [fixturePort_advanceTo, hq]; rfl)
      · exact owes_closeWithoutReply p hadvance

theorem owes_endShifterFrame (p : Fin 2) (h : Owes n s t) : Owes n s (endShifterFrame p t) := by
  have hsent : ∀ (k : Nat) (e : Emission) (x : FixturePort), places x.query = places (t.fixturePort p).query →
      Owes n s (shiftNext p (emit e ((advanceTo k t).setFixturePort p x))) := fun k e x hx =>
    owes_shiftNext p ((owes_setFixturePort (h.other (u := advanceTo k t) (by simp)) p hx).other (by simp))
  simp only [endShifterFrame]
  split
  · exact h
  · exact hsent _ _ _ rfl
  · refine hsent _ _ _ ?_
    simp only [FixturePort.querySent]
    cases (t.fixturePort p).query <;> rfl
  · next began rate characters _ =>
    refine owes_shiftNext p (owes_setFixturePort (h.other (u := advanceTo _ t) ?_) p rfl)
    simp

theorem owes_switchOff (p : Fin 2) (h : Owes n s t) : Owes n s (switchOff p t) := by
  have ho : OnlyChanges [.fixture, .sent] t (cutFrame p t) := by simp
  have hcut : Owes n s (cutFrame p t) := h.fixture (ho.mgmt rfl) (ho.banks rfl) (ho.ports rfl) (cutFrame_fixture p t) (by
    unfold FixturePort.cut
    split
    · rfl
    · split <;> rfl)
  exact owes_setFixturePort (owes_answerQuery p _ _ hcut) p rfl

/-! ### A boundary -/

theorem owes_boundaryOpening (h : Owes n s t) : Owes n s (boundaryOpening t) :=
  h.tells (tells_boundaryOpening (by decide) (by decide) (by decide) (by decide) .refl) (reserved_of_only (boundaryOpening_only t) rfl rfl rfl)

/-- The banks change, but for the Clone, and events are told. -/
theorem reserved_of_clone (hc : t.banks.clone = s.banks.clone) (hp : t.ports = s.ports) (hf : t.fixture = s.fixture) :
    t.reserved = s.reserved :=
  reserved_of_kept hc (fun p => by rw [State.port, hp]; rfl) fun p => by rw [State.fixturePort, hf]; rfl

theorem owes_boundaryLook (gp : Tab 4 Bool) (o : CommitOrder) (h : Owes n s t) : Owes n s (boundaryLook gp o t) := by
  have ho := boundaryLook_only t gp o
  exact h.tells (tells_boundaryLook gp o (by decide) (by decide) (by decide) (by decide) .refl)
    (reserved_of_clone ((takesKeep_clone t.banks.clone).boundaryLook rfl gp o) (ho.ports rfl) (ho.fixture rfl))

theorem owes_boundaryContacts (gp : Tab 4 Bool) (o : CommitOrder) (h : Owes n s t) : Owes n s (boundaryContacts gp o t) := by
  have ho := boundaryContacts_only t gp o
  exact h.tells (tells_boundaryContacts gp o (by decide) (by decide) (by decide) .refl)
    (reserved_of_clone ((takesKeep_clone t.banks.clone).boundaryContacts rfl gp o) (ho.ports rfl) (ho.fixture rfl))

theorem owes_boundaryWall (h : Owes n s t) : Owes n s (boundaryWall t) := by
  have hauto : Owes n s (autoHoldBoundary t) :=
    h.tells (tells_autoHoldBoundary (by decide) (by decide) .refl) (reserved_of_only (l := [.canvas, .mgmt]) (by simp) rfl rfl rfl)
  have hmark : OnlyChanges [.ports, .sent] (autoHoldBoundary t) (sendMarkers (autoHoldBoundary t)) := by simp
  have hmarkers := hauto.ports (.of_mgmt (hmark.mgmt rfl)) (disables_sendMarkers (disables_self _)) (hmark.banks rfl)
    (hmark.fixture rfl)
  have hlimiter : Owes n s (limiterBoundary (sendMarkers (autoHoldBoundary t))) :=
    hmarkers.tells (tells_limiterBoundary (by decide) (by decide) .refl)
      (reserved_of_only (l := [.limiter, .accumulation, .mgmt]) (by simp) rfl rfl rfl)
  have hports : Owes n s (portsBoundary (limiterBoundary (sendMarkers (autoHoldBoundary t)))) :=
    owes_forEach (fun p _ => owes_portBoundary p .refl) hlimiter
  have hgains : Owes n s (fixWallGains (portsBoundary (limiterBoundary (sendMarkers (autoHoldBoundary t))))) :=
    hports.other (by simp)
  have hlatch : ∀ v, Owes n s v → Owes n s (latchPorts v) := fun v hv => by
    have ho : OnlyChanges [.ports] v (latchPorts v) := by simp
    exact hv.ports (.of_mgmt (ho.mgmt rfl)) (disables_latchPorts (disables_self v)) (ho.banks rfl) (ho.fixture rfl)
  exact hlatch _ hgains

theorem owes_boundaryLight (h : Owes n s t) : Owes n s (boundaryLight t) := by
  have htake : Owes n s (takeUp t) := h.other (by simp)
  have hrefresh : Owes n s (forEach refreshBoundary (takeUp t)) := owes_forEach (fun p _ => owes_refreshBoundary p .refl) htake
  refine owes_forEach (fun p _ => owes_drainFifo p .refl) ?_
  generalize forEach refreshBoundary (takeUp t) = v at hrefresh
  have heval : OnlyChanges [.drive, .fixture, .level] v (evaluateLight v) := by simp
  refine hrefresh.quiet (owes_of_mgmt (heval.mgmt rfl) (reserved_of_kept (by rw [heval.banks rfl])
    (fun p => by rw [State.port, heval.ports rfl]; rfl) fun p => ?_))
  simp [evaluateLight, State.fixturePort]

theorem owes_frameBoundary (gp : Tab 4 Bool) (o : CommitOrder) (h : Owes n s t) : Owes n s (frameBoundary gp o t) :=
  owes_boundaryContacts gp o (owes_boundaryLight (owes_boundaryWall (owes_boundaryLook gp o (owes_boundaryOpening h))))

end

end Sys2Proof.Machine
end

section
/-! SUPPORT. What each command adds to the answers owed: a management command one, any other command none. -/

namespace Sys2Proof.Machine

section
variable {s t : State}

/-- An answer to a state that differs in blocks of neither the queue nor a reservation. -/
theorem owes_said (tag code : Byte) (result : Result) (body : List Byte) (h : OnlyChanges Block.unowing s t) :
    Owes 1 s (answer tag code result body t) := owes_answer _ _ _ _ (Owes.refl.other h)

theorem owes_refuse (tag code : Byte) (result : Result) : Owes 1 s (refuse tag code result s) :=
  owes_said _ _ _ _ (.refl _ _)

theorem owes_malformed (tag code : Byte) : Owes 1 s (malformed tag code s) :=
  owes_answer _ _ _ _ (n := 0) (owes_of_queue rfl rfl rfl rfl)

theorem clone_setStaged (b : Banks) (x : Bank) : (b.setStaged x).clone = b.clone := by
  unfold Banks.setStaged; split <;> rfl

theorem owes_writeStaged (tag code : Byte) (table start count : Nat) (ok : Bool) (change : Bank → Bank) :
    Owes 1 s (writeStaged tag code table start count ok change s) := by
  unfold writeStaged
  split
  · exact owes_refuse _ _ _
  · split
    · exact owes_refuse _ _ _
    · split
      · exact owes_refuse _ _ _
      · exact owes_answer _ _ _ _ (Owes.refl.banks (by simp) (clone_setStaged _ _))

theorem owes_writeTable (tag code : Byte) (table size largest width start count : Nat) (elements : List Byte)
    (change : Bank → Bank) : Owes 1 s (writeTable tag code table size largest width start count elements change s) := by
  unfold writeTable
  split
  · exact owes_writeStaged _ _ _ _ _ _ _
  · exact owes_malformed _ _

theorem owes_doClone (tag : Byte) : Owes 1 s (doClone tag s) := by
  unfold doClone
  split
  · exact owes_refuse _ _ _
  · split
    · exact owes_refuse _ _ _
    · next hc =>
      have hnone : s.banks.clone = none := by simpa using hc
      have hr := reserved_of_banks (s := s) (t := s.setBanks { s.banks with clone := some tag }) rfl rfl
      rw [hnone] at hr
      exact owes_of_queue rfl rfl rfl hr

theorem owes_acceptGo (r : CueRecord) (origin : GoOrigin) : Owes 0 s (acceptGo r origin s) := by
  have ho : OnlyChanges [.cue, .banks, .mgmt] s (acceptGo r origin s) := by simp
  exact Owes.refl.tells (tells_acceptGo (by decide) r origin .refl)
    (reserved_of_clone ((takesKeep_clone s.banks.clone).acceptGo rfl r origin) (ho.ports rfl) (ho.fixture rfl))

theorem owes_answerGo (tag code : Byte) (incoming : Option CueRecord) (origin : GoOrigin) (refusal : Result) :
    Owes 1 s (answerGo tag code incoming origin refusal s) := by
  cases incoming with
  | none => exact owes_refuse _ _ _
  | some r => exact owes_answer _ _ _ _ (owes_acceptGo r origin)

theorem owes_holdWall : Owes 0 s (holdWall s) :=
  Owes.refl.tells (tells_holdWall (by decide) (by decide) .refl)
    (reserved_of_only (l := [.canvas, .buffer, .accumulation, .mgmt]) (by simp) rfl rfl rfl)

theorem owes_releaseWall : Owes 0 s (releaseWall s) :=
  Owes.refl.tells (tells_changeWall (by decide) (by decide) _ _ .refl) (reserved_of_only (l := [.canvas, .mgmt]) (by simp) rfl rfl rfl)

theorem owes_retrainPort (tag : Byte) (p : Fin 8) : Owes 1 s (retrainPort tag p s) := by
  have hnote : ∀ u, Owes 0 s u → Owes 1 s (answer tag Code.chainRetrain .ok [] (u.setPort p { u.port p with retrain := true })) :=
    fun u hu => owes_answer _ _ _ _ (hu.ports (Tells.refl.other (by simp)) (disables_setPort p (disables_self u) rfl) rfl rfl)
  unfold retrainPort
  split
  · have ho : OnlyChanges [.ports, .mgmt, .sent, .draws] s (enterRecovery p .retrain s) := by simp
    exact hnote _ (Owes.refl.ports (tells_enterRecovery (by decide) p _ .refl) (disables_enterRecovery p _ (disables_self s))
      (ho.banks rfl) (ho.fixture rfl))
  · exact hnote _ .refl
  · exact hnote _ .refl
  · exact owes_refuse _ _ _
  · exact owes_refuse _ _ _

theorem owes_disablePort (tag : Byte) (p : Fin 8) : Owes 1 s (disablePort tag p s) := by
  have hdisabled : Owes 1 s (answer tag Code.chainDisable .ok [] (enterDisabled p s)) := by
    have ho : OnlyChanges [.ports, .mgmt] s (enterDisabled p s) := by simp
    exact owes_answer _ _ _ _ (Owes.refl.ports (tells_enterDisabled (by decide) p .refl)
      (disables_of_ports (disables_self s) (enterDisabled_ports p s) rfl) (ho.banks rfl) (ho.fixture rfl))
  simp only [disablePort]
  split
  · exact owes_refuse _ _ _
  · next hd =>
    split
    · have hnone : (s.port p).disable = none := by simpa using hd
      have hr := reserved_of_port (s := s) (t := s.setPort p { s.port p with disable := some tag }) rfl (setPort_ports p s _) rfl
      rw [hnone] at hr
      exact owes_of_queue rfl rfl rfl hr
    · exact hdisabled
    · exact hdisabled
    · exact hdisabled
    · exact owes_refuse _ _ _

theorem owes_enablePort (tag : Byte) (p : Fin 8) : Owes 1 s (enablePort tag p s) := by
  refine owes_answer _ _ _ _ ?_
  split
  · have ho : OnlyChanges [.ports, .mgmt, .sent] s (tryTraining p .partnerPresent (enterDown p .enable s)) := by simp
    exact Owes.refl.ports (tells_tryTraining (by decide) p _ (tells_enterDown (by decide) p _ .refl))
      (disables_tryTraining p _ (disables_enterDown p _ (disables_self s))) (ho.banks rfl) (ho.fixture rfl)
  · exact .refl

theorem owes_doSetChainBudget (tag : Byte) (chain budget step : Nat) : Owes 1 s (doSetChainBudget tag chain budget step s) := by
  simp only [doSetChainBudget]
  split
  · exact owes_refuse _ _ _
  · next c _ =>
    have hoffer : Owes 0 s (offerLimiter c (s.chain c).gain none (s.setChain c (budgetRecord budget step (s.chain c)))) :=
      Owes.refl.tells (tells_offerLimiter (by decide) (by decide) c _ _ (Tells.refl.other (by simp)))
        (reserved_of_only (l := [.limiter, .mgmt]) (by simp) rfl rfl rfl)
    have hcaps : ∀ u, Owes 0 s u → Owes 0 s (handCaps c budget u) := fun u hu => by
      have ho : OnlyChanges [.ports] u (handCaps c budget u) := by simp
      exact hu.ports (.of_mgmt (ho.mgmt rfl)) (disables_handCaps c budget (disables_self u)) (ho.banks rfl) (ho.fixture rfl)
    exact owes_answer _ _ _ _ (hcaps _ hoffer)

theorem owes_doSetFixturePort (tick : Nat) (tag : Byte) (port : Nat) (enable : Bool) (rate divisor : Nat) :
    Owes 1 s (doSetFixturePort tick tag port enable rate divisor s) := by
  have hadvance : Owes 0 s (advanceTo tick s) := Owes.refl.other (by simp)
  simp only [doSetFixturePort]
  split
  · next p r _ _ =>
    split
    · refine owes_answer _ _ _ _ ?_
      have hstore : Owes 0 s (storeRate p r divisor (advanceTo tick s)) := owes_setFixturePort hadvance p rfl
      unfold enablePortTo
      split
      · exact hstore
      · split
        · exact owes_setFixturePort hstore p rfl
        · exact owes_switchOff p hstore
    · exact owes_answer _ _ _ _ hadvance
  · exact owes_answer _ _ _ _ hadvance

theorem owes_doQueryFixture (tick : Nat) (tag : Byte) (port address kind : Nat) :
    Owes 1 s (doQueryFixture tick tag port address kind s) := by
  have hadvance : Owes 0 s (advanceTo tick s) := Owes.refl.other (by simp)
  simp only [doQueryFixture]
  split
  · next p k _ _ =>
    split
    · exact owes_answer _ _ _ _ hadvance
    · split
      · exact owes_answer _ _ _ _ hadvance
      · split
        · exact owes_answer _ _ _ _ hadvance
        · next hq =>
          have hnone : ((advanceTo tick s).fixturePort p).query = none := by simpa using hq
          have hr := reserved_of_fixture (s := advanceTo tick s)
            (t := (advanceTo tick s).setFixturePort p { (advanceTo tick s).fixturePort p with
              query := some ⟨tag, address, k, .waiting⟩ }) rfl rfl (setFixturePort_fixture p _ _)
          rw [hnone] at hr
          exact owes_shiftNext p (hadvance.trans (m := 1) (owes_of_queue rfl rfl rfl hr))
  · exact owes_answer _ _ _ _ hadvance

theorem owes_clearFlags (block mask : Nat) : Owes 0 s (clearFlags block mask s) := by
  unfold clearFlags
  split
  case h_3 => exact Owes.refl.banks (by simp) rfl
  case h_5 =>
    refine owes_of_mgmt rfl (reserved_of_kept rfl (fun q => ?_) fun _ => rfl)
    rw [State.port, State.setPorts_ports, Tab.get_mapFin]
    rfl
  case h_7 =>
    refine owes_of_mgmt rfl (reserved_of_kept rfl (fun _ => rfl) fun q => ?_)
    rw [State.fixturePort, State.setFixture_fixture, Tab.get_mapFin]
    rfl
  case h_8 => exact owes_of_queue rfl rfl rfl rfl
  all_goals exact Owes.refl.other (by simp)

theorem owes_clearBlock (block : Nat) : Owes 0 s (clearBlock block s) := by
  unfold clearBlock
  split
  case h_3 => exact Owes.refl.banks (by simp) rfl
  case h_5 =>
    refine owes_of_mgmt rfl (reserved_of_kept rfl (fun q => ?_) fun _ => rfl)
    rw [State.port, State.setPorts_ports, Tab.get_map]
    rfl
  case h_9 =>
    refine owes_of_mgmt rfl (reserved_of_kept rfl (fun _ => rfl) fun q => ?_)
    rw [State.fixturePort, State.setFixture_fixture, Tab.get_map]
    rfl
  case h_10 => exact owes_of_queue rfl rfl rfl rfl
  all_goals exact Owes.refl.other (by simp)

end

/-- Every management command owes one answer more (R175). -/
theorem owes_management (c : Instr) (hc : isManagement c = true) (s : State) : Owes 1 s (run c s) := by
  cases c with
  | setIdentity tag address label =>
    simp only [run, doSetIdentity]
    repeat' split
    case isTrue => exact owes_malformed _ _
    all_goals exact owes_said _ _ _ _ (by simp)
  | setFilter tag index value mask cls source =>
    simp only [run, doSetFilter]
    split <;> exact owes_said _ _ _ _ (by simp)
  | setFiltersInUse tag count =>
    simp only [run, doSetFiltersInUse]
    split <;> exact owes_said _ _ _ _ (by simp)
  | setReference tag code =>
    simp only [run, doSetReference]
    split
    · exact owes_refuse _ _ _
    · exact owes_answer _ _ _ _ (Owes.refl.tells (tells_changeTiming (by decide) _ .refl)
        (reserved_of_only (l := [.timing, .mgmt]) (by simp) rfl rfl rfl))
  | setInternalRate tag ticks => exact owes_said _ _ _ _ (by simp)
  | setPhaseOffset tag ticks => exact owes_said _ _ _ _ (by simp)
  | setPwmGrid tag k => exact owes_said _ _ _ _ (by simp)
  | setContactFunction tag input function =>
    simp only [run, doSetContactFunction]
    split <;> exact owes_said _ _ _ _ (by simp)
  | writeTileEntries tag start count elements => exact owes_writeTable ..
  | writeChainLengths tag start count elements => exact owes_writeTable ..
  | writeWallCurve tag start count elements => exact owes_writeTable ..
  | writeLightCurve tag start count elements => exact owes_writeTable ..
  | writePatch tag start count elements => exact owes_writeTable ..
  | writeSlotCounts tag start count elements => exact owes_writeTable ..
  | writeRingFlags tag flags => rw [run_writeRingFlags]; exact owes_writeStaged ..
  | writeCanvasSize tag width height => rw [run_writeCanvasSize]; exact owes_writeStaged ..
  | readTable tag bank table start count =>
    simp only [run, doReadTable]
    repeat' split
    all_goals exact owes_said _ _ _ _ (.refl _ _)
  | clone tag => exact owes_doClone tag
  | take tag request frame =>
    simp only [run, doTake]
    repeat' split
    case isFalse => exact owes_answer _ _ _ _ (Owes.refl.banks (by simp) rfl)
    all_goals exact owes_refuse _ _ _
  | cancelTake tag =>
    simp only [run, doCancelTake]
    split
    · exact owes_refuse _ _ _
    · exact owes_answer _ _ _ _ (Owes.refl.banks (by simp) rfl)
    · exact owes_answer _ _ _ _ (Owes.refl.banks (by simp) rfl)
  | hold tag scope =>
    simp only [run, doHold]
    split
    · exact owes_refuse _ _ _
    · refine owes_answer _ _ _ _ ?_
      have hlight : ∀ (b : Bool) u, Owes 0 s u → Owes 0 s (if b then setLightOperator true u else u) := fun b u hu => by
        split
        · exact hu.other (by simp)
        · exact hu
      refine hlight _ _ ?_
      split
      · exact owes_holdWall
      · exact .refl
  | release tag scope =>
    simp only [run, doRelease]
    split
    · exact owes_refuse _ _ _
    · refine owes_answer _ _ _ _ ?_
      have hlight : ∀ (b : Bool) u, Owes 0 s u → Owes 0 s (if b then setLightOperator false u else u) := fun b u hu => by
        split
        · exact hu.other (by simp)
        · exact hu
      refine hlight _ _ ?_
      split
      · exact owes_releaseWall
      · exact .refl
  | chainRetrain tag port =>
    simp only [run, doChainRetrain]
    split
    · exact owes_refuse _ _ _
    · exact owes_retrainPort tag _
  | chainDisable tag port =>
    simp only [run, doChainDisable]
    split
    · exact owes_refuse _ _ _
    · exact owes_disablePort tag _
  | chainEnable tag port =>
    simp only [run, doChainEnable]
    split
    · exact owes_refuse _ _ _
    · exact owes_enablePort tag _
  | setChainBudget tag chain budget step => exact owes_doSetChainBudget ..
  | setSourcePriority tag source priority =>
    simp only [run, doSetSourcePriority]
    repeat' split
    all_goals exact owes_said _ _ _ _ (by simp)
  | setSourceTimeout tag source timeout =>
    simp only [run, doSetSourceTimeout]
    repeat' split
    all_goals exact owes_said _ _ _ _ (by simp)
  | writeCue tag number up down delay follow link pairs =>
    simp only [run, doWriteCue]
    repeat' split
    all_goals exact owes_said _ _ _ _ (by simp)
  | deleteCue tag number =>
    simp only [run, doDeleteCue]
    repeat' split
    all_goals exact owes_said _ _ _ _ (by simp)
  | readCue tag number =>
    simp only [run, doReadCue]
    repeat' split
    all_goals exact owes_said _ _ _ _ (.refl _ _)
  | go tag => exact owes_answerGo ..
  | goTo tag number => exact owes_answerGo ..
  | back tag => exact owes_answerGo ..
  | halt tag =>
    simp only [run, doHalt]
    repeat' split
    all_goals exact owes_said _ _ _ _ (by simp)
  | resume tag =>
    simp only [run, doResume]
    repeat' split
    all_goals exact owes_said _ _ _ _ (by simp)
  | clearPlayback tag =>
    refine owes_said _ _ _ _ ?_
    split
    · exact .refl _ _
    · simp
  | setPwmOutput tag output alignment polarity phase pair =>
    simp only [run, doSetPwmOutput]
    repeat' split
    all_goals exact owes_said _ _ _ _ (by simp)
  | setFixturePort tick tag port enable rate divisor => exact owes_doSetFixturePort ..
  | queryFixture tick tag port address kind => exact owes_doQueryFixture ..
  | setEventMask tag mask =>
    simp only [run, doSetEventMask]
    split
    · exact owes_answer _ _ _ _ (n := 0) (owes_of_queue rfl rfl rfl rfl)
    · exact owes_refuse _ _ _
  | queryStatus tick tag block =>
    simp only [run, doQueryStatus]
    split <;> exact owes_said _ _ _ _ (by simp)
  | clearStatus tag block mask =>
    simp only [run, doClearStatus]
    split
    · exact owes_answer _ _ _ _ (owes_clearFlags _ _)
    · exact owes_refuse _ _ _
  | clearCounters tag block =>
    simp only [run, doClearCounters]
    split
    · exact owes_answer _ _ _ _ (owes_clearBlock _)
    · exact owes_refuse _ _ _
  | flushInputs tag =>
    refine owes_said _ _ _ _ ?_
    simp [flushSources, flushLanes]
  | _ => simp [isManagement] at hc

/-- The rows of the link, of a boundary's parts, of the ports and of the timers owe no answer of their own. -/
theorem owes_row (c : Instr) (hc : isManagement c = false) (hlane : .lane ∉ touches c) (hlink : c ≠ .linkUp ∧ c ≠ .linkDown)
    (hreport : c ≠ .reportTransmitted)
    (s : State) : Owes 0 s (run c s) := by
  have hquiet : ∀ t, OnlyChanges Block.unowing s t → Owes 0 s t := fun t => Owes.refl.other
  have htiming : ∀ after u, OnlyChanges [.now] s u → Owes 0 s (changeTiming after u) := fun after u hu =>
    (Owes.refl.other (hu.mono (by decide))).tells (tells_changeTiming (by decide) after .refl)
      (reserved_of_only (l := [.timing, .mgmt]) (by simp) rfl rfl rfl)
  have hports : ∀ t, OnlyChanges [.now, .buffer, .canvas, .ports, .accumulation, .mgmt, .sent, .draws] s t →
      Tells [none] [] s t → Disables (fun q => (s.port q).disable) t → Owes 0 s t := fun t ho htell hd =>
    Owes.refl.ports htell hd (ho.banks rfl) (ho.fixture rfl)
  have honly := run_only c (by rintro n rfl; exact hlane (by simp [touches])) s
  cases c with
  | linkUp => exact absurd rfl hlink.1
  | linkDown => exact absurd rfl hlink.2
  | huntByte b => exact hquiet _ (honly.mono (by simp [touches]))
  | headerReceived streamId address length => exact hquiet _ (honly.mono (by simp [touches]))
  | sourceSilenceTimeout k => exact hquiet _ (honly.mono (by simp [touches]))
  | cloneComplete =>
    simp only [run, finishClone]
    split
    · exact .refl
    · next tag hc =>
      have hr := reserved_of_banks (s := s) (t := s.setBanks { s.banks.setStaged s.activeBank with
        clone := none, counters := { (s.banks.setStaged s.activeBank).counters with
          clones := bump (s.banks.setStaged s.activeBank).counters.clones } }) rfl rfl
      rw [hc] at hr
      exact owes_of_tells (tells_answer_only _ _ _ _ (Tells.refl.other (by simp))) hr
  | validationEnd =>
    refine Owes.refl.tells (tells_endValidation (by decide) .refl) (reserved_of_clone ?_ (honly.ports rfl) (honly.fixture rfl))
    simp only [run, endValidation]
    repeat' split
    all_goals rfl
  | followGo =>
    exact Owes.refl.tells (tells_testFollow (by decide) .refl)
      (reserved_of_clone ((takesKeep_clone s.banks.clone).testFollow rfl) (honly.ports rfl) (honly.fixture rfl))
  | frameBoundary gp o => exact owes_frameBoundary gp o .refl
  | fadeStart =>
    simp only [run]
    split
    · exact Owes.refl.tells (tells_startFade (by decide) .refl) (reserved_of_only (l := [.cue, .mgmt]) (by simp) rfl rfl rfl)
    · exact .refl
  | fadeComplete =>
    exact Owes.refl.tells (tells_testCompletion (by decide) .refl) (reserved_of_only honly rfl rfl rfl)
  | autoHoldSet =>
    simp only [run]
    split
    · exact Owes.refl.tells (tells_changeWall (by decide) (by decide) _ _ .refl)
        (reserved_of_only (l := [.canvas, .mgmt]) (by simp [setAutoHold]) rfl rfl rfl)
    · exact .refl
  | trainingTimeout p =>
    refine hports _ (honly.mono (by simp [touches])) ?_ ?_
    all_goals simp only [run]; split
    · exact tells_failTraining (by decide) p .refl
    · exact .refl
    · exact disables_failTraining p (disables_self s)
    · exact disables_self s
  | recoveryFailure p =>
    refine hports _ (honly.mono (by simp [touches])) ?_ ?_
    all_goals simp only [run]; split
    · exact tells_failRecovery (by decide) p .refl
    · exact .refl
    · exact disables_failRecovery p (disables_self s)
    · exact disables_self s
  | holdoffEnd p =>
    refine hports _ (honly.mono (by simp [touches])) ?_ ?_
    all_goals simp only [run]; split
    · exact tells_endHoldoff (by decide) p .refl
    · exact .refl
    · exact disables_endHoldoff p (disables_self s)
    · exact disables_self s
  | periodicCensus p =>
    refine hports _ (honly.mono (by simp [touches])) (Tells.refl.other (honly.mono (by simp [touches]))) ?_
    simp only [run]; split
    · exact disables_censusBoundary p (disables_self s)
    · exact disables_self s
  | partnerPresent p =>
    exact hports _ (honly.mono (by simp [touches])) (tells_tryTraining (by decide) p _ (Tells.refl.other (by simp)))
      (disables_tryTraining p _ (disables_setPort p (disables_self s) rfl))
  | partnerLost p =>
    exact hports _ (honly.mono (by simp [touches])) (tells_losePartner (by decide) p .refl) (disables_losePartner p (disables_self s))

  | trainingComplete p exchange =>
    exact hports _ (honly.mono (by simp [touches])) (tells_receiveReturn (by decide) p _ (Tells.refl.other (by simp)))
      (disables_receiveReturn p _ (s := advanceTo exchange.tick s) (disables_self s))
  | censusAnswer p hop =>
    exact hports _ (honly.mono (by simp [touches])) (tells_receiveReturn (by decide) p _ .refl) (disables_receiveReturn p _ (disables_self s))

  | symbolError p errors =>
    exact hports _ (honly.mono (by simp [touches])) (tells_receiveReturn (by decide) p _ .refl) (disables_receiveReturn p _ (disables_self s))

  | censusWindowEnd p =>
    exact hports _ (honly.mono (by simp [touches])) (tells_endWindow (by decide) p (by decide) .refl) (disables_endWindow p (disables_self s))

  | mappingUnitTake =>
    exact hports _ (honly.mono (by simp [touches])) (Tells.refl.other (honly.mono (by simp [touches]))) (disables_takeUnit (disables_self s))
  | mappingUnitEnd =>
    exact hports _ (honly.mono (by simp [touches])) (Tells.refl.other (honly.mono (by simp [touches]))) (disables_finishUnit (disables_self s))
  | fixtureRefresh p =>
    simp only [run]
    split
    · exact owes_shiftNext p (owes_setFixturePort .refl p rfl)
    · exact .refl
  | fixtureCharacter p data parity line =>
    simp only [run, receiveCharacter]
    split
    · exact owes_setFixturePort .refl p rfl
    · exact .refl
  | shifterFrameEnd p => exact owes_endShifterFrame p .refl
  | fixtureFrameEnd p => exact owes_endRxFrame p .refl
  | replyWindowClose p => exact owes_closeWindow p .refl
  | holdoverEnd =>
    simp only [run]; split
    · exact htiming _ _ (.refl _ _)
    · exact .refl
  | marksAcquisitionTimeout =>
    simp only [run]; split
    · exact htiming _ _ (.refl _ _)
    · exact .refl
  | marksReferenceLost =>
    simp only [run]; split
    · exact htiming _ _ (.refl _ _)
    · exact .refl
  | genlockPulse tick => exact htiming _ _ (by simp)
  | acquisitionTimeout =>
    simp only [run]; split
    · exact .refl
    · split
      · exact htiming _ _ (by simp)
      · exact .refl
  | referenceLost =>
    simp only [run]; split
    · exact .refl
    · split
      · exact htiming _ _ (by simp)
      · exact .refl
  | reportTransmitted => exact absurd rfl hreport
  | powerOnReset gp => exact absurd (by simp [touches]) hlane
  | lineReset gp => exact absurd (by simp [touches]) hlane
  | managementUnitStart tick => exact absurd (by simp [touches]) hlane
  | unitReceived tick payload crc => exact absurd (by simp [touches]) hlane
  | _ => exact absurd hc (by simp [isManagement])

end Sys2Proof.Machine
end

section
/-! PROOFS. Every step keeps the room rule, the sizes of the lanes and the intake's facts (sections 1 and 11.1). -/

namespace Sys2Proof.Machine

/-! ### The room rule (R174) -/

section
variable {s t : State}

theorem hasRoom_eq (s : State) : hasRoom s = decide (s.taken ≤ 31) := rfl

theorem queueSound_iff (s : State) :
    QueueSound s ↔ s.taken ≤ 32 ∧ s.mgmt.stalled = (!s.intake.lane.isEmpty && decide (31 < s.taken)) := by
  have h : (!hasRoom s) = decide (31 < s.taken) := by simp [hasRoom_eq, ← decide_not]
  rw [QueueSound, h]
  rfl

theorem taken_settleEngine (s : State) : (settleEngine s).taken = s.taken := by
  unfold settleEngine
  split
  · split <;> rfl
  · rfl

/-- The settled engine is stalled exactly while a unit waits without room. -/
theorem queueSound_settleEngine (h : s.taken ≤ 32) : QueueSound (settleEngine s) := by
  obtain ⟨stalled, stalls, he, hstalled, -⟩ := settleEngine_cases s
  exact ⟨(taken_settleEngine s).trans_le h, by rw [he]; exact hstalled⟩

theorem queueSound_of_owes (h : Owes 0 s t) (hlane : t.intake.lane = s.intake.lane) (hs : QueueSound s) : QueueSound t := by
  rw [queueSound_iff] at *
  obtain ⟨hstall, -, -, -, hle, htaken⟩ := h
  obtain ⟨hroom, hstalled⟩ := hs
  refine ⟨by omega, ?_⟩
  rw [hstall, hstalled, hlane]
  congr 2
  exact propext ⟨by omega, by omega⟩

end

end Sys2Proof.Machine
end

section
/-! PROOFS. Every step keeps the room rule, the sizes of the lanes and the intake's facts (sections 1 and 11.1). -/

namespace Sys2Proof.Machine

/-! ### The room rule (R174) -/

section
variable {s t : State}

theorem taken_of_owes_one (h : Owes 1 s t) (hs : s.taken ≤ 31) : t.taken ≤ 32 := by
  have hnear := h.near
  omega

/-- What neither the queue nor a reservation is of may change, apart from the lane. -/
theorem queueSound_other (h : OnlyChanges Block.unowing s t) (hlane : t.intake.lane = s.intake.lane) (hs : QueueSound s) :
    QueueSound t := queueSound_of_owes (Owes.refl.other h) hlane hs

theorem queueSound_startUnit (tick : Nat) (hs : QueueSound s) : QueueSound (startUnit tick s) := by
  have htaken : s.taken ≤ 32 := hs.1
  simp only [startUnit]
  split
  · exact queueSound_settleEngine htaken
  · next u rest _ =>
    split
    · next hroom =>
      have hfree : ((advanceTo tick s).setIntake { (advanceTo tick s).intake with lane := rest }).taken ≤ 31 :=
        of_decide_eq_true hroom
      refine queueSound_settleEngine (taken_of_owes_one ?_ hfree)
      rcases runsCommand_runUnit tick u ((advanceTo tick s).setIntake { (advanceTo tick s).intake with lane := rest }) with
        h | ⟨c, hc, h⟩
      · rw [h]; exact owes_malformed _ _
      · rw [h]; exact owes_management c (isManagement_of_body hc) _
    · exact queueSound_settleEngine htaken

theorem queueSound_joinLane (payload : List Byte) (hs : QueueSound s) : QueueSound (joinLane payload s) := by
  simp only [joinLane]
  split
  · exact queueSound_settleEngine hs.1
  · exact queueSound_other (by simp) rfl hs

theorem owes_joinBuffer (u : PictureUnit) : Owes 0 s (joinBuffer u s) := by
  have hbegin : ∀ v, OnlyChanges Block.unowing s v → ∀ number damaged, Owes 0 s (beginFrame number damaged v) :=
    fun v hv number damaged => (Owes.refl.other hv).tells (tells_beginFrame (by decide) (by decide) number damaged .refl)
      (reserved_of_only (l := [.canvas, .buffer, .accumulation, .mgmt]) (by simp) rfl rfl rfl)
  unfold joinBuffer
  split
  · have htrack : Owes 0 s (trackUnit u s).2 := by
      simp only [trackUnit]
      split
      · exact (hbegin s (.refl _ _) u.frame false).other (by simp)
      · exact Owes.refl.other (by simp)
    exact htrack.other (by simp)
  · refine (Owes.refl.other (t := s) ?_).tells (tells_lossNotice (by decide) (by decide) _ .refl)
      (reserved_of_only (l := [.canvas, .buffer, .accumulation, .mgmt]) (by simp) rfl rfl rfl)
    simp

theorem queueSound_receiveUnit (tick : Nat) (payload : List Byte) (crc : BitVec 32) (hs : QueueSound s) :
    QueueSound (receiveUnit tick payload crc s) := by
  have hquiet : ∀ {u v : State}, QueueSound u → OnlyChanges [.now, .slot, .intake, .merge] u v → QueueSound v :=
    fun hu h => queueSound_other (h.mono (by simp)) (h.lane rfl) hu
  unfold receiveUnit
  split
  · split
    · have hbegun : QueueSound ((advanceTo tick s).setIntake { (advanceTo tick s).intake with framer := .hunt false }) :=
        hquiet hs (by simp)
      simp only [completeUnit]
      generalize (advanceTo tick s).setIntake { (advanceTo tick s).intake with framer := .hunt false } = v at hbegun
      split
      · exact hquiet hbegun (by simp [countCrcError])
      · split
        · unfold classify
          split
          · exact hquiet hbegun (by simp [countUnmatched])
          · split
            · exact hquiet hbegun (by simp [countFiltered])
            · split
              · unfold enterLane
                split
                · exact queueSound_joinLane _ hbegun
                · have ho : OnlyChanges [.canvas, .buffer, .intake, .accumulation, .mgmt] v
                    (joinBuffer (pictureOfPayload payload) v) := by simp
                  exact queueSound_of_owes (owes_joinBuffer _) (ho.lane rfl) hbegun
                · exact hquiet hbegun (by simp)
                · exact hquiet hbegun (by simp)
                · exact hbegun
              · exact hquiet hbegun (by simp [countClassLength])
        · exact hquiet hbegun (by simp [countNotAddressed])
    · exact hs
  · exact hs

theorem queueSound_sendReport (hs : QueueSound s) : QueueSound (sendReport s) := by
  unfold sendReport
  split
  · next r rest _ hq =>
    refine queueSound_settleEngine ?_
    have htaken : s.taken ≤ 32 := hs.1
    have hlen : s.mgmt.queue.length = rest.length + 1 := by rw [hq, List.length_cons]
    change rest.length + s.reserved ≤ 32
    simp only [State.taken] at htaken
    omega
  · exact hs
  · exact hs

theorem queueSound_reset {u : State} (hq : u.mgmt = Mgmt.reset) (hl : u.intake.lane = []) (hb : u.banks.clone = none)
    (hp : u.ports = resetPorts s) (hf : u.fixture = State.reset.fixture) : QueueSound (trainPresent u) := by
  have hr : u.reserved = 0 := by
    have hkept : u.reserved = State.reset.reserved := reserved_of_kept hb
      (fun p => by rw [State.port, hp, resetPorts, Tab.get_map]; simp [State.port, State.reset, Port.reset])
      fun p => by rw [State.fixturePort, hf]; rfl
    rw [hkept]
    rfl
  have htaken : u.taken = 0 := by rw [State.taken, hr, hq]; rfl
  have hsound : QueueSound u := (queueSound_iff u).mpr ⟨by omega, by rw [hl, hq]; rfl⟩
  have ho := trainPresent_only u
  exact queueSound_of_owes (Owes.refl.ports (tells_trainPresent (by decide) .refl) (disables_trainPresent (disables_self u))
    (ho.banks rfl) (ho.fixture rfl)) (ho.lane rfl) hsound

theorem queueSound_exec {c : Instr} (h : exec c s = .next t) (hs : QueueSound s) : QueueSound t := by
  rw [exec_eq] at h
  cases hc : isManagement c with
  | true =>
    rw [hc, if_pos rfl] at h
    obtain rfl := Host.Outcome.next.inj h
    split
    · next hroom =>
      exact queueSound_settleEngine (taken_of_owes_one (owes_management c hc s) (of_decide_eq_true hroom))
    · exact hs
  | false =>
    rw [hc, if_neg (by simp)] at h
    obtain rfl := Host.Outcome.next.inj h
    by_cases hrow : .lane ∉ touches c ∧ c ≠ .linkUp ∧ c ≠ .linkDown ∧ c ≠ .reportTransmitted
    · obtain ⟨hlane, hup, hdown, hreport⟩ := hrow
      have ho := run_only c (by rintro n rfl; exact hlane (by simp [touches])) s
      exact queueSound_of_owes (owes_row c hc hlane ⟨hup, hdown⟩ hreport s) (ho.lane (by simpa using hlane)) hs
    · cases c with
      | powerOnReset gp => exact queueSound_reset (s := s) (u := defaults gp s) rfl rfl rfl rfl rfl
      | lineReset gp =>
        exact queueSound_reset (s := s) (u := (defaults gp s).setIntake (keptIdentity s.intake)) rfl rfl rfl rfl rfl
      | managementUnitStart tick => exact queueSound_startUnit tick hs
      | unitReceived tick payload crc => exact queueSound_receiveUnit tick payload crc hs
      | reportTransmitted => exact queueSound_sendReport hs
      | linkUp =>
        simp only [run, linkUp]
        split
        · exact hs
        · unfold Mgmt.linkReturns
          split <;> exact hs
      | linkDown =>
        simp only [run, linkDown]
        split <;> exact hs
      | _ => exact absurd ⟨by simp [touches], nofun, nofun, nofun⟩ hrow

theorem queueSound_step (h : step s = .next t) (hs : QueueSound s) : QueueSound t := by
  rcases step_eq_next h with rfl | ⟨c, rest, he⟩
  · exact hs
  · exact queueSound_exec (s := s.setPending rest) he hs

end

/-! ### The lane and the buffer (R11, R12) -/

/-- The buffer holds `n` units or fewer. -/
def BufferFits (n : Nat) (s : State) : Prop := s.intake.buffer.length ≤ n

theorem bufferFits_reads {n : Nat} : Reads [.buffer] (BufferFits n) := fun s t h hs => by
  have hb : t.intake.buffer = s.intake.buffer := h .buffer (by simp)
  rw [BufferFits, hb]
  exact hs

section
variable {n : Nat} {s : State}

theorem bufferFits_remarkBuffer (mark : UnitMark) (hs : BufferFits n s) : BufferFits n (remarkBuffer mark s) := by
  rw [BufferFits, remarkBuffer, State.setIntake_intake, List.length_map]
  exact hs

theorem bufferFits_giveUpFrame (hs : BufferFits n s) : BufferFits n (giveUpFrame s) :=
  bufferFits_reads.keeps (m := [.accumulation]) (s := remarkBuffer .unassigned (stopMapping countUnassigned s))
    (by simp [giveUpFrame]) (by decide)
    (bufferFits_remarkBuffer _ (bufferFits_reads.keeps (m := [.canvas]) (by simp) (by decide) hs))

theorem bufferFits_abandonFrame (hs : BufferFits n s) : BufferFits n (abandonFrame s) := by
  unfold abandonFrame
  split
  · exact hs
  · split
    · exact bufferFits_giveUpFrame hs
    · exact hs

theorem bufferFits_supersedeFrame (hs : BufferFits n s) : BufferFits n (supersedeFrame s) := by
  unfold supersedeFrame
  split
  · exact bufferFits_giveUpFrame hs
  · exact hs

theorem bufferFits_beginFrame (number : BitVec 16) (damaged : Bool) (hs : BufferFits n s) :
    BufferFits n (beginFrame number damaged s) := by
  have hgone := bufferFits_supersedeFrame hs
  simp only [beginFrame]
  split
  · exact hgone
  · exact bufferFits_reads.keeps (m := [.canvas, .accumulation, .mgmt]) (by simp) (by decide) hgone

theorem bufferFits_presentFrame (hs : BufferFits n s) : BufferFits n (presentFrame s) := by
  unfold presentFrame
  split
  · exact hs
  · split
    · exact bufferFits_remarkBuffer .late (s := stopMapping countLate s)
        (bufferFits_reads.keeps (m := [.canvas]) (by simp) (by decide) hs)
    · exact hs

theorem bufferFits_frameBoundary (gp : Tab 4 Bool) (o : CommitOrder) (hs : BufferFits n s) :
    BufferFits n (frameBoundary gp o s) := by
  have htiming : BufferFits n (timingBoundary s) :=
    bufferFits_reads.keeps (m := [.now, .slot, .timing, .mgmt]) (by simp) (by decide) hs
  have hopening : BufferFits n (boundaryOpening s) :=
    bufferFits_reads.keeps (m := [.canvas, .mgmt, .merge, .drive]) (s := presentFrame (timingBoundary s))
      (by simp [boundaryOpening]) (by decide) (bufferFits_presentFrame htiming)
  have hlook := bufferFits_reads.keeps (boundaryLook_only _ gp o) (by decide) hopening
  have hlight := bufferFits_reads.keeps (boundaryLight_only _) (by decide)
    (bufferFits_reads.keeps (boundaryWall_only _) (by decide) hlook)
  have hhold : ∀ u, BufferFits n u → BufferFits n (contactHold gp u) := fun u hu => by
    have hwall : ∀ after, BufferFits n (changeWall .contact after u) := fun after =>
      bufferFits_reads.keeps (m := [.canvas, .mgmt]) (by simp) (by decide) hu
    simp only [contactHold]
    split
    · exact bufferFits_abandonFrame (hwall _)
    · exact hwall _
  exact bufferFits_reads.keeps (m := [.cue, .banks, .mgmt, .timing])
    (s := contactHold gp (boundaryLight (boundaryWall (boundaryLook gp o (boundaryOpening s)))))
    (by simp [frameBoundary, boundaryContacts]) (by decide) (hhold _ hlight)

theorem bufferFits_trackUnit (u : PictureUnit) (hs : BufferFits n s) : BufferFits n (trackUnit u s).2 := by
  have hjudge : ∀ v, BufferFits n v → BufferFits n (judgeUnit u v).2 := fun v =>
    bufferFits_reads.keeps (m := [.canvas]) (by simp) (by decide)
  simp only [trackUnit]
  split
  · exact hjudge _ (bufferFits_beginFrame _ _ hs)
  · exact hjudge _ hs

theorem bufferFits_joinBuffer (u : PictureUnit) (hs : BufferFits 8 s) : BufferFits 8 (joinBuffer u s) := by
  unfold joinBuffer
  split
  · next hroom =>
    have htrack : BufferFits 7 (trackUnit u s).2 := bufferFits_trackUnit u (Nat.le_of_lt_succ hroom)
    rw [BufferFits, State.setIntake_intake, List.length_append, List.length_singleton]
    exact Nat.succ_le_succ htrack
  · simp only [lossNotice]
    split
    · exact bufferFits_beginFrame _ _ hs
    · split
      · exact hs
      · split <;> exact hs

theorem bufferFits_run (c : Instr) (hc : ∃ b ∈ [Block.buffer], b ∈ touches c) (hu : ∀ n, c ≠ .managementUnitStart n)
    (hs : BufferFits 8 s) : BufferFits 8 (run c s) := by
  obtain ⟨b, hb, hc⟩ := hc
  obtain rfl := List.mem_singleton.mp hb
  cases c with
  | managementUnitStart n => exact absurd rfl (hu n)
  | powerOnReset gp => exact bufferFits_reads.keeps (trainPresent_only (defaults gp s)) (by decide) (Nat.zero_le 8)
  | lineReset gp =>
    exact bufferFits_reads.keeps (trainPresent_only ((defaults gp s).setIntake (keptIdentity s.intake))) (by decide)
      (Nat.zero_le 8)
  | hold tag scope =>
    simp only [run, doHold]
    split
    · exact hs
    · next wall light _ =>
      refine bufferFits_reads.keeps (m := [.canvas, .mgmt]) (s := if wall = true then holdWall s else s) ?_ (by decide) ?_
      · cases light <;> simp
      · split
        · unfold holdWall
          split
          · exact hs
          · exact bufferFits_abandonFrame (bufferFits_reads.keeps (m := [.canvas, .mgmt]) (by simp) (by decide) hs)
        · exact hs
  | flushInputs tag => exact Nat.zero_le 8
  | frameBoundary gp o => exact bufferFits_frameBoundary gp o hs
  | mappingUnitTake =>
    simp only [run, takeUnit]
    split
    · next u rest _ hb =>
      have hrest : BufferFits 8 (s.setIntake { s.intake with buffer := rest }) := by
        rw [BufferFits, hb, List.length_cons] at hs
        exact Nat.le_of_succ_le hs
      exact bufferFits_reads.keeps (m := [.canvas, .ports, .accumulation, .draws]) (by simp) (by decide) hrest
    · exact hs
    · exact hs
  | unitReceived tick payload crc =>
    have hquiet : ∀ {u v : State}, BufferFits 8 u → OnlyChanges [.now, .lane, .slot, .intake, .merge, .mgmt] u v →
        BufferFits 8 v := fun hu h => bufferFits_reads.keeps h (by decide) hu
    simp only [run, receiveUnit]
    split
    · split
      · have hbegun : BufferFits 8 ((advanceTo tick s).setIntake { (advanceTo tick s).intake with framer := .hunt false }) := hs
        simp only [completeUnit]
        generalize (advanceTo tick s).setIntake { (advanceTo tick s).intake with framer := .hunt false } = v at hbegun
        split
        · exact hbegun
        · split
          · unfold classify
            split
            · exact hbegun
            · split
              · exact hbegun
              · split
                · unfold enterLane
                  split
                  · exact hquiet hbegun (by simp)
                  · exact bufferFits_joinBuffer _ hbegun
                  · exact hquiet hbegun (by simp)
                  · exact hbegun
                  · exact hbegun
                · exact hbegun
          · exact hbegun
      · exact hs
    · exact hs
  | _ => simp [touches] at hc

end

/-- The lane holds 8 units or fewer. -/
def LaneFits (s : State) : Prop := s.intake.lane.length ≤ 8

theorem laneFits_reads : Reads [.lane] LaneFits := fun s t h hs => by
  have hb : t.intake.lane = s.intake.lane := h .lane (by simp)
  rw [LaneFits, hb]
  exact hs

theorem laneFits_joinLane {s : State} (payload : List Byte) (hs : LaneFits s) : LaneFits (joinLane payload s) := by
  simp only [joinLane]
  split
  · next hroom =>
    have hsettle : ∀ u, LaneFits u → LaneFits (settleEngine u) := fun u =>
      laneFits_reads.keeps (m := [.mgmt]) (by simp) (by decide)
    refine hsettle _ ?_
    rw [LaneFits, State.setIntake_intake, List.length_append, List.length_singleton]
    exact hroom
  · exact hs

theorem laneFits_run (c : Instr) {s : State} (hc : ∃ b ∈ [Block.lane], b ∈ touches c) (hu : ∀ n, c ≠ .managementUnitStart n)
    (hs : LaneFits s) : LaneFits (run c s) := by
  obtain ⟨b, hb, hc⟩ := hc
  obtain rfl := List.mem_singleton.mp hb
  cases c with
  | managementUnitStart n => exact absurd rfl (hu n)
  | powerOnReset gp => exact laneFits_reads.keeps (trainPresent_only (defaults gp s)) (by decide) (Nat.zero_le 8)
  | lineReset gp =>
    exact laneFits_reads.keeps (trainPresent_only ((defaults gp s).setIntake (keptIdentity s.intake))) (by decide)
      (Nat.zero_le 8)
  | unitReceived tick payload crc =>
    simp only [run, receiveUnit]
    split
    · split
      · have hbegun : LaneFits ((advanceTo tick s).setIntake { (advanceTo tick s).intake with framer := .hunt false }) := hs
        simp only [completeUnit]
        generalize (advanceTo tick s).setIntake { (advanceTo tick s).intake with framer := .hunt false } = v at hbegun
        split
        · exact hbegun
        · split
          · unfold classify
            split
            · exact hbegun
            · split
              · exact hbegun
              · split
                · unfold enterLane
                  split
                  · exact laneFits_joinLane _ hbegun
                  · exact laneFits_reads.keeps (m := [.canvas, .buffer, .intake, .accumulation, .mgmt]) (by simp) (by decide)
                      hbegun
                  · exact laneFits_reads.keeps (m := [.intake, .merge]) (by simp) (by decide) hbegun
                  · exact hbegun
                  · exact hbegun
                · exact hbegun
          · exact hbegun
      · exact hs
    · exact hs
  | _ => simp [touches] at hc

/-! ### The reply FIFOs (R170) -/

/-- A FIFO of 2 entries or fewer, of 4 to 16 characters each. -/
def FifoFits (x : FixturePort) : Prop :=
  x.fifo.length ≤ 2 ∧ ∀ e ∈ x.fifo, 4 ≤ e.chars.length ∧ e.chars.length ≤ 16

def FifosFit (s : State) : Prop := ∀ p, FifoFits (s.fixturePort p)

theorem fifosFit_reads : Reads [.fixture] FifosFit := fun s t h hs p => by
  have hf : t.fixture = s.fixture := h .fixture (by simp)
  rw [State.fixturePort, hf]
  exact hs p

theorem FifoFits.congr {x y : FixturePort} (h : FifoFits x) (hf : y.fifo = x.fifo) : FifoFits y := by
  unfold FifoFits
  rw [hf]
  exact h

theorem FifoFits.joinFifo {x : FixturePort} (h : FifoFits x) (f : RxFrame) : FifoFits (joinFifo f x) := by
  simp only [Machine.joinFifo]
  split
  · exact h
  · next hlength =>
    split
    · next hroom =>
      refine ⟨by simpa using hroom, fun e he => ?_⟩
      rcases List.mem_append.mp he with he | he
      · exact h.2 e he
      · rw [List.mem_singleton.mp he, List.length_map]
        omega
    · exact h

theorem fifo_takeWork (now : Nat) (x : FixturePort) : (takeWork now x).fifo = x.fifo := by
  unfold takeWork
  repeat' split
  all_goals rfl

section
variable {s : State} (p : Fin 2)

theorem fifosFit_of_fixture {s t : State} {p : Fin 2} {x : FixturePort} (hs : FifosFit s) (h : t.fixture = s.fixture.set p x)
    (hx : FifoFits x) : FifosFit t := fun q => by
  rw [fixturePort_of_fixture h]
  split
  · exact hx
  · exact hs q

theorem fifosFit_setFixturePort (hs : FifosFit s) {x : FixturePort} (hx : FifoFits x) : FifosFit (s.setFixturePort p x) :=
  fifosFit_of_fixture hs (setFixturePort_fixture p s x) hx

theorem fifosFit_shiftNext (hs : FifosFit s) : FifosFit (shiftNext p s) :=
  fifosFit_setFixturePort p hs ((hs p).congr (fifo_takeWork _ _))

theorem fifosFit_answerQuery (result : Result) (body : List Byte) (hs : FifosFit s) :
    FifosFit (answerQuery p result body s) := by
  cases hq : (s.fixturePort p).query with
  | none => rwa [answerQuery_of_none p s result body hq]
  | some q =>
    rw [answerQuery_of_some p s result body hq]
    exact fifosFit_reads.keeps (m := [.mgmt]) (by simp) (by decide)
      (fifosFit_setFixturePort p (x := (s.fixturePort p).freed) hs ((hs p).congr rfl))

theorem fifosFit_closeWithoutReply (hs : FifosFit s) : FifosFit (closeWithoutReply p s) :=
  fifosFit_answerQuery p _ _ (fifosFit_setFixturePort p hs ((hs p).congr rfl))

theorem fifosFit_endRxFrame (hs : FifosFit s) : FifosFit (endRxFrame p s) := by
  have hjoin : ∀ f u, FifosFit u → FifosFit (u.setFixturePort p (joinFifo f (u.fixturePort p))) := fun f u hu =>
    fifosFit_setFixturePort p hu ((hu p).joinFifo f)
  have hrx : FifosFit (s.setFixturePort p { s.fixturePort p with rx := none }) :=
    fifosFit_setFixturePort p hs ((hs p).congr rfl)
  unfold endRxFrame
  split
  · exact hs
  · dsimp only
    split
    · exact hjoin _ _ hrx
    · split
      · split
        · simp only [takeReply]
          split <;> exact fifosFit_answerQuery p _ _ (fifosFit_setFixturePort p hrx ((hrx p).congr rfl))
        · simp only [passFrame]
          split
          · exact fifosFit_closeWithoutReply p (hjoin _ _ hrx)
          · exact hjoin _ _ hrx
      · exact hjoin _ _ hrx

theorem fifosFit_endShifterFrame (hs : FifosFit s) : FifosFit (endShifterFrame p s) := by
  have hset : ∀ k x, x.fifo = (s.fixturePort p).fifo → FifosFit ((advanceTo k s).setFixturePort p x) := fun k x hx =>
    fifosFit_setFixturePort p (s := advanceTo k s) hs ((hs p).congr hx)
  simp only [endShifterFrame]
  split
  · exact hs
  · exact fifosFit_shiftNext p (hset _ _ rfl)
  · exact fifosFit_shiftNext p (hset _ _ rfl)
  · exact fifosFit_shiftNext p (hset _ _ rfl)

theorem fifosFit_enablePortTo (enable : Bool) (hs : FifosFit s) : FifosFit (enablePortTo p enable s) := by
  unfold enablePortTo
  split
  · exact hs
  · split
    · exact fifosFit_setFixturePort p hs ((hs p).congr rfl)
    · have hcut : FifosFit (cutFrame p s) := by
        refine fifosFit_of_fixture hs (cutFrame_fixture p s) ((hs p).congr ?_)
        unfold FixturePort.cut
        split
        · rfl
        · split <;> rfl
      have hanswer := fifosFit_answerQuery p .noReply [] hcut
      exact fifosFit_setFixturePort p hanswer ((hanswer p).congr rfl)

end

theorem fifosFit_frameBoundary (gp : Tab 4 Bool) (o : CommitOrder) (s : State) : FifosFit (frameBoundary gp o s) := fun p => by
  obtain ⟨slots, hport⟩ := frameBoundary_fixturePort gp o s p
  rw [hport]
  exact ⟨Nat.zero_le 2, nofun⟩

theorem fifosFit_reset (gp : Tab 4 Bool) (s : State) : FifosFit (defaults gp s) := fun p => by
  simp [FifoFits, State.fixturePort, defaults, State.reset, FixturePort.reset]

theorem fifosFit_run (c : Instr) {s : State} (hc : ∃ b ∈ [Block.fixture], b ∈ touches c) (hu : ∀ n, c ≠ .managementUnitStart n)
    (hs : FifosFit s) : FifosFit (run c s) := by
  obtain ⟨b, hb, hc⟩ := hc
  obtain rfl := List.mem_singleton.mp hb
  have hanswer : ∀ u tag code result body, FifosFit u → FifosFit (answer tag code result body u) :=
    fun u tag code result body => fifosFit_reads.keeps (m := [.mgmt]) (by simp) (by decide)
  cases c with
  | managementUnitStart n => exact absurd rfl (hu n)
  | powerOnReset gp => exact fifosFit_reads.keeps (trainPresent_only (defaults gp s)) (by decide) (fifosFit_reset gp s)
  | lineReset gp =>
    exact fifosFit_reads.keeps (trainPresent_only ((defaults gp s).setIntake (keptIdentity s.intake))) (by decide)
      (fifosFit_reset gp s)
  | frameBoundary gp o => exact fifosFit_frameBoundary gp o s
  | setFixturePort tick tag port enable rate divisor =>
    simp only [run, doSetFixturePort]
    split
    · next p r _ _ =>
      split
      · exact hanswer _ _ _ _ _ (fifosFit_enablePortTo p _ (fifosFit_setFixturePort p (s := advanceTo tick s) hs
          ((hs p).congr rfl)))
      · exact hs
    · exact hs
  | queryFixture tick tag port address kind =>
    simp only [run, doQueryFixture]
    split
    · next p k _ _ =>
      repeat' split
      case isFalse => exact fifosFit_shiftNext p (fifosFit_setFixturePort p (s := advanceTo tick s) hs ((hs p).congr rfl))
      all_goals exact hs
    · exact hs
  | clearStatus tag block mask =>
    simp only [run, doClearStatus, clearFlags]
    repeat' split
    case h_7 =>
      intro p
      change FifoFits ((s.fixture.mapFin (clearFixture mask)).get p)
      rw [Tab.get_mapFin]
      exact (hs p).congr rfl
    all_goals exact hs
  | clearCounters tag block =>
    simp only [run, doClearCounters, clearBlock]
    repeat' split
    case h_9 =>
      intro p
      change FifoFits ((s.fixture.map _).get p)
      rw [Tab.get_map]
      exact (hs p).congr rfl
    all_goals exact hs
  | fixtureRefresh p =>
    simp only [run, refreshLatch]
    split
    · exact fifosFit_shiftNext p (fifosFit_setFixturePort p hs ((hs p).congr rfl))
    · exact hs
  | fixtureCharacter p data parity line =>
    simp only [run, receiveCharacter]
    split
    · exact fifosFit_setFixturePort p hs ((hs p).congr rfl)
    · exact hs
  | shifterFrameEnd p => exact fifosFit_endShifterFrame p hs
  | fixtureFrameEnd p => exact fifosFit_endRxFrame p hs
  | replyWindowClose p =>
    simp only [run, closeWindow]
    repeat' split
    · exact hs
    · exact hs
    · exact hs
    · exact hs
    · exact fifosFit_setFixturePort p (s := advanceTo _ s) hs ((hs p).congr rfl)
    · exact fifosFit_closeWithoutReply p (s := advanceTo _ s) hs
  | _ => simp [touches] at hc

theorem laneFits_step {s t : State} (h : step s = .next t) (hs : LaneFits s) : LaneFits t := by
  have hkept : ∀ {m : List Block} {u v : State}, OnlyChanges m u v → .lane ∉ m → LaneFits u → LaneFits v :=
    fun ho hl hu => laneFits_reads.keeps ho (by simpa using hl) hu
  refine step_keeps (P := LaneFits) (fun u l => hkept (m := [.pending]) (by simp) (by decide))
    (fun u => hkept (m := [.mgmt]) (by simp) (by decide)) (fun u n => hkept (m := [.now]) (by simp) (by decide))
    (fun u tag code => hkept (m := [.mgmt]) (by simp) (by decide)) (fun u x rest hl hu => ?_) (fun c u hc hu => ?_) h hs
  · rw [LaneFits, hl, List.length_cons] at hu
    exact Nat.le_of_succ_le hu
  · by_cases hl : .lane ∈ touches c
    · exact laneFits_run c ⟨.lane, by simp, hl⟩ hc hu
    · exact hkept (run_only c hc u) hl hu

theorem lanesSound_step {s t : State} (h : step s = .next t) (hs : LanesSound s) : LanesSound t := by
  obtain ⟨hlane, hbuffer, hfifo⟩ := hs
  exact ⟨laneFits_step h hlane,
    bufferFits_reads.step_keeps (by decide) (by simp) (fun c _ hc hu => bufferFits_run c hc hu) h hbuffer,
    fifosFit_reads.step_keeps (by decide) (by simp) (fun c _ hc hu => fifosFit_run c hc hu) h hfifo⟩

/-! ### The intake (sections 1.2 to 1.5) -/

/-- What `IntakeSound` says of the intake alone. -/
def IntakeOk (x : Intake) : Prop :=
  1 ≤ x.inUse ∧ x.inUse ≤ 16 ∧ (x.locked = true ↔ x.unitAddress ≠ 0) ∧
    (∀ i, 0x20 ≤ (x.label.get i).toNat ∧ (x.label.get i).toNat ≤ 0x7E) ∧
    (x.link = .down → x.framer = .hunt false) ∧
    (∀ streamId address length, x.framer = .body streamId address length → 4 ≤ length ∧ length ≤ 8192)

/-- A report stands cut off only while the link is down, in the queue. -/
def CutSound (s : State) : Prop := s.mgmt.cut = true → s.intake.link = .down ∧ s.mgmt.queue ≠ []

theorem intakeSound_iff (s : State) : IntakeSound s ↔ IntakeOk s.intake ∧ CutSound s := by
  simp only [IntakeSound, IntakeOk, CutSound, and_assoc]

theorem IntakeOk.congr {x y : Intake} (h : IntakeOk x) (hxy : y.unlaned = x.unlaned) : IntakeOk y := by
  obtain ⟨hlink, hframer, haddress, hlocked, hlabel, hinUse, -⟩ := (Intake.unlaned_eq_iff _ _).mp hxy
  rw [IntakeOk, hlink, hframer, haddress, hlocked, hlabel, hinUse]
  exact h

section
variable {n : Nat} {s t : State}

/-- The intake keeps its facts, and what stands cut off stays in the queue. -/
theorem IntakeSound.of_quiet (hs : IntakeSound s) (hok : IntakeOk t.intake) (hlink : t.intake.link = s.intake.link)
    (hcut : t.mgmt.cut = s.mgmt.cut) (hqueue : s.mgmt.queue.length ≤ t.mgmt.queue.length) : IntakeSound t := by
  refine (intakeSound_iff t).mpr ⟨hok, fun hc => ?_⟩
  obtain ⟨hdown, hne⟩ := ((intakeSound_iff s).mp hs).2 (hcut ▸ hc)
  refine ⟨hlink.trans hdown, fun hnil => hne (List.eq_nil_of_length_eq_zero ?_)⟩
  rw [hnil] at hqueue
  exact Nat.le_zero.mp hqueue

/-- Where the intake stands, but for its lanes. -/
theorem IntakeSound.of_owes (hs : IntakeSound s) (h : Owes n s t) (hintake : t.intake.unlaned = s.intake.unlaned) :
    IntakeSound t :=
  hs.of_quiet (((intakeSound_iff s).mp hs).1.congr hintake) ((Intake.unlaned_eq_iff _ _).mp hintake).1 h.cut h.queue

/-- Where the intake alone changes, in what its facts do not name. -/
theorem IntakeSound.of_intake (hs : IntakeSound s) {x : Intake} (hok : IntakeOk x) (hlink : x.link = s.intake.link) :
    IntakeSound (s.setIntake x) := hs.of_quiet hok hlink rfl le_rfl

theorem intakeSound_settleEngine (hs : IntakeSound s) : IntakeSound (settleEngine s) := by
  obtain ⟨stalled, stalls, he, -⟩ := settleEngine_cases s
  rw [he]
  exact hs

theorem intakeSound_hunt (held : Bool) (b : Byte) {x : Intake} (hup : x.link = .up) (h : IntakeOk x) :
    IntakeOk (hunt held b x) ∧ (hunt held b x).link = x.link := by
  obtain ⟨h1, h2, h3, h4, h5, h6⟩ := h
  have hother : ∀ f : Framer, (∀ a b c, f ≠ .body a b c) → IntakeOk { x with framer := f } := fun f hf =>
    ⟨h1, h2, h3, h4, fun hd => absurd (hup.symm.trans hd) (by decide), fun a b c he => absurd he (hf a b c)⟩
  have hsame : IntakeOk x := ⟨h1, h2, h3, h4, h5, h6⟩
  unfold hunt
  repeat' split
  · exact ⟨hother _ nofun, rfl⟩
  · exact ⟨hsame, rfl⟩
  · exact ⟨hother _ nofun, rfl⟩
  · exact ⟨hother _ nofun, rfl⟩
  · exact ⟨hsame, rfl⟩

theorem intakeSound_readHeader (streamId address length : Nat) {x : Intake} (h : IntakeOk x) :
    IntakeOk (readHeader streamId address length x) ∧ (readHeader streamId address length x).link = x.link := by
  unfold readHeader
  split
  · next hup _ =>
    have hdown : x.link ≠ .down := by rw [hup]; decide
    obtain ⟨h1, h2, h3, h4, h5, h6⟩ := h
    split
    · next hl =>
      refine ⟨⟨h1, h2, h3, h4, fun hd => absurd hd hdown, fun a b c he => ?_⟩, rfl⟩
      obtain ⟨-, -, rfl⟩ := Framer.body.inj he
      exact hl
    · exact ⟨⟨h1, h2, h3, h4, fun _ => rfl, nofun⟩, rfl⟩
  · exact ⟨h, rfl⟩

theorem intakeSound_joinBuffer (u : PictureUnit) (hs : IntakeSound s) : IntakeSound (joinBuffer u s) := by
  have howes := owes_joinBuffer (s := s) u
  suffices h : IntakeOk (joinBuffer u s).intake ∧ (joinBuffer u s).intake.link = s.intake.link from
    hs.of_quiet h.1 h.2 howes.cut howes.queue
  have hok := ((intakeSound_iff s).mp hs).1
  have hquiet : ∀ v, OnlyChanges [.canvas, .buffer, .accumulation, .mgmt] s v →
      IntakeOk v.intake ∧ v.intake.link = s.intake.link := fun v h =>
    ⟨hok.congr (h.unlaned rfl), ((Intake.unlaned_eq_iff _ _).mp (h.unlaned rfl)).1⟩
  unfold joinBuffer
  split
  · exact hquiet (trackUnit u s).2 (by simp)
  · have hcount : ∀ x : Intake, IntakeOk x → x.link = s.intake.link →
        IntakeOk (lossNotice u.frame (s.setIntake x)).intake ∧
          (lossNotice u.frame (s.setIntake x)).intake.link = s.intake.link := fun x hx hlink => by
      have h : OnlyChanges [.canvas, .buffer, .accumulation, .mgmt] (s.setIntake x) (lossNotice u.frame (s.setIntake x)) := by
        simp
      exact ⟨IntakeOk.congr hx (h.unlaned rfl), ((Intake.unlaned_eq_iff _ _).mp (h.unlaned rfl)).1.trans hlink⟩
    exact hcount _ hok rfl

theorem intakeSound_receiveUnit (tick : Nat) (payload : List Byte) (crc : BitVec 32) (hs : IntakeSound s) :
    IntakeSound (receiveUnit tick payload crc s) := by
  unfold receiveUnit
  split
  · next hup _ =>
    split
    · obtain ⟨h1, h2, h3, h4, h5, h6⟩ := ((intakeSound_iff s).mp hs).1
      have hbegun : IntakeSound ((advanceTo tick s).setIntake { (advanceTo tick s).intake with framer := .hunt false }) :=
        hs.of_quiet ⟨h1, h2, h3, h4, fun _ => rfl, nofun⟩ rfl rfl le_rfl
      simp only [completeUnit]
      generalize (advanceTo tick s).setIntake { (advanceTo tick s).intake with framer := .hunt false } = v at hbegun
      have hok := ((intakeSound_iff v).mp hbegun).1
      split
      · exact hbegun.of_intake hok rfl
      · split
        · unfold classify
          split
          · exact hbegun.of_intake hok rfl
          · split
            · exact hbegun.of_intake hok rfl
            · split
              · unfold enterLane
                split
                · simp only [joinLane]
                  split
                  · exact intakeSound_settleEngine (hbegun.of_intake hok rfl)
                  · exact hbegun.of_intake hok rfl
                · exact intakeSound_joinBuffer _ hbegun
                · simp only [writeLevelUnit]
                  split <;> exact hbegun.of_intake hok rfl
                · exact hbegun.of_intake hok rfl
                · exact hbegun
              · exact hbegun.of_intake hok rfl
        · exact hbegun.of_intake hok rfl
    · exact hs
  · exact hs

theorem intakeOk_setIdentity {x : Intake} (h : IntakeOk x) {address : Nat} {label : List Byte} (h0 : address ≠ 0)
    (h255 : address ≤ 255) (hl : labelOk label = true) (hlen : label.length = 16) :
    IntakeOk { x with unitAddress := BitVec.ofNat 8 address, locked := true, label := Tab.ofList 16 0x20 label } := by
  obtain ⟨h1, h2, -, -, h5, h6⟩ := h
  refine ⟨h1, h2, ⟨fun _ => ?_, fun _ => rfl⟩, fun i => ?_, h5, h6⟩
  · intro he
    have hzero : address % 256 = 0 := by simpa using congrArg BitVec.toNat he
    omega
  · have hmem : (Tab.ofList 16 0x20 label).get i ∈ (Tab.ofList 16 0x20 label).data := List.getElem_mem _
    rw [ofList_data hlen] at hmem
    simpa [labelOk] using List.all_eq_true.mp hl _ hmem

theorem intakeOk_reset : IntakeOk Intake.reset := by
  refine ⟨by decide, by decide, by decide, fun i => ?_, fun _ => rfl, nofun⟩
  simp [Intake.reset]

theorem intakeSound_reset {x : Intake} (hx : IntakeOk x) {u : State} (hi : u.intake = x) (hm : u.mgmt = Mgmt.reset) :
    IntakeSound (trainPresent u) := by
  have hu : IntakeSound u := (intakeSound_iff u).mpr ⟨hi ▸ hx, fun hc => by rw [hm] at hc; cases hc⟩
  have ho := trainPresent_only u
  exact hu.of_owes (Owes.refl.ports (tells_trainPresent (by decide) .refl) (disables_trainPresent (disables_self u))
    (ho.banks rfl) (ho.fixture rfl)) (ho.unlaned rfl)

theorem intake_of_lane {c : Instr} (h : .lane ∈ touches c) : .intake ∈ touches c := by
  cases c <;> simp_all [touches]

theorem intakeSound_run (c : Instr) (hu : ∀ n, c ≠ .managementUnitStart n) (hs : IntakeSound s) : IntakeSound (run c s) := by
  have hok := ((intakeSound_iff s).mp hs).1
  have ho := run_only c hu s
  by_cases hrow : .intake ∉ touches c ∧ c ≠ .reportTransmitted
  · obtain ⟨hintake, hreport⟩ := hrow
    cases hc : isManagement c with
    | true => exact hs.of_owes (owes_management c hc s) (ho.unlaned (by simpa using hintake))
    | false =>
      refine hs.of_owes (owes_row c hc ?_ ⟨?_, ?_⟩ hreport s) (ho.unlaned (by simpa using hintake))
      · exact fun hl => hintake (intake_of_lane hl)
      · rintro rfl; simp [touches] at hintake
      · rintro rfl; simp [touches] at hintake
  · have hmanagement : isManagement c = true → IntakeOk (run c s).intake ∧ (run c s).intake.link = s.intake.link →
        IntakeSound (run c s) := fun hc h =>
      hs.of_quiet h.1 h.2 (owes_management c hc s).cut (owes_management c hc s).queue
    cases c with
    | managementUnitStart n => exact absurd rfl (hu n)
    | powerOnReset gp => exact intakeSound_reset (u := defaults gp s) intakeOk_reset rfl rfl
    | lineReset gp =>
      refine intakeSound_reset (u := (defaults gp s).setIntake (keptIdentity s.intake)) ?_ rfl rfl
      obtain ⟨-, -, h3, h4, -⟩ := hok
      exact ⟨intakeOk_reset.1, intakeOk_reset.2.1, h3, h4, fun _ => rfl, nofun⟩
    | reportTransmitted =>
      simp only [run, sendReport]
      split
      · next hup _ =>
        refine intakeSound_settleEngine ((intakeSound_iff _).mpr ⟨hok, ?_⟩)
        exact fun hc => by cases hc
      · exact hs
      · exact hs
    | linkUp =>
      simp only [run, linkUp]
      split
      · exact hs
      · obtain ⟨h1, h2, h3, h4, -, -⟩ := hok
        refine (intakeSound_iff _).mpr ⟨⟨h1, h2, h3, h4, nofun, nofun⟩, fun hc => ?_⟩
        unfold Mgmt.linkReturns at hc
        split at hc <;> cases hc
    | linkDown =>
      simp only [run, linkDown]
      split
      · exact hs
      · obtain ⟨h1, h2, h3, h4, -, -⟩ := hok
        refine (intakeSound_iff _).mpr ⟨⟨h1, h2, h3, h4, fun _ => rfl, nofun⟩, fun hc => ⟨rfl, fun hq => ?_⟩⟩
        have hq' : s.mgmt.queue = [] := hq
        simp [hq'] at hc
    | huntByte b =>
      simp only [run, huntByte]
      split
      · next hup _ =>
        obtain ⟨hx, hl⟩ := intakeSound_hunt _ b hup hok
        exact hs.of_intake hx hl
      · exact hs
    | headerReceived streamId address length =>
      obtain ⟨hx, hl⟩ := intakeSound_readHeader streamId address length hok
      exact hs.of_intake hx hl
    | unitReceived tick payload crc => exact intakeSound_receiveUnit tick payload crc hs
    | setIdentity tag address label =>
      refine hmanagement rfl ?_
      simp only [run, doSetIdentity]
      split
      · exact ⟨hok, rfl⟩
      · next hlen =>
        split
        · exact ⟨hok, rfl⟩
        · split
          · exact ⟨hok, rfl⟩
          · next hrange =>
            simp only [not_or, not_lt, Bool.not_eq_false] at hrange
            exact ⟨intakeOk_setIdentity hok hrange.1 hrange.2.1 hrange.2.2 (by simpa using hlen), rfl⟩
    | setFilter tag index value mask cls source =>
      refine hmanagement rfl ?_
      simp only [run, doSetFilter]
      split <;> exact ⟨hok, rfl⟩
    | setFiltersInUse tag count =>
      refine hmanagement rfl ?_
      simp only [run, doSetFiltersInUse]
      split
      · next h => exact ⟨⟨h.1, h.2, hok.2.2⟩, rfl⟩
      · exact ⟨hok, rfl⟩
    | clearStatus tag block mask =>
      refine hmanagement rfl ?_
      simp only [run, doClearStatus, clearFlags]
      repeat' split
      all_goals exact ⟨hok, rfl⟩
    | clearCounters tag block =>
      refine hmanagement rfl ?_
      simp only [run, doClearCounters, clearBlock]
      repeat' split
      all_goals exact ⟨hok, rfl⟩
    | _ => exact absurd ⟨by simp [touches], nofun⟩ hrow

theorem intakeSound_step (h : step s = .next t) (hs : IntakeSound s) : IntakeSound t :=
  step_keeps (P := IntakeSound) (fun _ _ hu => hu) (fun _ => intakeSound_settleEngine) (fun _ _ hu => hu)
    (fun _ tag code hu => hu.of_owes (owes_malformed tag code) rfl) (fun _ _ _ _ hu => hu)
    (fun c _ hc hu => intakeSound_run c hc hu) h hs

end

/-- Settles O54: the places taken of the queue change as `Owes` says, and the engine is settled wherever it may stall. -/
theorem stepsKeepQueuesAndIntake : Obligations.StepsKeepQueuesAndIntake := fun _ _ h =>
  ⟨queueSound_step h, lanesSound_step h, intakeSound_step h⟩

end Sys2Proof.Machine
end

section
/-! SUPPORT. What the operations on the canvas make of the record, the unit being mapped, the waiting units and the
accumulation (sections 5.1 to 5.8). -/

namespace Sys2Proof.Machine

/-- The engine maps a unit. -/
def Canvas.maps (c : Canvas) : Bool := c.engine.any fun job => job.unit.mark.isMapping

theorem remark_eq (mark : UnitMark) :
    remark mark = fun u => if u.mark.isMapping then { u with mark := mark } else u := by
  funext u
  cases u with
  | mk picture mark' => cases mark' <;> rfl

theorem stopMapping_of_maps {count : State → State} {s : State} (h : s.canvas.maps = true) :
    stopMapping count s = count (s.setCanvas { s.canvas with engine := none }) := by
  unfold stopMapping
  cases he : s.canvas.engine with
  | none => simp [Canvas.maps, he] at h
  | some job =>
    obtain ⟨⟨picture, mark⟩, due, handed, begun⟩ := job
    cases mark with
    | mapping kept => rfl
    | _ => simp [Canvas.maps, he, UnitMark.isMapping] at h

theorem stopMapping_of_not_maps {count : State → State} {s : State} (h : s.canvas.maps = false) : stopMapping count s = s := by
  unfold stopMapping
  cases he : s.canvas.engine with
  | none => rfl
  | some job =>
    obtain ⟨⟨picture, mark⟩, due, handed, begun⟩ := job
    cases mark with
    | mapping kept => simp [Canvas.maps, he, UnitMark.isMapping] at h
    | _ => rfl

/-- The canvas without the unit being mapped, which counts as unassigned (R81). -/
def Canvas.unmapped (c : Canvas) : Canvas :=
  { c with
    engine := if c.maps then none else c.engine
    counters := { c.counters with
      unassignedUnits := if c.maps then bump c.counters.unassignedUnits else c.counters.unassignedUnits } }

/-- The canvas without the unit being mapped, which counts as late (R83). -/
def Canvas.mappedLate (c : Canvas) : Canvas :=
  { c with
    engine := if c.maps then none else c.engine
    counters := { c.counters with lateUnits := if c.maps then bump c.counters.lateUnits else c.counters.lateUnits } }

theorem Canvas.unmapped_of_not_maps {c : Canvas} (h : c.maps = false) : c.unmapped = c := by
  rw [Canvas.unmapped, h]; rfl

theorem Canvas.mappedLate_of_not_maps {c : Canvas} (h : c.maps = false) : c.mappedLate = c := by
  rw [Canvas.mappedLate, h]; rfl

theorem stopMapping_unassigned (s : State) : stopMapping countUnassigned s = s.setCanvas s.canvas.unmapped := by
  cases h : s.canvas.maps with
  | true => rw [stopMapping_of_maps h]; simp [Canvas.unmapped, h, countUnassigned]
  | false => rw [stopMapping_of_not_maps h, Canvas.unmapped_of_not_maps h, State.setCanvas_self]

theorem stopMapping_late (s : State) : stopMapping countLate s = s.setCanvas s.canvas.mappedLate := by
  cases h : s.canvas.maps with
  | true => rw [stopMapping_of_maps h]; simp [Canvas.mappedLate, h, countLate]
  | false => rw [stopMapping_of_not_maps h, Canvas.mappedLate_of_not_maps h, State.setCanvas_self]

/-- The waiting units that were marked for mapping, marked anew. -/
def remarked (mark : UnitMark) (units : List BufferedUnit) : List BufferedUnit :=
  units.map fun u => if u.mark.isMapping then { u with mark := mark } else u

theorem remarkBuffer_eq (mark : UnitMark) (s : State) :
    remarkBuffer mark s = s.setIntake { s.intake with buffer := remarked mark s.intake.buffer } := by
  rw [remarkBuffer, remark_eq]; rfl

theorem giveUpFrame_eq (s : State) : giveUpFrame s =
    ((s.setCanvas s.canvas.unmapped).setIntake { s.intake with buffer := remarked .unassigned s.intake.buffer }).setLimiter
      { s.limiter with accumulation := none } := by
  rw [giveUpFrame, remarkBuffer_eq, stopMapping_unassigned]; rfl

theorem isOpenRecord_iff (s : State) : isOpenRecord s = true ↔ ∃ r, s.canvas.record = some r ∧ r.state = .isOpen := by
  unfold isOpenRecord
  cases s.canvas.record with
  | none => simp
  | some r => simp

theorem abandonFrame_of_open {s : State} {r : FrameRecord} (hr : s.canvas.record = some r) (ho : r.state = .isOpen) :
    abandonFrame s = ((s.setCanvas { s.canvas.unmapped with
        record := some { r with state := .abandoned }
        counters := { s.canvas.unmapped.counters with framesAbandoned := bump s.canvas.counters.framesAbandoned } }).setIntake
      { s.intake with buffer := remarked .unassigned s.intake.buffer }).setLimiter
      { s.limiter with accumulation := none } := by
  simp only [abandonFrame, hr, if_pos ho, giveUpFrame_eq]
  rfl

theorem abandonFrame_of_not_open {s : State} (h : isOpenRecord s = false) : abandonFrame s = s := by
  unfold abandonFrame
  split
  · rfl
  · next r hr =>
    refine if_neg fun ho => ?_
    rw [(isOpenRecord_iff s).mpr ⟨r, hr, ho⟩] at h
    cases h

theorem supersedeFrame_of_open {s : State} (h : isOpenRecord s = true) : supersedeFrame s =
    ((s.setCanvas { s.canvas.unmapped with
        counters := { s.canvas.unmapped.counters with framesSuperseded := bump s.canvas.counters.framesSuperseded } }).setIntake
      { s.intake with buffer := remarked .unassigned s.intake.buffer }).setLimiter { s.limiter with accumulation := none } := by
  simp only [supersedeFrame, h, if_true, giveUpFrame_eq]
  rfl

theorem supersedeFrame_of_not_open {s : State} (h : isOpenRecord s = false) : supersedeFrame s = s := by
  simp [supersedeFrame, h]

theorem presentFrame_of_open {s : State} {r : FrameRecord} (hr : s.canvas.record = some r) (ho : r.state = .isOpen) :
    presentFrame s = (s.setCanvas { s.canvas.mappedLate with
        record := some { r with state := .closed }
        notice := some ⟨r.number, r.assigned.getD 0⟩
        frameDamaged := s.canvas.frameDamaged || isDamaged s.activeBank r
        counters := { s.canvas.mappedLate.counters with
          framesPresented := bump s.canvas.counters.framesPresented
          framesDamaged := bumpIf (isDamaged s.activeBank r) s.canvas.counters.framesDamaged } }).setIntake
      { s.intake with buffer := remarked .late s.intake.buffer } := by
  simp only [presentFrame, hr, if_pos ho, remarkBuffer_eq, stopMapping_late]
  rfl

theorem presentFrame_of_not_open {s : State} (h : isOpenRecord s = false) :
    presentFrame s = s.setCanvas { s.canvas with notice := none } := by
  unfold presentFrame
  split
  · rfl
  · next r hr =>
    refine if_neg fun ho => ?_
    rw [(isOpenRecord_iff s).mpr ⟨r, hr, ho⟩] at h
    cases h

end Sys2Proof.Machine
end

section
/-! PROOFS. Every step keeps the canvas: no OPEN frame under a hold, nothing mapped of another frame (R78 to R89). -/

namespace Sys2Proof.Machine

/-! ### The invariant by parts -/

/-- The number of the OPEN frame. -/
def Canvas.openNumber (c : Canvas) : Option (BitVec 16) :=
  c.record.bind fun r => if r.state = .isOpen then some r.number else none

/-- What `MarkSound` says of a unit, by the number of the OPEN frame. -/
def MarkOk (o : Option (BitVec 16)) (u : BufferedUnit) : Prop :=
  ∀ kept, u.mark = .mapping kept → kept ≤ u.picture.pixels.length ∧ o = some u.picture.frame

/-- What `CanvasSound` says of the record and the auto hold. -/
def RecordOk (c : Canvas) : Prop :=
  (∀ r, c.record = some r → r.lines.Pairwise (· < ·) ∧
    (r.state = .isOpen → r.assigned ≠ none ∧ c.assignedNow = true ∧ wallHeld c = false)) ∧
  c.autoCount ≤ 2 ∧ (c.auto = true → c.autoCount = 2)

/-- What `CanvasSound` says of the waiting units and the unit in the engine. -/
def MarksOk (o : Option (BitVec 16)) (c : Canvas) (buffer : List BufferedUnit) : Prop :=
  (∀ u ∈ buffer, MarkOk o u) ∧ ∀ job, c.engine = some job → MarkOk o job.unit

theorem openNumber_eq_some_iff {c : Canvas} {number : BitVec 16} :
    c.openNumber = some number ↔ ∃ r, c.record = some r ∧ r.state = .isOpen ∧ number = r.number := by
  unfold Canvas.openNumber
  cases c.record with
  | none => simp
  | some r => by_cases h : r.state = .isOpen <;> simp [h, eq_comm]

theorem isOpenRecord_eq (s : State) : isOpenRecord s = s.canvas.openNumber.isSome := by
  rw [Bool.eq_iff_iff, isOpenRecord_iff, Option.isSome_iff_exists]
  exact ⟨fun ⟨r, hr, ho⟩ => ⟨r.number, openNumber_eq_some_iff.mpr ⟨r, hr, ho, rfl⟩⟩, fun ⟨n, hn⟩ =>
    let ⟨r, hr, ho, _⟩ := openNumber_eq_some_iff.mp hn
    ⟨r, hr, ho⟩⟩

theorem markSound_iff (s : State) (u : BufferedUnit) : MarkSound s u ↔ MarkOk s.canvas.openNumber u := by
  simp only [MarkSound, MarkOk, openNumber_eq_some_iff]

theorem canvasSound_iff (s : State) : CanvasSound s ↔ RecordOk s.canvas ∧
    s.limiter.accumulation.isSome = s.canvas.openNumber.isSome ∧ MarksOk s.canvas.openNumber s.canvas s.intake.buffer := by
  simp only [CanvasSound, RecordOk, MarksOk, markSound_iff, isOpenRecord_eq, and_assoc]

theorem canvasSound_reads : Reads [.canvas, .buffer, .accumulation] CanvasSound := fun s t h hs => by
  have hc : t.canvas = s.canvas := h .canvas (by simp)
  have hb : t.intake.buffer = s.intake.buffer := h .buffer (by simp)
  have ha : t.limiter.accumulation = s.limiter.accumulation := h .accumulation (by simp)
  rw [canvasSound_iff] at *
  rw [hc, hb, ha]
  exact hs

/-- The lines mapped rise, and the auto hold's count is in range. -/
def LooseOk (c : Canvas) : Prop :=
  (∀ r, c.record = some r → r.lines.Pairwise (· < ·)) ∧ c.autoCount ≤ 2 ∧ (c.auto = true → c.autoCount = 2)

theorem RecordOk.loose {c : Canvas} (h : RecordOk c) : LooseOk c := ⟨fun r hr => (h.1 r hr).1, h.2⟩

/-- A record that is not OPEN is under no condition but that of its lines. -/
theorem LooseOk.record {c : Canvas} (h : LooseOk c) (hopen : c.openNumber = none) : RecordOk c := by
  refine ⟨fun r hr => ⟨h.1 r hr, fun ho => ?_⟩, h.2⟩
  have hsome := openNumber_eq_some_iff.mpr ⟨r, hr, ho, rfl⟩
  rw [hopen] at hsome
  cases hsome

section
variable {o : Option (BitVec 16)} {c : Canvas} {units : List BufferedUnit}

theorem markOk_of_not_mapping {u : BufferedUnit} (h : u.mark.isMapping = false) : MarkOk o u := fun kept hk => by
  rw [hk] at h; cases h

/-- Once the unit being mapped is stopped and the waiting units are marked anew, nothing is marked for mapping. -/
theorem marksOk_remarked {mark : UnitMark} (hm : mark.isMapping = false) {d : Canvas}
    (hd : d.engine = if c.maps then none else c.engine) : MarksOk o d (remarked mark units) := by
  refine ⟨fun u hu => ?_, fun job hj => markOk_of_not_mapping ?_⟩
  · obtain ⟨v, -, rfl⟩ := List.mem_map.mp hu
    refine markOk_of_not_mapping ?_
    split
    · exact hm
    · next hv => simpa using hv
  · rw [hd] at hj
    cases hc : c.maps with
    | true => rw [hc] at hj; cases hj
    | false => rw [hc] at hj; simpa [Canvas.maps, show c.engine = some job from hj] using hc

/-- Without an OPEN frame nothing is marked for mapping, whatever frame is then OPEN. -/
theorem MarksOk.of_none (h : MarksOk none c units) {d : Canvas} (hd : d.engine = c.engine) : MarksOk o d units :=
  ⟨fun u hu kept hk => absurd (h.1 u hu kept hk).2 (by simp),
    fun job hj kept hk => absurd (h.2 job (hd ▸ hj) kept hk).2 (by simp)⟩

theorem MarksOk.engine (h : MarksOk o c units) {d : Canvas} (hd : d.engine = c.engine) : MarksOk o d units :=
  ⟨h.1, fun job hj => h.2 job (hd ▸ hj)⟩

end

/-! ### The operations -/

section
variable {s : State}

theorem openNumber_eq_none_iff (s : State) : s.canvas.openNumber = none ↔ isOpenRecord s = false := by
  rw [isOpenRecord_eq, Option.isSome_eq_false_iff, Option.isNone_iff_eq_none]

/-- The canvas changes in what the invariant says nothing of. -/
theorem CanvasSound.setCanvas (hs : CanvasSound s) {d : Canvas} (hrecord : RecordOk d)
    (hopen : d.openNumber = s.canvas.openNumber) (hengine : d.engine = s.canvas.engine) : CanvasSound (s.setCanvas d) := by
  obtain ⟨-, hacc, hmarks⟩ := (canvasSound_iff s).mp hs
  refine (canvasSound_iff _).mpr ⟨hrecord, ?_, ?_⟩
  · exact hacc.trans (by rw [← hopen]; rfl)
  · change MarksOk d.openNumber d s.intake.buffer
    rw [hopen]
    exact hmarks.engine hengine

/-- No frame is OPEN, no unit is marked for mapping, nothing is accumulated. -/
def Cleared (s : State) : Prop :=
  LooseOk s.canvas ∧ s.limiter.accumulation = none ∧ MarksOk none s.canvas s.intake.buffer

theorem Cleared.sound (h : Cleared s) (hopen : s.canvas.openNumber = none) : CanvasSound s := by
  obtain ⟨hloose, hacc, hmarks⟩ := h
  exact (canvasSound_iff s).mpr ⟨hloose.record hopen, by rw [hacc, hopen]; rfl, by rwa [hopen]⟩

/-- Whether the wall is held is no matter to a frame that is given up. -/
theorem canvasSound_abandonFrame (hloose : LooseOk s.canvas)
    (hacc : s.limiter.accumulation.isSome = s.canvas.openNumber.isSome)
    (hmarks : MarksOk s.canvas.openNumber s.canvas s.intake.buffer) : CanvasSound (abandonFrame s) := by
  cases ho : isOpenRecord s with
  | true =>
    obtain ⟨r, hr, hopen⟩ := (isOpenRecord_iff s).mp ho
    rw [abandonFrame_of_open hr hopen]
    refine Cleared.sound ⟨⟨fun r' hr' => ?_, hloose.2⟩, rfl, marksOk_remarked rfl rfl⟩ ?_
    · rw [← Option.some.inj hr']; exact hloose.1 r hr
    · simp [Canvas.openNumber]
  | false =>
    rw [abandonFrame_of_not_open ho]
    have hnone := (openNumber_eq_none_iff s).mpr ho
    exact (canvasSound_iff s).mpr ⟨hloose.record hnone, hacc, hmarks⟩

theorem cleared_supersedeFrame (hs : CanvasSound s) : Cleared (supersedeFrame s) := by
  obtain ⟨hrecord, hacc, hmarks⟩ := (canvasSound_iff s).mp hs
  cases ho : isOpenRecord s with
  | true =>
    rw [supersedeFrame_of_open ho]
    exact ⟨hrecord.loose, rfl, marksOk_remarked rfl rfl⟩
  | false =>
    rw [supersedeFrame_of_not_open ho]
    have hnone := (openNumber_eq_none_iff s).mpr ho
    rw [hnone] at hacc hmarks
    exact ⟨hrecord.loose, by simpa using hacc, hmarks⟩

theorem canvasSound_beginFrame (number : BitVec 16) (damaged : Bool) (hs : CanvasSound s) :
    CanvasSound (beginFrame number damaged s) := by
  obtain ⟨⟨-, hcount, hauto⟩, hacc, hmarks⟩ := cleared_supersedeFrame hs
  simp only [beginFrame]
  split
  · refine Cleared.sound ⟨⟨fun r hr => ?_, hcount, hauto⟩, hacc, hmarks.of_none rfl⟩ rfl
    rw [← Option.some.inj hr]
    exact List.Pairwise.nil
  · next hfree =>
    have hchange : OnlyChanges [.canvas, .mgmt] (supersedeFrame s)
        (changeWall .auto { (supersedeFrame s).canvas with auto := false } (supersedeFrame s)) := by simp
    have hcanvas := changeWall_canvas .auto { (supersedeFrame s).canvas with auto := false } (supersedeFrame s)
    refine (canvasSound_iff _).mpr ⟨⟨fun r hr => ?_, Nat.zero_le 2, fun ha => ?_⟩, rfl, ?_⟩
    · rw [← Option.some.inj hr]
      refine ⟨List.Pairwise.nil, fun _ => ⟨by simp, rfl, ?_⟩⟩
      change wallHeld { (changeWall _ _ _).canvas with .. } = false
      rw [hcanvas]
      simpa [wallHeld] using hfree
    · change (changeWall _ _ _).canvas.auto = true at ha
      rw [hcanvas] at ha
      cases ha
    · change MarksOk _ _ (changeWall _ _ _).intake.buffer
      rw [hchange.buffer rfl]
      refine hmarks.of_none ?_
      change (changeWall _ _ _).canvas.engine = _
      rw [hcanvas]

theorem beginFrame_number (number : BitVec 16) (damaged : Bool) (s : State) :
    (beginFrame number damaged s).canvas.record.map FrameRecord.number = some number := by
  simp only [beginFrame]
  split <;> rfl

theorem mem_insertLine {y z : Nat} {lines : List Nat} : z ∈ insertLine y lines ↔ z = y ∨ z ∈ lines := by
  induction lines with
  | nil => simp [insertLine]
  | cons x rest ih =>
    unfold insertLine
    split
    · exact List.mem_cons
    · split
      · next h => subst h; simp
      · rw [List.mem_cons, ih, List.mem_cons]; tauto

theorem sorted_insertLine {y : Nat} {lines : List Nat} (h : lines.Pairwise (· < ·)) : (insertLine y lines).Pairwise (· < ·) := by
  induction lines with
  | nil => simp [insertLine]
  | cons x rest ih =>
    obtain ⟨hx, hrest⟩ := List.pairwise_cons.mp h
    unfold insertLine
    split
    · next hlt =>
      refine List.pairwise_cons.mpr ⟨fun z hz => ?_, h⟩
      rcases List.mem_cons.mp hz with rfl | hz
      · exact hlt
      · exact hlt.trans (hx z hz)
    · split
      · exact h
      · refine List.pairwise_cons.mpr ⟨fun z hz => ?_, ih hrest⟩
        rcases mem_insertLine.mp hz with rfl | hz
        · omega
        · exact hx z hz

/-- The record changes, but not in what the invariant says of it. -/
theorem CanvasSound.setRecord (hs : CanvasSound s) {r r' : FrameRecord} (hr : s.canvas.record = some r) {d : Canvas}
    (hrecord : d.record = some r') (hlines : r'.lines.Pairwise (· < ·)) (hstate : r'.state = r.state)
    (hnumber : r'.number = r.number) (hassigned : r'.assigned = r.assigned) (hengine : d.engine = s.canvas.engine)
    (hheld : wallHeld d = wallHeld s.canvas) (hnow : d.assignedNow = s.canvas.assignedNow)
    (hauto : d.auto = s.canvas.auto) (hcount : d.autoCount = s.canvas.autoCount) : CanvasSound (s.setCanvas d) := by
  obtain ⟨⟨hopen, hautos⟩, -, -⟩ := (canvasSound_iff s).mp hs
  refine hs.setCanvas ⟨fun x hx => ?_, by rw [hcount]; exact hautos.1, by rw [hauto, hcount]; exact hautos.2⟩ ?_ hengine
  · obtain rfl := Option.some.inj (hrecord.symm.trans hx)
    refine ⟨hlines, fun ho => ?_⟩
    rw [hassigned, hnow, hheld]
    exact (hopen r hr).2 (hstate ▸ ho)
  · rw [Canvas.openNumber, Canvas.openNumber, hrecord, hr, Option.bind_some, Option.bind_some, hstate, hnumber]

theorem canvasSound_judgeUnit (u : PictureUnit) (hs : CanvasSound s)
    (hn : s.canvas.record.map FrameRecord.number = some u.frame) : CanvasSound (judgeUnit u s).2 ∧
      MarkOk (judgeUnit u s).2.canvas.openNumber ⟨u, (judgeUnit u s).1⟩ := by
  have hcount : ∀ k, CanvasSound (s.setCanvas { s.canvas with counters := k }) := fun k =>
    hs.setCanvas (((canvasSound_iff s).mp hs).1) rfl rfl
  have hdiscard : ∀ o, MarkOk o ⟨u, .discard⟩ := fun o => markOk_of_not_mapping rfl
  unfold judgeUnit
  split
  · exact ⟨hs, hdiscard _⟩
  · next r hr =>
    split
    · next hopen =>
      simp only [checkLine]
      split
      · exact ⟨hcount _, hdiscard _⟩
      · split
        · exact ⟨hcount _, hdiscard _⟩
        · refine ⟨hs.setRecord hr rfl ((((canvasSound_iff s).mp hs).1.1 r hr).1) rfl rfl rfl rfl rfl rfl rfl rfl, ?_⟩
          rintro kept ⟨⟩
          refine ⟨by dsimp only; omega, openNumber_eq_some_iff.mpr ⟨_, rfl, hopen, ?_⟩⟩
          rw [hr] at hn
          exact (Option.some.inj hn).symm
    · exact ⟨hcount _, hdiscard _⟩
    · exact ⟨hcount _, hdiscard _⟩
    · exact ⟨hcount _, hdiscard _⟩

theorem canvasSound_trackUnit (u : PictureUnit) (hs : CanvasSound s) : CanvasSound (trackUnit u s).2 ∧
    MarkOk (trackUnit u s).2.canvas.openNumber ⟨u, (trackUnit u s).1⟩ := by
  simp only [trackUnit]
  split
  · exact canvasSound_judgeUnit u (canvasSound_beginFrame _ _ hs) (beginFrame_number _ _ _)
  · next h => exact canvasSound_judgeUnit u hs (by simpa [beginsFrame] using h)

theorem canvasSound_lossNotice (number : BitVec 16) (hs : CanvasSound s) : CanvasSound (lossNotice number s) := by
  unfold lossNotice
  split
  · exact canvasSound_beginFrame _ _ hs
  · split
    · exact hs
    · next r hr =>
      split
      · exact hs.setRecord hr rfl ((((canvasSound_iff s).mp hs).1.1 r hr).1) rfl rfl rfl rfl rfl rfl rfl rfl
      · exact hs

theorem canvasSound_joinBuffer (u : PictureUnit) (hs : CanvasSound s) : CanvasSound (joinBuffer u s) := by
  unfold joinBuffer
  split
  · obtain ⟨htrack, hmark⟩ := canvasSound_trackUnit u hs
    obtain ⟨hrecord, hacc, hbuffer, hengine⟩ := (canvasSound_iff _).mp htrack
    refine (canvasSound_iff _).mpr ⟨hrecord, hacc, fun v hv => ?_, hengine⟩
    rcases List.mem_append.mp hv with hv | hv
    · exact hbuffer v hv
    · rw [List.mem_singleton.mp hv]; exact hmark
  · exact canvasSound_lossNotice _ (by exact hs)

/-! ### The mapping engine -/

theorem accumulation_accumulate (entry : Fin 256) (v : Nat × Nat × Nat) (s : State) :
    (accumulate entry v s).limiter.accumulation.isSome = s.limiter.accumulation.isSome := by
  unfold accumulate
  split
  · rfl
  · next h => rw [h]; rfl

theorem accumulation_handValues (entry : Fin 256) (values : List (Nat × Nat × Nat)) (s : State) :
    (handValues entry values s).limiter.accumulation.isSome = s.limiter.accumulation.isSome :=
  foldl_keeps (fun t => t.limiter.accumulation.isSome = s.limiter.accumulation.isSome) (fun s v => accumulate entry v s)
    (fun t v h => (accumulation_accumulate entry v t).trans h) values s rfl

theorem accumulation_handPieces (pieces : List Piece) (s : State) :
    (pieces.foldl handPiece s).limiter.accumulation.isSome = s.limiter.accumulation.isSome := by
  refine foldl_keeps (fun t => t.limiter.accumulation.isSome = s.limiter.accumulation.isSome) handPiece (fun t x h => ?_)
    pieces s rfl
  have hhand : (handSegment x.port x.segment t).limiter.accumulation = t.limiter.accumulation :=
    OnlyChanges.accumulation (l := [.ports]) (by simp) rfl
  exact (accumulation_handValues _ _ _).trans ((congrArg Option.isSome hhand).trans h)

theorem canvasSound_congr {t : State} (hs : CanvasSound s) (hc : t.canvas = s.canvas)
    (hb : t.intake.buffer = s.intake.buffer)
    (ha : t.limiter.accumulation.isSome = s.limiter.accumulation.isSome) : CanvasSound t := by
  rw [canvasSound_iff] at *
  rw [hc, hb, ha]
  exact hs

theorem canvasSound_of_handed {t : State} (hs : CanvasSound s) (h : OnlyChanges [.ports, .accumulation] s t)
    (hacc : t.limiter.accumulation.isSome = s.limiter.accumulation.isSome) : CanvasSound t :=
  canvasSound_congr hs (h.canvas rfl) (h.buffer rfl) hacc

theorem canvasSound_handFirst (pieces : List Piece) (handed begun : Nat) (hs : CanvasSound s) :
    CanvasSound (handFirst pieces handed begun s) := by
  refine canvasSound_of_handed hs (by simp) ?_
  simp only [handFirst]
  split
  · exact accumulation_handPieces _ _
  · exact (accumulation_handValues _ _ _).trans (accumulation_handPieces _ _)

theorem canvasSound_handRest (pieces : List Piece) (handed begun : Nat) (hs : CanvasSound s) :
    CanvasSound (handRest pieces handed begun s) := by
  refine canvasSound_of_handed hs (by simp) ?_
  unfold handRest
  split
  · rfl
  · next x rest _ =>
    have hhand : (handSegment x.port x.segment s).limiter.accumulation = s.limiter.accumulation :=
      OnlyChanges.accumulation (l := [.ports]) (by simp) rfl
    exact (accumulation_handPieces _ _).trans ((accumulation_handValues _ _ _).trans (congrArg Option.isSome hhand))

theorem canvasSound_takeUnit (hs : CanvasSound s) : CanvasSound (takeUnit s) := by
  unfold takeUnit
  split
  · next u rest _ hb =>
    obtain ⟨hrecord, hacc, hbuffer, -⟩ := (canvasSound_iff s).mp hs
    rw [hb] at hbuffer
    have htaken : ∀ job : MappingJob, job.unit = u → CanvasSound ((s.setIntake { s.intake with buffer := rest }).setCanvas
        { s.canvas with engine := some job }) := fun job hj =>
      (canvasSound_iff _).mpr ⟨hrecord, hacc, fun v hv => hbuffer v (List.mem_cons_of_mem _ hv),
        fun j hj' => by rw [← Option.some.inj hj', hj]; exact hbuffer u List.mem_cons_self⟩
    simp only [startUnitMapping]
    split
    · exact htaken _ rfl
    · exact htaken _ rfl
    · exact htaken _ rfl
    · exact canvasSound_handFirst _ _ _ (canvasSound_congr (htaken _ rfl) rfl rfl rfl)
  · exact hs
  · exact hs

theorem canvasSound_mapLine (y : Nat) (hs : CanvasSound s) : CanvasSound (mapLine y s) := by
  unfold mapLine
  split
  · exact hs
  · next r hr =>
    split
    · exact hs.setRecord hr rfl (sorted_insertLine ((((canvasSound_iff s).mp hs).1.1 r hr).1)) rfl rfl rfl rfl rfl rfl rfl rfl
    · exact hs

theorem canvasSound_finishUnit (hs : CanvasSound s) : CanvasSound (finishUnit s) := by
  unfold finishUnit
  split
  · exact hs
  · next job _ =>
    obtain ⟨hrecord, hacc, hbuffer, -⟩ := (canvasSound_iff s).mp hs
    have hidle : CanvasSound (advanceTo job.due (s.setCanvas { s.canvas with engine := none })) :=
      (canvasSound_iff _).mpr ⟨hrecord, hacc, hbuffer, nofun⟩
    have hcount : ∀ k, CanvasSound ((advanceTo job.due (s.setCanvas { s.canvas with engine := none })).setCanvas
        { s.canvas with engine := none, counters := k }) := fun k => hidle.setCanvas hrecord rfl rfl
    dsimp only
    split
    · exact hidle
    · exact hcount _
    · exact hcount _
    · exact canvasSound_mapLine _ (canvasSound_handRest _ _ _ hidle)

/-! ### The holds -/

theorem canvasSound_holdWall (hs : CanvasSound s) : CanvasSound (holdWall s) := by
  unfold holdWall
  split
  · exact hs
  · obtain ⟨hrecord, hacc, hmarks⟩ := (canvasSound_iff s).mp hs
    have hchange : OnlyChanges [.canvas, .mgmt] s (changeWall .operator { s.canvas with operator := true } s) := by simp
    have hcanvas := changeWall_canvas .operator { s.canvas with operator := true } s
    generalize changeWall .operator { s.canvas with operator := true } s = v at hchange hcanvas
    refine canvasSound_abandonFrame (by rw [hcanvas]; exact hrecord.loose) ?_ ?_
    · rw [hchange.accumulation rfl, hacc, hcanvas]; rfl
    · rw [hchange.buffer rfl, hcanvas]; exact hmarks

/-- The wall's hold changes with no OPEN frame, or leaves it free. -/
theorem canvasSound_changeWall (cause : HoldCause) {d : Canvas} (hs : CanvasSound s) (hrecord : RecordOk d)
    (hopen : d.openNumber = s.canvas.openNumber) (hengine : d.engine = s.canvas.engine) :
    CanvasSound (changeWall cause d s) := by
  have hchange : OnlyChanges [.mgmt] (s.setCanvas d) (changeWall cause d s) := by
    simp only [changeWall]
    split
    · simp
    · split <;> simp
  exact canvasSound_reads.keeps hchange (by decide) (hs.setCanvas hrecord hopen hengine)

theorem RecordOk.free {c d : Canvas} (h : RecordOk c) (hrecord : d.record = c.record) (hnow : d.assignedNow = c.assignedNow)
    (hheld : wallHeld c = false → wallHeld d = false) (hauto : d.auto = c.auto) (hcount : d.autoCount = c.autoCount) :
    RecordOk d := by
  obtain ⟨hopen, hautos⟩ := h
  refine ⟨fun r hr => ⟨(hopen r (hrecord ▸ hr)).1, fun ho => ?_⟩, by rw [hcount]; exact hautos.1,
    by rw [hauto, hcount]; exact hautos.2⟩
  obtain ⟨h1, h2, h3⟩ := (hopen r (hrecord ▸ hr)).2 ho
  exact ⟨h1, hnow.trans h2, hheld h3⟩

theorem canvasSound_releaseWall (hs : CanvasSound s) : CanvasSound (releaseWall s) := by
  refine canvasSound_changeWall _ hs (RecordOk.free ((canvasSound_iff s).mp hs).1 rfl rfl (fun h => ?_) rfl rfl) rfl rfl
  simp only [wallHeld, Bool.or_eq_false_iff] at h ⊢
  exact ⟨⟨trivial, h.1.2⟩, h.2⟩

theorem canvasSound_setLightOperator (on : Bool) (hs : CanvasSound s) : CanvasSound (setLightOperator on s) :=
  hs.setCanvas (RecordOk.free ((canvasSound_iff s).mp hs).1 rfl rfl id rfl rfl) rfl rfl

theorem canvasSound_setAutoHold (hs : CanvasSound s) (hdue : autoHoldDue s.canvas = true) : CanvasSound (setAutoHold s) := by
  have hrecord := ((canvasSound_iff s).mp hs).1
  simp only [autoHoldDue, Bool.and_eq_true, Bool.not_eq_true'] at hdue
  have hnone : s.canvas.openNumber = none := by
    rw [openNumber_eq_none_iff, Bool.eq_false_iff, Ne, isOpenRecord_iff]
    rintro ⟨r, hr, ho⟩
    exact absurd (((hrecord.1 r hr).2 ho).2.1) (by simp [hdue.1.1])
  exact canvasSound_changeWall _ hs (LooseOk.record ⟨hrecord.loose.1, le_rfl, fun _ => rfl⟩ hnone) rfl rfl

/-! ### A boundary -/

/-- Behind a boundary's presentation no frame is OPEN, and what is accumulated is of the frame presented. -/
def Presented (s : State) : Prop :=
  LooseOk s.canvas ∧ s.canvas.openNumber = none ∧ MarksOk none s.canvas s.intake.buffer ∧
    (s.limiter.accumulation.isSome = true → s.canvas.notice.isSome = true)

theorem presented_reads : Reads [.canvas, .buffer, .accumulation] Presented := fun s t h hs => by
  have hc : t.canvas = s.canvas := h .canvas (by simp)
  have hb : t.intake.buffer = s.intake.buffer := h .buffer (by simp)
  have ha : t.limiter.accumulation = s.limiter.accumulation := h .accumulation (by simp)
  rw [Presented, hc, hb, ha]
  exact hs

theorem presented_presentFrame (hs : CanvasSound s) : Presented (presentFrame s) := by
  obtain ⟨hrecord, hacc, hmarks⟩ := (canvasSound_iff s).mp hs
  cases ho : isOpenRecord s with
  | true =>
    obtain ⟨r, hr, hopen⟩ := (isOpenRecord_iff s).mp ho
    rw [presentFrame_of_open hr hopen]
    refine ⟨⟨fun r' hr' => ?_, hrecord.2⟩, by simp [Canvas.openNumber], marksOk_remarked rfl rfl, fun _ => rfl⟩
    rw [← Option.some.inj hr']
    exact (hrecord.1 r hr).1
  | false =>
    rw [presentFrame_of_not_open ho]
    have hnone := (openNumber_eq_none_iff s).mpr ho
    rw [hnone] at hacc hmarks
    exact ⟨hrecord.loose, hnone, hmarks, fun h => absurd (hacc.symm.trans h) (by simp)⟩

theorem presented_autoHoldBoundary (hs : Presented s) : Presented (autoHoldBoundary s) := by
  obtain ⟨⟨hlines, hcount, hauto⟩, hopen, hmarks, hacc⟩ := hs
  have hcanvas := autoHoldBoundary_holds s
  have hchange : OnlyChanges [.canvas, .mgmt] s (autoHoldBoundary s) := by simp
  rw [Presented, hchange.buffer rfl, hchange.accumulation rfl, hcanvas]
  refine ⟨⟨hlines, ?_, fun h => ?_⟩, hopen, hmarks.engine rfl, hacc⟩
  · dsimp only
    split
    · exact le_rfl
    · split
      · exact hcount
      · omega
  · dsimp only at h ⊢
    split
    · rfl
    · next hdue =>
      have ha := hauto (by simpa [hdue] using h)
      rw [ha]
      split <;> rfl

theorem canvasSound_limiterBoundary (hs : Presented s) :
    CanvasSound (limiterBoundary s) ∧ (limiterBoundary s).canvas.openNumber = none := by
  have heach : OnlyChanges [.limiter, .mgmt] s (forEach updateChain s) := by simp
  obtain ⟨hloose, hopen, hmarks, hacc⟩ := presented_reads.keeps heach (by decide) hs
  simp only [limiterBoundary]
  split
  · exact ⟨Cleared.sound ⟨hloose, rfl, hmarks⟩ hopen, hopen⟩
  · next hn =>
    refine ⟨Cleared.sound ⟨hloose, ?_, hmarks⟩ hopen, hopen⟩
    rw [← Option.isNone_iff_eq_none, ← Option.not_isSome]
    simpa using mt hacc hn

theorem canvasSound_frameBoundary (gp : Tab 4 Bool) (o : CommitOrder) (hs : CanvasSound s) :
    CanvasSound (frameBoundary gp o s) := by
  have htiming : CanvasSound (timingBoundary s) :=
    canvasSound_reads.keeps (m := [.now, .slot, .timing, .mgmt]) (by simp) (by decide) hs
  have hset : Presented (applyPriorities (applySettings (presentFrame (timingBoundary s)))) :=
    presented_reads.keeps (m := [.merge, .drive]) (by simp) (by decide) (presented_presentFrame htiming)
  have hlight : ∀ u, Presented u → Presented (lightHoldBoundary u) := fun u hu => by
    have hchange : OnlyChanges [.canvas, .mgmt] u (lightHoldBoundary u) := by simp
    rw [Presented, hchange.buffer rfl, hchange.accumulation rfl, lightHoldBoundary_canvas]
    exact hu
  have hopening : Presented (boundaryOpening s) :=
    presented_reads.keeps (m := [.merge]) (s := lightHoldBoundary (applyPriorities (applySettings (presentFrame
      (timingBoundary s))))) (by simp [boundaryOpening]) (by decide) (hlight _ hset)
  have hlook := presented_reads.keeps (boundaryLook_only _ gp o) (by decide) hopening
  rw [frameBoundary]
  generalize boundaryLook gp o (boundaryOpening s) = v at hlook
  have hmarkers : Presented (sendMarkers (autoHoldBoundary v)) :=
    presented_reads.keeps (m := [.ports, .sent]) (by simp) (by decide) (presented_autoHoldBoundary hlook)
  obtain ⟨hlimiter, hnone⟩ := canvasSound_limiterBoundary hmarkers
  have hrest : OnlyChanges [.ports, .level, .mgmt, .sent, .drive, .fixture]
      (limiterBoundary (sendMarkers (autoHoldBoundary v))) (boundaryLight (boundaryWall v)) := by
    simp [boundaryLight, boundaryWall]
  have hwall := canvasSound_reads.keeps hrest (by decide) hlimiter
  rw [← hrest.canvas rfl] at hnone
  generalize boundaryLight (boundaryWall v) = w at hwall hnone
  have hhold : CanvasSound (contactHold gp w) := by
    have hrecord := ((canvasSound_iff w).mp hwall).1
    have hchange : CanvasSound (changeWall .contact { w.canvas with contact := contactHolds w gp } w) :=
      canvasSound_changeWall _ hwall (LooseOk.record (c := { w.canvas with contact := contactHolds w gp }) hrecord.loose hnone)
        rfl rfl
    simp only [contactHold]
    split
    · obtain ⟨hr, hacc, hmarks⟩ := (canvasSound_iff _).mp hchange
      exact canvasSound_abandonFrame hr.loose hacc hmarks
    · exact hchange
  exact canvasSound_reads.keeps (m := [.cue, .banks, .mgmt, .timing]) (s := contactHold gp w) (by simp [boundaryContacts])
    (by decide) hhold

theorem canvasSound_reset {u : State} (hc : u.canvas = Canvas.reset) (hb : u.intake.buffer = [])
    (ha : u.limiter.accumulation = none) : CanvasSound u := by
  rw [canvasSound_iff, hc, hb, ha]
  exact ⟨⟨nofun, by decide, nofun⟩, rfl, nofun, nofun⟩

theorem canvasSound_run (c : Instr) (hc : ∃ b ∈ [Block.canvas, .buffer, .accumulation], b ∈ touches c)
    (hu : ∀ n, c ≠ .managementUnitStart n) (hs : CanvasSound s) : CanvasSound (run c s) := by
  have hsame : ∀ {t}, t.canvas = s.canvas → t.intake.buffer = s.intake.buffer →
      t.limiter.accumulation = s.limiter.accumulation → CanvasSound t := fun h1 h2 h3 =>
    canvasSound_congr hs h1 h2 (by rw [h3])
  have hrecord := ((canvasSound_iff s).mp hs).1
  cases c with
  | managementUnitStart n => exact absurd rfl (hu n)
  | powerOnReset gp =>
    exact canvasSound_reads.keeps (trainPresent_only (defaults gp s)) (by decide) (canvasSound_reset rfl rfl rfl)
  | lineReset gp =>
    exact canvasSound_reads.keeps (trainPresent_only ((defaults gp s).setIntake (keptIdentity s.intake))) (by decide)
      (canvasSound_reset rfl rfl rfl)
  | frameBoundary gp o => exact canvasSound_frameBoundary gp o hs
  | hold tag scope =>
    simp only [run, doHold]
    split
    · exact hs
    · next wall light _ =>
      have hwall : CanvasSound (if wall = true then holdWall s else s) := by
        split
        · exact canvasSound_holdWall hs
        · exact hs
      refine canvasSound_reads.keeps (m := [.mgmt]) ((only_answer _ _ _ _ (by simp)).mpr (.refl _ _)) (by decide) ?_
      split
      · exact canvasSound_setLightOperator _ hwall
      · exact hwall
  | release tag scope =>
    simp only [run, doRelease]
    split
    · exact hs
    · next wall light _ =>
      have hwall : CanvasSound (if wall = true then releaseWall s else s) := by
        split
        · exact canvasSound_releaseWall hs
        · exact hs
      refine canvasSound_reads.keeps (m := [.mgmt]) ((only_answer _ _ _ _ (by simp)).mpr (.refl _ _)) (by decide) ?_
      split
      · exact canvasSound_setLightOperator _ hwall
      · exact hwall
  | autoHoldSet =>
    simp only [run]
    split
    · next hdue => exact canvasSound_setAutoHold hs hdue
    · exact hs
  | flushInputs tag =>
    have habandon := canvasSound_abandonFrame hrecord.loose ((canvasSound_iff s).mp hs).2.1 ((canvasSound_iff s).mp hs).2.2
    obtain ⟨hr, hacc, -, hengine⟩ := (canvasSound_iff _).mp habandon
    exact (canvasSound_iff _).mpr ⟨hr, hacc, nofun, hengine⟩
  | clearStatus tag block mask =>
    simp only [run, doClearStatus, clearFlags]
    repeat' split
    case h_4 => exact hs.setCanvas (RecordOk.free hrecord rfl rfl id rfl rfl) rfl rfl
    all_goals exact hsame rfl rfl rfl
  | clearCounters tag block =>
    simp only [run, doClearCounters, clearBlock]
    repeat' split
    case h_4 => exact hs.setCanvas (RecordOk.free hrecord rfl rfl id rfl rfl) rfl rfl
    all_goals exact hsame rfl rfl rfl
  | mappingUnitTake => exact canvasSound_takeUnit hs
  | mappingUnitEnd => exact canvasSound_finishUnit hs
  | unitReceived tick payload crc =>
    have hquiet : ∀ {u v : State}, CanvasSound u → OnlyChanges [.now, .lane, .slot, .intake, .merge, .mgmt] u v →
        CanvasSound v := fun hu h => canvasSound_reads.keeps h (by decide) hu
    simp only [run, receiveUnit]
    split
    · split
      · have hbegun : CanvasSound ((advanceTo tick s).setIntake { (advanceTo tick s).intake with framer := .hunt false }) :=
          hquiet hs (by simp)
        simp only [completeUnit]
        generalize (advanceTo tick s).setIntake { (advanceTo tick s).intake with framer := .hunt false } = v at hbegun
        split
        · exact hquiet hbegun (by simp [countCrcError])
        · split
          · unfold classify
            split
            · exact hquiet hbegun (by simp [countUnmatched])
            · split
              · exact hquiet hbegun (by simp [countFiltered])
              · split
                · unfold enterLane
                  split
                  · exact hquiet hbegun (by simp)
                  · exact canvasSound_joinBuffer _ hbegun
                  · exact hquiet hbegun (by simp)
                  · exact hquiet hbegun (by simp)
                  · exact hbegun
                · exact hquiet hbegun (by simp [countClassLength])
          · exact hquiet hbegun (by simp [countNotAddressed])
      · exact hs
    · exact hs
  | _ => simp [touches] at hc

end

/-- Settles O57: every operation on the canvas keeps the OPEN frame free of holds and the marks its own, and a boundary closes
it before anything there could hold the wall. -/
theorem stepsKeepCanvasSound : Obligations.StepsKeepCanvasSound := fun _ _ h hs =>
  canvasSound_reads.step_keeps (by decide) (by simp) (fun c _ hc hu => canvasSound_run c hc hu) h hs

end Sys2Proof.Machine
end

section
/-! PROOFS. Hold and Release, the OPEN frame a Hold catches, the auto hold, and the holds of a boundary (R87 to R92). -/

namespace Sys2Proof.Machine

/-! ### The hold events -/

/-- The kinds of the hold events. -/
def holdKinds : List (Option EventKind) := [some .holdEntered, some .holdLeft]

theorem isIn_holdKinds : Report.isIn holdKinds = Report.isHold := by
  funext r
  cases r <;> simp [holdKinds, Report.isHold, Report.isEvent]

/-- The event of a hold that is entered or left. -/
def holdReport (scope : Nat) (cause : HoldCause) (entered : Bool) (n : FrameNo) : Report :=
  .event (if entered then .holdEntered else .holdLeft) (holdBody scope cause n)

section
variable {w : List Report} {s t : State}

theorem tells_offer_hold (kind : EventKind) (hk : some kind ∈ holdKinds) (body : List Byte) (h : Tells holdKinds w s t) :
    Tells holdKinds (w ++ [.event kind body]) s (offer kind body t) := by
  have hoffer := tells_offer kind body h
  rwa [List.filter_cons_of_pos (by simpa using hk), List.filter_nil] at hoffer

/-- The wall is told of where it goes between held and not held (R92). -/
theorem tells_changeWall_hold (cause : HoldCause) (after : Canvas) (h : Tells holdKinds w s t) :
    Tells holdKinds (w ++ if wallHeld t.canvas = wallHeld after then [] else
      [holdReport 0 cause (wallHeld after) t.frameNo]) s (changeWall cause after t) := by
  have hset : Tells holdKinds w s (t.setCanvas after) := h.other (by simp)
  simp only [changeWall, holdReport]
  cases hb : wallHeld t.canvas <;> cases ha : wallHeld after
  · simpa using hset
  · exact tells_offer_hold _ (by decide) _ hset
  · exact tells_offer_hold _ (by decide) _ hset
  · simpa using hset

theorem tells_lightHold_hold (h : Tells holdKinds w s t) :
    Tells holdKinds (w ++ if t.canvas.lightHold = t.canvas.lightOperator then [] else
      [holdReport 1 .operator t.canvas.lightOperator t.frameNo]) s (lightHoldBoundary t) := by
  have hset : Tells holdKinds w s (t.setCanvas { t.canvas with lightHold := t.canvas.lightOperator }) := h.other (by simp)
  simp only [lightHoldBoundary, holdReport]
  generalize t.setCanvas _ = u at hset ⊢
  cases hb : t.canvas.lightHold <;> cases ha : t.canvas.lightOperator
  · simpa using hset
  · exact tells_offer_hold _ (by decide) _ hset
  · exact tells_offer_hold _ (by decide) _ hset
  · simpa using hset

theorem tells_autoHold_hold (h : Tells holdKinds w s t) :
    Tells holdKinds (w ++ if autoHoldDue t.canvas = true ∧ wallHeld t.canvas = false then
      [holdReport 0 .auto true t.frameNo] else []) s (autoHoldBoundary t) := by
  have hset : ∀ {w' u} (d : Canvas), Tells holdKinds w' s u → Tells holdKinds w' s (u.setCanvas d) := fun d hu =>
    hu.other (by simp)
  simp only [autoHoldBoundary]
  refine hset _ ?_
  cases hd : autoHoldDue t.canvas with
  | true =>
    have hwall := tells_changeWall_hold .auto { t.canvas with auto := true, autoCount := 2 } h
    have hafter : wallHeld { t.canvas with auto := true, autoCount := 2 } = true := by simp [wallHeld]
    rw [hafter] at hwall
    cases hb : wallHeld t.canvas <;> rw [hb] at hwall <;> exact hwall
  | false =>
    simp only [Bool.false_eq_true, false_and, if_false, List.append_nil]
    split
    · exact h
    · exact hset _ h

theorem tells_contactHold_hold (gp : Tab 4 Bool) (h : Tells holdKinds w s t) :
    Tells holdKinds (w ++ if wallHeld t.canvas = wallHeld { t.canvas with contact := contactHolds t gp } then [] else
      [holdReport 0 .contact (wallHeld { t.canvas with contact := contactHolds t gp }) t.frameNo]) s (contactHold gp t) := by
  have hwall := tells_changeWall_hold .contact { t.canvas with contact := contactHolds t gp } h
  have hgiven : Tells holdKinds _ s (abandonFrame (changeWall .contact { t.canvas with contact := contactHolds t gp } t)) :=
    hwall.other (by simp)
  rw [contactHold]
  cases contactHolds t gp && !t.canvas.contact
  · exact hwall
  · exact hgiven

end

/-! ### A boundary -/

theorem holds_fields {c d : Canvas} (h : c.holds = d.holds) : wallHeld c = wallHeld d ∧ autoHoldDue c = autoHoldDue d := by
  obtain ⟨hop, hct, hau, hac, has, -, -⟩ := (Canvas.holds_eq_iff c d).mp h
  exact ⟨by simp [wallHeld, hop, hct, hau], by simp [autoHoldDue, hau, hac, has]⟩

/-- The canvas where a boundary tests the auto hold has the holds of the boundary before but for the light hold. -/
theorem boundaryLook_holds (gp : Tab 4 Bool) (o : CommitOrder) (s : State) :
    (boundaryLook gp o (boundaryOpening s)).canvas.holds = { s.canvas with lightHold := s.canvas.lightOperator }.holds := by
  rw [(boundaryLook_only (boundaryOpening s) gp o).canvas rfl]
  exact boundaryOpening_holds s

/-- The holds behind the auto hold of a boundary. -/
def Canvas.autoHeld (c : Canvas) : Canvas :=
  { c with
    lightHold := c.lightOperator
    auto := c.auto || autoHoldDue c, assignedNow := false
    autoCount := if autoHoldDue c then 2 else if c.assignedNow then c.autoCount else min 2 (c.autoCount + 1) }

theorem boundaryLight_holds (gp : Tab 4 Bool) (o : CommitOrder) (s : State) :
    (boundaryLight (boundaryWall (boundaryLook gp o (boundaryOpening s)))).canvas.holds = s.canvas.autoHeld.holds := by
  have hlook := boundaryLook_holds gp o s
  have hdue : autoHoldDue (boundaryLook gp o (boundaryOpening s)).canvas = autoHoldDue s.canvas := (holds_fields hlook).2
  rw [(boundaryLight_only _).canvas rfl, boundaryWall_eq, (wallAfterAuto_only _).canvas rfl, autoHoldBoundary_holds, hdue]
  obtain ⟨hop, hct, hau, hac, has, hlo, hlh⟩ := (Canvas.holds_eq_iff _ _).mp hlook
  simp [Canvas.autoHeld, hop, hct, hau, hac, has, hlo, hlh]

theorem contactHolds_eq (gp : Tab 4 Bool) (s : State) :
    contactHolds s gp = decide (∃ i, s.timing.functions.get i = .hold ∧ gp.get i = true) := by
  rw [Bool.eq_iff_iff, decide_eq_true_eq]
  simp [contactHolds]

/-- What a boundary tells of the holds: the light hold, then the auto hold, then the contact hold (log entry 7). -/
def holdEvents (on : Bool) (n : FrameNo) (c : Canvas) : List Report :=
  (if c.lightHold = c.lightOperator then [] else [holdReport 1 .operator c.lightOperator n]) ++
    (if autoHoldDue c = true ∧ wallHeld c = false then [holdReport 0 .auto true n] else []) ++
      if wallHeld c.autoHeld = wallHeld { c.autoHeld with contact := on } then []
      else [holdReport 0 .contact (wallHeld { c.autoHeld with contact := on }) n]

theorem frameBoundary_frame (gp : Tab 4 Bool) (o : CommitOrder) (s : State) :
    (frameBoundary gp o s).timing.frame = (timingBoundary s).timing.frame := by simp [frameBoundary]

theorem tells_frameBoundary_holds (gp : Tab 4 Bool) (o : CommitOrder) (s : State) :
    Tells holdKinds (holdEvents (contactHolds s gp) (frameBoundary gp o s).timing.frame s.canvas) s (frameBoundary gp o s) := by
  rw [frameBoundary_frame]
  -- the light hold
  have htiming : Tells holdKinds [] s (timingBoundary s) := tells_timingBoundary (by decide) (by decide) .refl
  have hcanvas : (timingBoundary s).canvas = s.canvas := OnlyChanges.canvas (l := [.now, .slot, .timing, .mgmt]) (by simp) rfl
  have hset : OnlyChanges [.drive, .merge] (presentFrame (timingBoundary s))
      (applyPriorities (applySettings (presentFrame (timingBoundary s)))) := by simp
  have hpresent : Tells holdKinds [] s (applyPriorities (applySettings (presentFrame (timingBoundary s)))) :=
    htiming.other (by simp)
  have hframe : (applyPriorities (applySettings (presentFrame (timingBoundary s)))).frameNo = (timingBoundary s).timing.frame := by
    simp [State.frameNo]
  have hholds := presentFrame_holds (timingBoundary s)
  rw [← hset.canvas rfl, hcanvas, Canvas.holds_eq_iff] at hholds
  obtain ⟨-, -, -, -, -, hoperator, hhold⟩ := hholds
  have hlight := tells_lightHold_hold hpresent
  rw [hoperator, hhold, hframe] at hlight
  have hopening : Tells holdKinds _ s (boundaryOpening s) := hlight.other (by simp [boundaryOpening])
  -- the auto hold
  have hlook := tells_boundaryLook gp o (by decide) (by decide) (by decide) (by decide) hopening
  have hlookFrame : (boundaryLook gp o (boundaryOpening s)).frameNo = (timingBoundary s).timing.frame := by simp [State.frameNo]
  have hauto := tells_autoHold_hold hlook
  obtain ⟨hwallEq, hdueEq⟩ := holds_fields (boundaryLook_holds gp o s)
  rw [hwallEq, hdueEq, hlookFrame] at hauto
  have hwall : Tells holdKinds _ s (boundaryWall (boundaryLook gp o (boundaryOpening s))) :=
    tells_wallAfterAuto (by decide) (by decide) (by decide) (by decide) hauto
  -- the contact hold
  have hlit : Tells holdKinds _ s (boundaryLight (boundaryWall (boundaryLook gp o (boundaryOpening s)))) :=
    tells_forEach (fun p _ => tells_drainFifo_other (by decide) p .refl) (hwall.other (by simp))
  have hlitFrame : (boundaryLight (boundaryWall (boundaryLook gp o (boundaryOpening s)))).frameNo =
      (timingBoundary s).timing.frame := by simp [State.frameNo]
  have hlitHolds := boundaryLight_holds gp o s
  have hfunctions : (boundaryLight (boundaryWall (boundaryLook gp o (boundaryOpening s)))).timing.functions =
      s.timing.functions := by
    simpa using (boundaryOpening_contacts s).2
  rw [frameBoundary]
  generalize boundaryLight (boundaryWall (boundaryLook gp o (boundaryOpening s))) = v at hlit hlitFrame hlitHolds hfunctions
  have hon : contactHolds v gp = contactHolds s gp := by rw [contactHolds_eq, contactHolds_eq, hfunctions]
  have hcontact := tells_contactHold_hold gp hlit
  obtain ⟨hop, hct, hau, -⟩ := (Canvas.holds_eq_iff _ _).mp hlitHolds
  have hafter : wallHeld { v.canvas with contact := contactHolds s gp } =
      wallHeld { s.canvas.autoHeld with contact := contactHolds s gp } := by simp [wallHeld, hop, hau]
  rw [hlitFrame, hon, hafter, (holds_fields hlitHolds).1] at hcontact
  exact (tells_takeIf (fun _ => tells_contactGos (by decide) gp .refl) (!o.gosFirst) hcontact).other
    (by simp [boundaryContacts, keepSamples])

theorem frameBoundary_holds (gp : Tab 4 Bool) (o : CommitOrder) (s : State) :
    (frameBoundary gp o s).canvas.holds = { s.canvas.autoHeld with contact := contactHolds s gp }.holds := by
  have hholds := boundaryLight_holds gp o s
  have hfunctions : (boundaryLight (boundaryWall (boundaryLook gp o (boundaryOpening s)))).timing.functions =
      s.timing.functions := by
    simpa using (boundaryOpening_contacts s).2
  rw [frameBoundary]
  generalize boundaryLight (boundaryWall (boundaryLook gp o (boundaryOpening s))) = v at hholds hfunctions
  have hrest : OnlyChanges [.cue, .banks, .mgmt, .timing] (contactHold gp v) (boundaryContacts gp o v) := by
    simp [boundaryContacts]
  have hon : contactHolds v gp = contactHolds s gp := by rw [contactHolds_eq, contactHolds_eq, hfunctions]
  rw [hrest.canvas rfl, contactHold_holds, hon]
  obtain ⟨hop, hct, hau, hac, has, hlo, hlh⟩ := (Canvas.holds_eq_iff _ _).mp hholds
  simp [hop, hau, hac, has, hlo, hlh]

/-- The boundary at which the auto cause stands without having been due shows nothing: the wall is held then. -/
theorem Canvas.auto_autoHeld (c : Canvas) :
    c.autoHeld.auto = (c.auto || (!c.assignedNow && decide (1 ≤ c.autoCount))) := by
  simp only [Canvas.autoHeld, autoHoldDue, Nat.succ_le_succ_iff]
  cases c.auto <;> simp

theorem Canvas.autoCount_autoHeld (c : Canvas) :
    c.autoHeld.autoCount = if c.assignedNow then c.autoCount else min 2 (c.autoCount + 1) := by
  rw [Canvas.autoHeld]
  by_cases h : autoHoldDue c = true
  · rw [if_pos h]
    simp only [autoHoldDue, Bool.and_eq_true, Bool.not_eq_true', decide_eq_true_eq] at h
    obtain ⟨⟨ha, -⟩, hcount⟩ := h
    rw [if_neg (by simp [ha]), Nat.min_eq_left hcount]
  · rw [if_neg h]

/-- What a boundary tells of the holds, with the auto hold's test as R88 has it: where the auto cause already stands the
wall is held, and nothing is told. -/
theorem holdEvents_eq (on : Bool) (n : FrameNo) (c : Canvas) :
    holdEvents on n c =
      (if c.lightHold = c.lightOperator then [] else [holdReport 1 .operator c.lightOperator n]) ++
        (if (!c.assignedNow && decide (1 ≤ c.autoCount)) = true ∧ wallHeld c = false then [holdReport 0 .auto true n] else []) ++
          if (c.operator || c.contact || (c.auto || (!c.assignedNow && decide (1 ≤ c.autoCount)))) =
              (c.operator || on || (c.auto || (!c.assignedNow && decide (1 ≤ c.autoCount)))) then []
          else [holdReport 0 .contact (c.operator || on || (c.auto || (!c.assignedNow && decide (1 ≤ c.autoCount)))) n] := by
  have hdue : (autoHoldDue c = true ∧ wallHeld c = false) ↔
      ((!c.assignedNow && decide (1 ≤ c.autoCount)) = true ∧ wallHeld c = false) := by
    refine and_congr_left fun h => ?_
    simp only [wallHeld, Bool.or_eq_false_iff] at h
    simp [autoHoldDue, h.2]
  have hbefore : wallHeld c.autoHeld = (c.operator || c.contact || (c.auto || (!c.assignedNow && decide (1 ≤ c.autoCount)))) := by
    rw [wallHeld, Canvas.auto_autoHeld]; rfl
  have hafter : wallHeld { c.autoHeld with contact := on } =
      (c.operator || on || (c.auto || (!c.assignedNow && decide (1 ≤ c.autoCount)))) := by
    rw [wallHeld, Canvas.auto_autoHeld]; rfl
  simp only [holdEvents, hdue, hbefore, hafter]

/-! ### Hold and Release -/

/-- The state told that the operator holds the wall, where nothing else holds it (R92). -/
def State.toldHeld (s : State) : State :=
  if wallHeld s.canvas then s else offer .holdEntered (holdBody 0 .operator s.frameNo) s

/-- The canvas with the light operator cause that a Hold of that scope leaves. -/
def Canvas.lit (light : Bool) (c : Canvas) : Canvas := { c with lightOperator := c.lightOperator || light }

/-- The canvas with the light operator cause that a Release of that scope leaves. -/
def Canvas.unlit (light : Bool) (c : Canvas) : Canvas := { c with lightOperator := c.lightOperator && !light }

theorem setLight_lit (light : Bool) (s : State) :
    (if light then setLightOperator true s else s) = s.setCanvas (s.canvas.lit light) := by
  cases light with
  | true => simp [setLightOperator, Canvas.lit]
  | false => rw [if_neg Bool.false_ne_true, Canvas.lit, Bool.or_false]; rfl

theorem setLight_unlit (light : Bool) (s : State) :
    (if light then setLightOperator false s else s) = s.setCanvas (s.canvas.unlit light) := by
  cases light with
  | true => simp [setLightOperator, Canvas.unlit]
  | false => rw [if_neg Bool.false_ne_true, Canvas.unlit, Bool.not_false, Bool.and_true]; rfl

theorem scopeOfCode_wall (light : Bool) : scopeOfCode (if light then 2 else 0) = some (true, light) := by cases light <;> rfl

theorem scopeOfCode_unknown {scope : Nat} (h : 3 ≤ scope) : scopeOfCode scope = none := by
  obtain ⟨n, rfl⟩ := Nat.exists_eq_add_of_le' h
  rfl

theorem doHold_wall (tag : Byte) (light : Bool) (s : State) : doHold tag (if light then 2 else 0) s =
    answer tag Code.hold .ok (causesBody ((holdWall s).canvas.lit light))
      ((holdWall s).setCanvas ((holdWall s).canvas.lit light)) := by
  simp only [doHold, scopeOfCode_wall, if_true, setLight_lit]
  rfl

theorem doRelease_wall (tag : Byte) (light : Bool) (s : State) : doRelease tag (if light then 2 else 0) s =
    answer tag Code.release .ok (causesBody ((releaseWall s).canvas.unlit light))
      ((releaseWall s).setCanvas ((releaseWall s).canvas.unlit light)) := by
  simp only [doRelease, scopeOfCode_wall, if_true, setLight_unlit]
  rfl

theorem changeWall_of_held {cause : HoldCause} {after : Canvas} (h : wallHeld after = true) (s : State) :
    changeWall cause after s = if wallHeld s.canvas then s.setCanvas after
      else offer .holdEntered (holdBody 0 cause s.frameNo) (s.setCanvas after) := by
  simp only [changeWall, h]
  cases wallHeld s.canvas <;> rfl

theorem changeWall_held (s : State) :
    changeWall .operator { s.canvas with operator := true } s = s.toldHeld.setCanvas { s.canvas with operator := true } := by
  rw [changeWall_of_held rfl, State.toldHeld]
  split <;> rfl

theorem releaseWall_eq (s : State) : releaseWall s =
    if s.canvas.operator = true ∧ s.canvas.contact = false ∧ s.canvas.auto = false
    then offer .holdLeft (holdBody 0 .operator s.frameNo) (s.setCanvas { s.canvas with operator := false })
    else s.setCanvas { s.canvas with operator := false } := by
  simp only [releaseWall, changeWall, wallHeld]
  generalize s.setCanvas _ = t
  by_cases hrest : s.canvas.contact = false ∧ s.canvas.auto = false
  · simp [hrest.1, hrest.2]
  · have hheld : (s.canvas.contact || s.canvas.auto) = true := by
      simpa [← Bool.not_eq_true, not_and_or, or_iff_not_imp_left] using hrest
    simp [hrest, Bool.or_assoc, hheld]

theorem holdWall_of_standing {s : State} (h : s.canvas.operator = true ∨ isOpenRecord s = false) :
    holdWall s = s.toldHeld.setCanvas { s.canvas with operator := true } := by
  cases ho : s.canvas.operator with
  | true =>
    have hheld : wallHeld s.canvas = true := by simp [wallHeld, ho]
    rw [holdWall, if_pos ho, State.toldHeld, if_pos hheld]
    conv_rhs => rw [← ho]
    rfl
  | false =>
    have hopen : isOpenRecord (changeWall .operator { s.canvas with operator := true } s) = false := by
      rw [isOpenRecord, changeWall_canvas]
      exact h.resolve_left (by simp [ho])
    rw [holdWall, if_neg (by simp [ho]), abandonFrame_of_not_open hopen, changeWall_held]

/-- The Hold that catches an OPEN frame: the frame and what waits of it are given up (R87). -/
theorem holdWall_of_open {s : State} {r : FrameRecord} (ho : s.canvas.operator = false) (hr : s.canvas.record = some r)
    (hopen : r.state = .isOpen) :
    holdWall s = ((s.toldHeld.setCanvas { s.canvas.unmapped with
        operator := true
        record := some { r with state := .abandoned }
        counters := { s.canvas.unmapped.counters with framesAbandoned := bump s.canvas.counters.framesAbandoned } }).setIntake
      { s.intake with buffer := remarked .unassigned s.intake.buffer }).setLimiter
      { s.limiter with accumulation := none } := by
  have hr' : (s.toldHeld.setCanvas { s.canvas with operator := true }).canvas.record = some r := hr
  have hintake : s.toldHeld.intake = s.intake := by rw [State.toldHeld]; split <;> rfl
  have hlimiter : s.toldHeld.limiter = s.limiter := by rw [State.toldHeld]; split <;> rfl
  rw [holdWall, if_neg (by simp [ho]), changeWall_held, abandonFrame_of_open hr' hopen]
  simp only [State.setCanvas_intake, State.setCanvas_limiter, hintake, hlimiter]
  rfl

theorem holdWall_causes (s : State) : (holdWall s).canvas.holds = { s.canvas with operator := true }.holds := by
  cases ho : s.canvas.operator with
  | true => rw [holdWall, if_pos ho, ← ho]
  | false => rw [holdWall, if_neg (by simp [ho]), abandonFrame_holds, changeWall_canvas]

theorem causesBody_of_holds {c d : Canvas} (h : c.holds = d.holds) (light : Bool) :
    causesBody (c.lit light) = causesBody (d.lit light) := by
  obtain ⟨hop, hct, hau, -, -, hlo, -⟩ := (Canvas.holds_eq_iff c d).mp h
  simp [causesBody, Canvas.lit, hop, hct, hau, hlo]

/-- Only the record tells whether a frame is OPEN after a Hold. -/
theorem isOpenRecord_holdWall (s : State) : isOpenRecord (holdWall s) = (isOpenRecord s && s.canvas.operator) := by
  by_cases h : s.canvas.operator = true ∨ isOpenRecord s = false
  · rw [holdWall_of_standing h]
    change isOpenRecord s = _
    rcases h with h | h <;> simp [h]
  · obtain ⟨ho, hopen⟩ := not_or.mp h
    obtain ⟨r, hr, hstate⟩ := (isOpenRecord_iff s).mp (by simpa using hopen)
    have ho : s.canvas.operator = false := by simpa using ho
    rw [holdWall_of_open ho hr hstate, ho, Bool.and_false]
    rfl

/-- Settles O32: Hold and Release as they run, and a boundary through the hold events it tells and the holds it leaves. -/
theorem holdsFollowTheirCauses : Obligations.HoldsFollowTheirCauses := by
  intro s tag c body event
  refine ⟨fun hroom scope hscope => ⟨?_, ?_⟩, fun hroom => ⟨?_, ?_⟩, fun hroom light => ?_, fun ha hauto hcount => ?_,
    fun gp o => ?_⟩
  · exact answers_exec rfl hroom (by simp only [run, doHold, scopeOfCode_unknown hscope]; rfl)
  · exact answers_exec rfl hroom (by simp only [run, doRelease, scopeOfCode_unknown hscope]; rfl)
  · exact answers_exec rfl hroom rfl
  · exact answers_exec rfl hroom rfl
  · intro free released
    constructor
    · refine answers_exec rfl hroom ((doRelease_wall tag light s).trans ?_)
      have hcanvas : (releaseWall s).canvas = { s.canvas with operator := false } := changeWall_canvas _ _ s
      rw [hcanvas, releaseWall_eq]
      split <;> rfl
    intro caught
    refine ⟨(holdWall s).setCanvas ((holdWall s).canvas.lit light), ?_, ?_, fun h => ?_, ?_⟩
    · refine answers_exec rfl hroom ((doHold_wall tag light s).trans ?_)
      rw [causesBody_of_holds (holdWall_causes s)]
      rfl
    · exact isOpenRecord_holdWall s
    · rw [holdWall_of_standing h]
      cases hheld : wallHeld s.canvas
      · rw [State.toldHeld, hheld, if_neg (by simp [c, hheld])]; rfl
      · rw [State.toldHeld, hheld, if_pos (by simp [c, hheld])]; rfl
    · intro r ho hr hopen mapping told
      rw [holdWall_of_open ho hr hopen]
      rfl
  · have hdue : autoHoldDue s.canvas = true := by
      simp only [autoHoldDue, Bool.and_eq_true, decide_eq_true_eq]
      exact ⟨⟨by simpa using ha, by simpa using hauto⟩, Nat.succ_le_succ hcount⟩
    refine exec_of_run rfl ?_
    have hafter : wallHeld { s.canvas with auto := true, autoCount := 2 } = true := by simp [wallHeld]
    simp only [run, hdue, if_true, setAutoHold, changeWall_of_held hafter]
    rfl
  · have htells := tells_frameBoundary_holds gp o s
    rw [holdEvents_eq, contactHolds_eq] at htells
    obtain ⟨new, hq, hsub, -, -, -, -, -, hall⟩ := htells
    obtain ⟨hop, hct, hau, hac, -, hlo, hlh⟩ := (Canvas.holds_eq_iff _ _).mp (frameBoundary_holds gp o s)
    refine ⟨frameBoundary gp o s, new, exec_of_run rfl rfl, hq, hop, ?_, ?_, hlh, hlo, ?_, ?_, ?_⟩
    · exact hct.trans (contactHolds_eq gp s)
    · exact hau.trans (Canvas.auto_autoHeld s.canvas)
    · exact hac.trans (Canvas.autoCount_autoHeld s.canvas)
    · rw [← isIn_holdKinds]; exact hsub
    · intro hentered hleft hlost
      rw [← isIn_holdKinds]
      refine hall fun k hk => ⟨?_, hlost⟩
      simp only [holdKinds, List.mem_cons, Option.some.injEq, List.not_mem_nil, or_false] at hk
      rcases hk with rfl | rfl
      · exact hentered
      · exact hleft

end Sys2Proof.Machine
end

section
/-! PROOFS. Reports leave in order, events are masked, admitted or lost, and every started unit is answered once (sections
11.1, 11.3, 11.4). -/

namespace Sys2Proof.Machine

/-! ### Reports and events (R177 to R179) -/

theorem sendReport_of_queue {s : State} {r : Report} {rest : List Report} (hlink : s.intake.link = .up)
    (hq : s.mgmt.queue = r :: rest) :
    sendReport s = settleEngine (emit (.report (reportUnit s.intake r)) (s.setMgmt { s.mgmt with
      queue := rest
      cut := false
      counters := { s.mgmt.counters with reportsTransmitted := bump s.mgmt.counters.reportsTransmitted } })) := by
  simp only [sendReport, hlink, hq]

theorem sendReport_idle {s : State} (h : s.intake.link = .down ∨ s.mgmt.queue = []) : sendReport s = s := by
  unfold sendReport
  split
  · next hlink hq => simp [hlink, hq] at h
  · rfl
  · rfl

/-- Settles O50: a report leaves where the link is up and one waits; an event is masked, joins, or is lost. -/
theorem reportsLeaveInOrder : Obligations.ReportsLeaveInOrder := by
  refine ⟨fun s r rest hlink hq => ?_, fun s h => ?_, fun s tag mask hroom => ⟨fun h => ?_, fun h => ?_⟩,
    fun m kind body => ⟨fun h => ?_, fun h hq => ?_, fun h hq => ?_⟩⟩
  · exact ⟨_, exec_of_run rfl rfl, (stalls_iff _ _).mpr (sendReport_of_queue hlink hq)⟩
  · exact exec_of_run rfl (sendReport_idle h)
  · exact answers_exec rfl hroom (if_pos h)
  · exact answers_exec rfl hroom (if_neg (Nat.not_lt.mpr h))
  · simp [Mgmt.offer, Mgmt.selects, h]
  · simp [Mgmt.offer, Mgmt.selects, h, if_pos (show m.queue.length < Config.eventRoom from hq), Mgmt.push]
  · simp [Mgmt.offer, Mgmt.selects, h, if_neg (show ¬m.queue.length < Config.eventRoom from Nat.not_lt.mpr hq)]

/-! ### The start of a unit -/

section
variable {s : State} {tick : Nat} {u : MgmtUnit} {rest : List MgmtUnit}

/-- The state at a tick with the unit taken from the lane. -/
def State.started (s : State) (tick : Nat) (rest : List MgmtUnit) : State :=
  (s.setNow (max s.now tick)).setIntake { s.intake with lane := rest }

theorem startUnit_of_room (hl : s.intake.lane = u :: rest) (hroom : hasRoom s = true) :
    startUnit tick s = settleEngine (runUnit tick u (s.started tick rest)) := by
  have hl' : (advanceTo tick s).intake.lane = u :: rest := hl
  have hroom' : hasRoom (advanceTo tick s) = true := hroom
  simp only [startUnit, hl', hroom', if_true]
  rfl

theorem startUnit_of_no_room (hl : s.intake.lane = u :: rest) (hroom : hasRoom s = false) :
    startUnit tick s = settleEngine (advanceTo tick s) := by
  have hl' : (advanceTo tick s).intake.lane = u :: rest := hl
  have hroom' : hasRoom (advanceTo tick s) = false := hroom
  simp only [startUnit, hl', hroom']
  rfl

theorem settleEngine_of_stall (hl : s.intake.lane ≠ []) (hroom : hasRoom s = false) :
    settleEngine s = s.setMgmt { s.mgmt with
      stalled := true
      counters := { s.mgmt.counters with
        stalls := if s.mgmt.stalled then s.mgmt.counters.stalls else bump s.mgmt.counters.stalls } } := by
  have hmust : MustStall s := ⟨hl, by
    rw [hasRoom_eq] at hroom
    exact Nat.lt_of_not_le (of_decide_eq_false hroom)⟩
  exact ((stalls_iff s _).mpr rfl).1 hmust

theorem settleEngine_only (s : State) : OnlyChanges [.mgmt] s (settleEngine s) := by simp

theorem owed_settleEngine (s : State) : (settleEngine s).owed = s.owed := by
  obtain ⟨b, c, h, -, -⟩ := settleEngine_cases s
  rw [h]; rfl

/-- A unit answers once, now or later. -/
theorem owes_runUnit (tick : Nat) (u : MgmtUnit) (s : State) : Owes 1 s (runUnit tick u s) := by
  rcases runsCommand_runUnit tick u s with h | ⟨c, hc, h⟩
  · rw [h]; exact owes_malformed _ _
  · rw [h]; exact owes_management c (isManagement_of_body hc) s

/-- A unit leaves the lane and moves the time to its own tick at most. -/
theorem lane_runUnit (tick : Nat) (u : MgmtUnit) (s : State) : (runUnit tick u s).intake.lane = s.intake.lane := by
  rcases runsCommand_runUnit tick u s with h | ⟨c, hc, h⟩
  · rw [h]; rfl
  · rw [h]
    exact (run_only c (ne_managementUnitStart (isManagement_of_body hc)) s).lane (by cases c <;> simp_all [managementBody, touches])

theorem advanceTo_of_le (h : tick ≤ s.now) : advanceTo tick s = s := by
  rw [advanceTo, Nat.max_eq_left h]; rfl

theorem doSetFixturePort_now (tag : Byte) (port : Nat) (enable : Bool) (rate divisor : Nat) (h : tick ≤ s.now) :
    (doSetFixturePort tick tag port enable rate divisor s).now = s.now := by
  refine OnlyChanges.now (l := [.fixture, .mgmt, .sent]) ?_ rfl
  simp only [doSetFixturePort, advanceTo_of_le h]
  repeat' split
  all_goals simp

theorem doQueryFixture_now (tag : Byte) (port address kind : Nat) (h : tick ≤ s.now) :
    (doQueryFixture tick tag port address kind s).now = s.now := by
  refine OnlyChanges.now (l := [.fixture, .mgmt]) ?_ rfl
  simp only [doQueryFixture, advanceTo_of_le h]
  repeat' split
  all_goals simp

theorem doQueryStatus_now (tag : Byte) (block : Nat) (h : tick ≤ s.now) : (doQueryStatus tick tag block s).now = s.now := by
  refine OnlyChanges.now (l := [.mgmt]) ?_ rfl
  simp only [doQueryStatus, advanceTo_of_le h]
  repeat' split
  all_goals simp

theorem now_runUnit (u : MgmtUnit) (h : tick ≤ s.now) : (runUnit tick u s).now = s.now := by
  rcases runsCommand_runUnit tick u s with he | ⟨c, hc, he⟩
  · rw [he]; rfl
  · rw [he]
    by_cases hn : .now ∈ touches c
    · cases c <;> simp [touches] at hn <;> simp [managementBody] at hc
      case setFixturePort => subst hc; exact doSetFixturePort_now _ _ _ _ _ h
      case queryFixture => subst hc; exact doQueryFixture_now _ _ _ _ h
      case queryStatus => subst hc; exact doQueryStatus_now _ _ h
    · exact (run_only c (ne_managementUnitStart (isManagement_of_body hc)) s).now (by simpa using hn)

/-! ### The units that are malformed (R175) -/

theorem fixedBody_malformed {n : Nat} {f : State → State} (h : u.body.length ≠ max n 2) :
    fixedBody n u f s = malformed u.tag u.code s := if_neg h

theorem code_eq {k : Nat} (h : u.code.toNat = k) : u.code = BitVec.ofNat 8 k := by
  rw [← h, BitVec.ofNat_toNat, BitVec.setWidth_eq]

theorem tableBody_malformed {size : Nat} {f : Nat → Nat → List Byte → State → State}
    (hf : ∀ start count elements, elements.length ≠ count * size → f start count elements s = malformed u.tag u.code s)
    (h : u.body.length ≠ 4 + wordAt u.body 2 * size) : tableBody u f s = malformed u.tag u.code s := by
  unfold tableBody
  split
  · next hlong => exact hf _ _ _ (by rw [List.length_drop]; omega)
  · rfl

theorem runUnit_unknown (h : u.code.toNat = 0 ∨ 45 < u.code.toNat) : runUnit tick u s = malformed u.tag u.code s := by
  simp only [runUnit]
  split
  all_goals first | rfl | omega

theorem runUnit_cue_malformed (hc : u.code.toNat = 29) (h : u.body.length ≠ 13 + 4 * byteAt u.body 2) :
    runUnit tick u s = malformed u.tag u.code s := by
  simp only [runUnit, hc, cueBody]
  exact if_neg fun hb => h hb.2

end

/-- The commands of fixed length, and their lengths before the fill (R184). -/
def fixedLengths : List (Nat × Nat) :=
  [(1, 17), (2, 7), (3, 1), (4, 1), (5, 4), (6, 4), (7, 1), (8, 2), (11, 1), (12, 4), (17, 6), (18, 0), (19, 5),
    (20, 0), (21, 1), (22, 1), (23, 1), (24, 1), (25, 1), (26, 5), (27, 2), (28, 3), (30, 2), (31, 2), (32, 0),
    (33, 2), (34, 0), (35, 0), (36, 0), (37, 0), (38, 5), (39, 4), (40, 3), (41, 2), (42, 1), (43, 5), (44, 1), (45, 0)]

theorem runUnit_fixed_malformed (tick : Nat) (u : MgmtUnit) (s : State) : ∀ x ∈ fixedLengths, u.code.toNat = x.1 →
    u.body.length ≠ max x.2 2 → runUnit tick u s = malformed u.tag u.code s := by
  simp only [fixedLengths, List.forall_mem_cons, List.not_mem_nil, false_imp_iff, implies_true, and_true]
  and_intros
  all_goals
    intro hc hl
    simp only [runUnit, hc]
    exact fixedBody_malformed hl

theorem runUnit_table_malformed (tick : Nat) (u : MgmtUnit) (s : State) :
    ∀ x ∈ [(9, 20), (10, 1), (13, 2), (14, 2), (15, 9), (16, 2)], u.code.toNat = x.1 →
      u.body.length ≠ 4 + wordAt u.body 2 * x.2 → runUnit tick u s = malformed u.tag u.code s := by
  obtain ⟨code, tag, body⟩ := u
  simp only [List.forall_mem_cons, List.not_mem_nil, false_imp_iff, implies_true, and_true]
  and_intros
  all_goals
    intro hc hl
    obtain rfl := code_eq (u := ⟨code, tag, body⟩) hc
    exact tableBody_malformed (fun _ _ _ he => if_neg he) hl

/-! ### A body is read back as it was written (R184) -/

section
variable {v n : Nat} {b : Bool} {l : List Byte}

theorem byteAt_u8 (h : fits1 v = true) : byteAt (u8 v ++ l) 0 = v :=
  (BitVec.toNat_ofNat v 8).trans (Nat.mod_eq_of_lt (of_decide_eq_true h))

theorem wordAt_u16 (h : fits2 v = true) : wordAt (u16 v ++ l) 0 = v := by
  have hv : v < 65536 := of_decide_eq_true h
  change (BitVec.ofNat 8 (v / 256)).toNat * 256 + (BitVec.ofNat 8 v).toNat = v
  simp only [BitVec.toNat_ofNat]
  omega

theorem longAt_u32 (h : fits4 v = true) : longAt (u32 v ++ l) 0 = v := by
  have hv : v < 4294967296 := of_decide_eq_true h
  change ((BitVec.ofNat 8 (v / 16777216)).toNat * 256 + (BitVec.ofNat 8 (v / 65536)).toNat) * 65536 +
    ((BitVec.ofNat 8 (v / 256)).toNat * 256 + (BitVec.ofNat 8 v).toNat) = v
  simp only [BitVec.toNat_ofNat]
  omega

theorem flagAt_flag : flagAt (flag b ++ l) 0 = b := by cases b <;> simp [flagAt, byteAt, flag, u8]

theorem byteAt_past_u8 : byteAt (u8 v ++ l) (n + 1) = byteAt l n := rfl
theorem wordAt_past_u8 : wordAt (u8 v ++ l) (n + 1) = wordAt l n := rfl
theorem longAt_past_u8 : longAt (u8 v ++ l) (n + 1) = longAt l n := rfl
theorem flagAt_past_u8 : flagAt (u8 v ++ l) (n + 1) = flagAt l n := rfl
theorem byteAt_past_flag : byteAt (flag b ++ l) (n + 1) = byteAt l n := rfl
theorem wordAt_past_flag : wordAt (flag b ++ l) (n + 1) = wordAt l n := rfl
theorem flagAt_past_flag : flagAt (flag b ++ l) (n + 1) = flagAt l n := rfl
theorem byteAt_past_u16 : byteAt (u16 v ++ l) (n + 2) = byteAt l n := rfl
theorem wordAt_past_u16 : wordAt (u16 v ++ l) (n + 2) = wordAt l n := rfl
theorem flagAt_past_u16 : flagAt (u16 v ++ l) (n + 2) = flagAt l n := rfl

end

theorem length_filledBody (body : List Byte) : (filledBody body).length = max body.length 2 := by
  simp only [filledBody, List.length_append, List.length_replicate]
  omega

theorem filledBody_of_length {body : List Byte} (h : 2 ≤ body.length) : filledBody body = body := by
  simp [filledBody, Nat.sub_eq_zero_of_le h]

theorem fixedBody_filled {code tag : Byte} {body : List Byte} (f : State → State) (s : State) :
    fixedBody body.length ⟨code, tag, filledBody body⟩ f s = f s := if_pos (length_filledBody body)

theorem tableBody_filled {code tag : Byte} {start count : Nat} {elements : List Byte} (h : fitsTable start count elements = true)
    (f : Nat → Nat → List Byte → State → State) (s : State) :
    tableBody ⟨code, tag, filledBody (u16 start ++ u16 count ++ elements)⟩ f s = f start count elements s := by
  simp only [fitsTable, Bool.and_eq_true] at h
  obtain ⟨⟨hstart, hcount⟩, -⟩ := h
  have hlong : 4 ≤ (u16 start ++ (u16 count ++ elements)).length := by simp [u16]
  have hdrop : (u16 start ++ (u16 count ++ elements)).drop 4 = elements := rfl
  rw [List.append_assoc, filledBody_of_length (by omega), tableBody, if_pos hlong, wordAt_u16 hstart, wordAt_past_u16,
    wordAt_u16 hcount, hdrop]

theorem elementsOf_flatMap {α : Type} {size : Nat} {read : List Byte → α} {write : α → List Byte} (xs : List α)
    (hlen : ∀ x ∈ xs, (write x).length = size) (hread : ∀ x ∈ xs, read (write x) = x) :
    elementsOf size read xs.length (xs.flatMap write) = xs := by
  induction xs with
  | nil => rfl
  | cons x xs ih =>
    have hx := hlen x List.mem_cons_self
    have htail := ih (fun y hy => hlen y (List.mem_cons_of_mem x hy)) fun y hy => hread y (List.mem_cons_of_mem x hy)
    have hdrop : ∀ k, (write x ++ xs.flatMap write).drop ((k + 1) * size) = (xs.flatMap write).drop (k * size) := fun k => by
      rw [List.drop_append, hx, List.drop_eq_nil_of_le (by rw [hx]; exact Nat.le_mul_of_pos_left _ k.succ_pos), List.nil_append,
        Nat.succ_mul, Nat.add_sub_cancel]
    simp only [elementsOf, List.flatMap_cons, List.length_cons, List.range_succ_eq_map, List.map_cons, List.map_map,
      Nat.zero_mul, List.drop_zero, List.take_append_of_le_length hx.ge]
    refine congrArg₂ _ ?_ ?_
    · rw [List.take_of_length_le hx.le]
      exact hread x List.mem_cons_self
    · refine Eq.trans (List.map_congr_left fun k _ => ?_) htail
      exact congrArg (fun l => read (l.take size)) (hdrop k)

theorem cueBody_filled {code tag : Byte} {number up down delay : Nat} {follow : Option Nat} {link : Bool}
    {pairs : List (Nat × Nat)} (hw : (Instr.writeCue tag number up down delay follow link pairs).wellFormed = true) (s : State) :
    cueBody ⟨code, tag, filledBody (u16 number ++ u8 pairs.length ++ u16 up ++ u16 down ++ u16 delay ++
      flag follow.isSome ++ u16 (follow.getD 0) ++ flag link ++ pairs.flatMap fun x => u16 x.1 ++ u16 x.2)⟩ s =
      run (.writeCue tag number up down delay follow link pairs) s := by
  simp only [Instr.wellFormed, Bool.and_eq_true, List.all_eq_true] at hw
  obtain ⟨⟨⟨⟨⟨⟨hnumber, hup⟩, hdown⟩, hdelay⟩, hfollow⟩, hcount⟩, hpairs⟩ := hw
  have hbody : ∀ l : List Byte, 2 ≤ (u16 number ++ l).length := fun l => by simp [u16]
  simp only [List.append_assoc, filledBody_of_length (hbody _)]
  have hlen : (u16 number ++ (u8 pairs.length ++ (u16 up ++ (u16 down ++ (u16 delay ++ (flag follow.isSome ++
      (u16 (follow.getD 0) ++ (flag link ++ pairs.flatMap fun x => u16 x.1 ++ u16 x.2)))))))).length =
      13 + 4 * pairs.length := by
    simp [u16, u8, flag, List.length_flatMap]
    omega
  have hread : cueBodyPairs (u16 number ++ (u8 pairs.length ++ (u16 up ++ (u16 down ++ (u16 delay ++ (flag follow.isSome ++
      (u16 (follow.getD 0) ++ (flag link ++ pairs.flatMap fun x => u16 x.1 ++ u16 x.2)))))))) = pairs := by
    rw [cueBodyPairs, byteAt_past_u16, byteAt_u8 hcount]
    refine elementsOf_flatMap pairs (fun _ _ => rfl) fun x hx => ?_
    obtain ⟨h1, h2⟩ := hpairs x hx
    exact Prod.ext (wordAt_u16 h1) (wordAt_u16 (l := []) h2)
  have hfollowed : (if follow.isSome then some (follow.getD 0) else none) = follow := by cases follow <;> rfl
  simp only [cueBody, hlen, hread, byteAt_past_u16, byteAt_u8 hcount, wordAt_u16 hnumber, wordAt_past_u16, wordAt_past_u8,
    wordAt_u16 hup, wordAt_u16 hdown, wordAt_u16 hdelay, flagAt_past_u16, flagAt_past_u8, flagAt_flag, wordAt_past_flag,
    wordAt_u16 hfollow, flagAt_past_flag, hfollowed]
  exact if_pos ⟨Nat.le_add_right _ _, trivial⟩

/-- A unit whose code and body carry a command does what the row of that command does. -/
theorem runUnit_of_body {tick : Nat} {c : Instr} {code tag : Byte} {body : List Byte} (hw : c.wellFormed = true)
    (h : managementBody tick c = some (code, tag, body)) (s : State) :
    runUnit tick ⟨code, tag, filledBody body⟩ s = run c s := by
  cases c <;> simp only [managementBody, Option.some.injEq, Prod.mk.injEq, reduceCtorEq, Option.ite_none_right_eq_some] at h
  case setIdentity address label =>
    obtain ⟨rfl, rfl, rfl⟩ := h
    simp only [Instr.wellFormed, Bool.and_eq_true, decide_eq_true_eq] at hw
    obtain ⟨haddress, hlabel⟩ := hw
    have hbody : (u8 address ++ label).length = 17 := by rw [List.length_append, hlabel]; rfl
    refine (if_pos ((length_filledBody _).trans (by rw [hbody]))).trans ?_
    rw [filledBody_of_length (by omega), byteAt_u8 haddress]
    rfl
  case writeCue =>
    obtain ⟨rfl, rfl, rfl⟩ := h
    change cueBody ⟨_, _, _⟩ s = _
    exact cueBody_filled hw s
  case writeTileEntries => obtain ⟨rfl, rfl, rfl⟩ := h; exact tableBody_filled hw _ s
  case writeChainLengths => obtain ⟨rfl, rfl, rfl⟩ := h; exact tableBody_filled hw _ s
  case writeWallCurve => obtain ⟨rfl, rfl, rfl⟩ := h; exact tableBody_filled hw _ s
  case writeLightCurve => obtain ⟨rfl, rfl, rfl⟩ := h; exact tableBody_filled hw _ s
  case writePatch => obtain ⟨rfl, rfl, rfl⟩ := h; exact tableBody_filled hw _ s
  case writeSlotCounts => obtain ⟨rfl, rfl, rfl⟩ := h; exact tableBody_filled hw _ s
  case' setFixturePort => obtain ⟨rfl, h⟩ := h
  case' queryFixture => obtain ⟨rfl, h⟩ := h
  case' queryStatus => obtain ⟨rfl, h⟩ := h
  all_goals
    obtain ⟨rfl, rfl, rfl⟩ := h
    simp only [Instr.wellFormed, Bool.and_eq_true] at hw
    refine (fixedBody_filled _ s).trans ?_
    simp only [filledBody, List.append_assoc, byteAt_u8, wordAt_u16, longAt_u32, flagAt_flag, byteAt_past_u8, wordAt_past_u8,
      longAt_past_u8, flagAt_past_u8, byteAt_past_flag, byteAt_past_u16, wordAt_past_u16, hw]
    rfl

/-- Settles O52: a started unit is malformed or does what its command does, and either owes one answer more. -/
theorem everyUnitIsAnsweredOnce : Obligations.EveryUnitIsAnsweredOnce := by
  intro s tick u rest hl
  have hstart : exec (.managementUnitStart tick) s = .next (startUnit tick s) := exec_of_run rfl rfl
  have hroomed : ∀ hroom : hasRoom s = true, exec (.managementUnitStart tick) s =
      .next (settleEngine (runUnit tick u (s.started tick rest))) := fun hroom => by
    rw [hstart, startUnit_of_room hl hroom]
  refine ⟨fun hroom => ⟨_, hroomed hroom, ?_, ?_, ?_⟩, fun c code tag body hroom hw hb hu => ?_, fun hroom => ?_, fun hroom => ?_⟩
  · exact ((settleEngine_only _).lane rfl).trans (lane_runUnit tick u _)
  · exact ((settleEngine_only _).now rfl).trans (now_runUnit u (Nat.le_max_right _ _))
  · exact (owed_settleEngine _).trans (owes_runUnit tick u (s.started tick rest)).owed
  · have hmanagement : isManagement c = true := isManagement_of_body (by rw [hb]; rfl)
    rw [hroomed hroom, hu, runUnit_of_body hw hb, exec_of_management hmanagement]
    exact (engineRuns_room (run c) (s.started tick rest) hroom).symm
  · intro code malformed
    have hmalformed : runUnit tick u (s.started tick rest) = Machine.malformed u.tag u.code (s.started tick rest) → malformed :=
      fun h => ⟨_, hroomed hroom, (stalls_iff _ _).mpr (by rw [h]; rfl)⟩
    exact ⟨fun h => hmalformed (runUnit_unknown h), fun x hx hc hb => hmalformed (runUnit_fixed_malformed tick u _ x hx hc hb),
      fun x hx hc hb => hmalformed (runUnit_table_malformed tick u _ x hx hc hb),
      fun hc hb => hmalformed (runUnit_cue_malformed hc hb)⟩
  · have hlane : (advanceTo tick s).intake.lane ≠ [] := by
      change s.intake.lane ≠ []
      rw [hl]; exact List.cons_ne_nil _ _
    rw [hstart, startUnit_of_no_room hl hroom, settleEngine_of_stall hlane hroom]
    rfl

end Sys2Proof.Machine
end

section
/-! PROOFS. The frame tracker: the mark of a picture unit by the record it meets, the frames that begin, and the units that
are lost (R78 to R82). -/

namespace Sys2Proof.Machine

/-! ### A frame begins (R78) -/

section
variable {s : State}

theorem supersedeFrame_only (s : State) : OnlyChanges [.canvas, .buffer, .accumulation] s (supersedeFrame s) := by simp

theorem beginFrame_of_held (number : BitVec 16) (damaged : Bool) (hheld : s.canvas.operator = true ∨ s.canvas.contact = true)
    (ho : isOpenRecord s = false) :
    beginFrame number damaged s = s.setCanvas { s.canvas with record := some ⟨number, .unassigned, none, none, 0, [], false⟩ } := by
  rw [← Bool.or_eq_true] at hheld
  simp only [beginFrame, supersedeFrame_of_not_open ho, hheld, if_true]

/-- What the beginning of a frame leaves where no operator and no contact holds the wall: the record of the new number, the
auto hold ended, an OPEN frame before it superseded, and a fresh accumulation. -/
structure Begun (number : BitVec 16) (damaged : Bool) (s t : State) : Prop where
  record : t.canvas.record = some ⟨number, .isOpen, some s.frameNo, none, 0, [], damaged⟩
  auto : t.canvas.auto = false
  autoCount : t.canvas.autoCount = 0
  assignedNow : t.canvas.assignedNow = true
  accumulation : t.limiter.accumulation = some (s.activeBank.tiles.map fun x => ⟨0, 0, x.rated.toNat⟩)
  assigned : t.canvas.counters.framesAssigned = bump s.canvas.counters.framesAssigned
  superseded : t.canvas.counters.framesSuperseded = bumpIf (isOpenRecord s) s.canvas.counters.framesSuperseded
  outside : t.canvas.counters.outsideCanvasUnits = s.canvas.counters.outsideCanvasUnits
  mgmt : t.mgmt = if s.canvas.auto then s.mgmt.offer .holdLeft (holdBody 0 .auto s.frameNo) else s.mgmt
  waiting : t.intake.buffer.length = s.intake.buffer.length
  counters : t.intake.counters = s.intake.counters
  bank : t.activeBank = s.activeBank

theorem supersedeFrame_counters (s : State) :
    (supersedeFrame s).canvas.counters.framesAssigned = s.canvas.counters.framesAssigned ∧
    (supersedeFrame s).canvas.counters.framesSuperseded = bumpIf (isOpenRecord s) s.canvas.counters.framesSuperseded ∧
    (supersedeFrame s).canvas.counters.outsideCanvasUnits = s.canvas.counters.outsideCanvasUnits ∧
    (supersedeFrame s).canvas.holds = s.canvas.holds ∧
    (supersedeFrame s).intake.buffer.length = s.intake.buffer.length := by
  cases ho : isOpenRecord s with
  | true => rw [supersedeFrame_of_open ho]; exact ⟨rfl, rfl, rfl, rfl, List.length_map _⟩
  | false => rw [supersedeFrame_of_not_open ho]; exact ⟨rfl, rfl, rfl, rfl, rfl⟩

/-- Where only the auto cause holds the wall, the wall is released as it ends. -/
theorem changeWall_noAuto_mgmt (hop : s.canvas.operator = false) (hct : s.canvas.contact = false) :
    (changeWall .auto { s.canvas with auto := false } s).mgmt =
      if s.canvas.auto then s.mgmt.offer .holdLeft (holdBody 0 .auto s.frameNo) else s.mgmt := by
  simp only [changeWall, wallHeld, hop, hct]
  cases s.canvas.auto <;> rfl

theorem begun_beginFrame (number : BitVec 16) (damaged : Bool) (hop : s.canvas.operator = false)
    (hct : s.canvas.contact = false) : Begun number damaged s (beginFrame number damaged s) := by
  obtain ⟨hassigned, hsuperseded, houtside, hholds, hwaiting⟩ := supersedeFrame_counters s
  obtain ⟨hop', hct', hauto', -⟩ := (Canvas.holds_eq_iff _ _).mp hholds
  have honly := supersedeFrame_only s
  have hbank : (supersedeFrame s).activeBank = s.activeBank := by rw [State.activeBank, honly.banks rfl]; rfl
  have hcount : (supersedeFrame s).intake.counters = s.intake.counters := (congrArg Intake.counters (honly.unlaned rfl) : (supersedeFrame s).intake.unlaned.counters = _)
  have hframe : (supersedeFrame s).frameNo = s.frameNo := by rw [State.frameNo, honly.timing rfl]; rfl
  have hmgmt := honly.mgmt rfl
  rw [beginFrame]
  generalize supersedeFrame s = v at *
  have hwall : OnlyChanges [.canvas, .mgmt] v (changeWall .auto { v.canvas with auto := false } v) := by simp
  have hfree : (v.canvas.operator || v.canvas.contact) = false := by rw [hop', hct', hop, hct]; rfl
  have hreleased := changeWall_noAuto_mgmt (hop'.trans hop) (hct'.trans hct)
  have hcanvas : (changeWall .auto { v.canvas with auto := false } v).canvas = { v.canvas with auto := false } :=
    changeWall_canvas _ _ v
  simp only [hfree, Bool.false_eq_true, if_false]
  generalize changeWall .auto _ v = w at *
  have hframe' : w.frameNo = s.frameNo := by rw [State.frameNo, hwall.timing rfl]; exact hframe
  have hbank' : w.activeBank = s.activeBank := by rw [State.activeBank, hwall.banks rfl]; exact hbank
  have hintake : w.intake = v.intake := hwall.intake rfl rfl rfl rfl
  refine ⟨by simp [beginAccumulation, hframe'], by simp [beginAccumulation, hcanvas], by simp [beginAccumulation],
    by simp [beginAccumulation], ?_, by simp [beginAccumulation, hcanvas, hassigned],
    by simp [beginAccumulation, hcanvas, hsuperseded], by simp [beginAccumulation, hcanvas, houtside], ?_, ?_, ?_, hbank'⟩
  · exact congrArg (fun b : Bank => some (b.tiles.map fun x : TileEntry => (⟨0, 0, x.rated.toNat⟩ : TileSum))) hbank'
  · rw [hauto', hmgmt, hframe] at hreleased
    exact hreleased
  · exact (congrArg (fun x => x.buffer.length) hintake).trans hwaiting
  · exact (congrArg Intake.counters hintake).trans hcount

/-! ### The mark of a unit (R80, R81) -/

variable {u : PictureUnit} {r : FrameRecord}

/-- The canvas with a unit outside it counted. -/
def Canvas.outside (c : Canvas) : Canvas :=
  { c with counters := { c.counters with outsideCanvasUnits := bump c.counters.outsideCanvasUnits } }

/-- The canvas with a unit out of order counted. -/
def Canvas.disorder (c : Canvas) : Canvas :=
  { c with counters := { c.counters with outOfOrderUnits := bump c.counters.outOfOrderUnits } }

/-- The canvas with a record advanced past a unit, which is counted where the canvas clips it. -/
def Canvas.advanced (wide : Nat) (u : PictureUnit) (r : FrameRecord) (c : Canvas) : Canvas :=
  { c with
    record := some { r with lastLine := some u.line, lastEnd := u.first + u.pixels.length }
    counters := { c.counters with
      clippedUnits := if wide < u.first + u.pixels.length then bump c.counters.clippedUnits else c.counters.clippedUnits } }

theorem judgeUnit_of_open (hr : s.canvas.record = some r) (ho : r.state = .isOpen) : judgeUnit u s = checkLine u r s := by
  simp only [judgeUnit, hr, ho]

theorem checkLine_outside (h : s.activeBank.canvasH.toNat ≤ u.line ∨ s.activeBank.canvasW.toNat ≤ u.first) :
    checkLine u r s = (.discard, s.setCanvas s.canvas.outside) := if_pos h

theorem checkLine_disorder (hline : u.line < s.activeBank.canvasH.toNat) (hfirst : u.first < s.activeBank.canvasW.toNat)
    (h : ∃ l, r.lastLine = some l ∧ (u.line < l ∨ (u.line = l ∧ u.first < r.lastEnd))) :
    checkLine u r s = (.discard, s.setCanvas s.canvas.disorder) := by
  have hin : ¬(s.activeBank.canvasH.toNat ≤ u.line ∨ s.activeBank.canvasW.toNat ≤ u.first) := by omega
  refine (if_neg hin).trans (if_pos ?_)
  obtain ⟨l, hl, hlt | ⟨rfl, hend⟩⟩ := h
  · exact .inl (by rwa [hl])
  · exact .inr ⟨hl, hend⟩

theorem checkLine_ordered (hline : u.line < s.activeBank.canvasH.toNat) (hfirst : u.first < s.activeBank.canvasW.toNat)
    (h : ∀ l, r.lastLine = some l → l < u.line ∨ (u.line = l ∧ r.lastEnd ≤ u.first)) :
    checkLine u r s = (.mapping (min (u.first + u.pixels.length) s.activeBank.canvasW.toNat - u.first),
      s.setCanvas (s.canvas.advanced s.activeBank.canvasW.toNat u r)) := by
  have hin : ¬(s.activeBank.canvasH.toNat ≤ u.line ∨ s.activeBank.canvasW.toNat ≤ u.first) := by omega
  have hordered : ¬(u.line < r.lastLine.getD 0 ∨ (r.lastLine = some u.line ∧ u.first < r.lastEnd)) := by
    rintro (hlt | ⟨hl, hend⟩)
    · cases hr : r.lastLine with
      | none => rw [hr] at hlt; exact absurd hlt (Nat.not_lt_zero _)
      | some l =>
        rw [hr, Option.getD_some] at hlt
        have hl := h l hr
        omega
    · have hl := h _ hl
      omega
  refine (if_neg hin).trans ((if_neg hordered).trans ?_)
  simp only [Canvas.advanced, bumpIf, decide_eq_true_eq]

theorem trackUnit_of_number (hr : s.canvas.record = some r) (hn : r.number = u.frame) : trackUnit u s = judgeUnit u s := by
  have hb : beginsFrame s u.frame = false := by simp [beginsFrame, hr, hn]
  simp [trackUnit, hb]

theorem trackUnit_of_begins (hb : beginsFrame s u.frame = true) : trackUnit u s = judgeUnit u (beginFrame u.frame false s) := by
  simp [trackUnit, hb]

/-! ### The unit joins the picture buffer, or is lost (R13, R82) -/

/-- The state with a unit in the picture buffer, marked and counted. -/
def State.joinedBuffer (u : PictureUnit) (mark : UnitMark) (s : State) : State :=
  s.setIntake { s.intake with
    buffer := s.intake.buffer ++ [⟨u, mark⟩]
    counters := { s.intake.counters with pictureUnits := bump s.intake.counters.pictureUnits } }

theorem joinBuffer_of_room (h : s.intake.buffer.length < 8) {mark : UnitMark} {t : State} (ht : trackUnit u s = (mark, t)) :
    joinBuffer u s = t.joinedBuffer u mark := by
  refine (if_pos h).trans ?_
  simp only [ht]
  rfl

/-- The state with a lost unit counted. -/
def State.lostUnit (s : State) : State :=
  s.setIntake { s.intake with
    counters := { s.intake.counters with bufferOverflows := bump s.intake.counters.bufferOverflows } }

theorem joinBuffer_full (h : 8 ≤ s.intake.buffer.length) : joinBuffer u s = lossNotice u.frame s.lostUnit :=
  if_neg (Nat.not_lt.mpr h)

theorem lossNotice_of_begins {number : BitVec 16} (hb : beginsFrame s number = true) :
    lossNotice number s = beginFrame number true s := if_pos hb

theorem lossNotice_of_number {number : BitVec 16} (hr : s.canvas.record = some r) (hn : r.number = number) :
    lossNotice number s = s.setCanvas { s.canvas with
    record := some { r with damaged := r.damaged || decide (r.state = .isOpen) } } := by
  have hb : beginsFrame s number = false := by simp [beginsFrame, hr, hn]
  simp only [lossNotice, hb, Bool.false_eq_true, if_false, hr]
  by_cases ho : r.state = .isOpen
  · simp [ho]
  · rw [if_neg ho, decide_eq_false ho, Bool.or_false]
    conv_lhs => rw [← State.setCanvas_self s]
    rw [← hr]

/-- A good, addressed picture unit joins the picture buffer or is lost. -/
theorem exec_unitReceived_picture {s : State} {payload : List Byte} {crc : BitVec 32} {e : FilterEntry}
    (hc : Classified s payload crc e) (hcls : e.cls = .picture) (h1 : 1 ≤ wordAt payload 6) (h2 : wordAt payload 6 ≤ 2040)
    (hlen : payload.length = 8 + 4 * wordAt payload 6) (tick : Nat) :
    exec (.unitReceived tick payload crc) s = .next (joinBuffer (pictureOfPayload payload)
      ((s.setNow (max s.now tick)).setIntake { s.intake with framer := .hunt false })) := by
  rw [exec_unitReceived_of_classified hc (by simp [hcls]) ((fitsClass_iff _ _).mpr (.inr (.inl ⟨hcls, h1, h2, hlen⟩)))]
  simp only [enterLane, hcls]
  rfl

end

/-- Settles O33: by the record the unit meets, with room in the buffer and without. -/
theorem pictureUnitsAreTracked : Obligations.PictureUnitsAreTracked := by
  intro s tick payload crc e hc hcls h1 h2 hlen u c wide high stop s' lost joined held begun
  have hexec := exec_unitReceived_picture hc hcls h1 h2 hlen tick
  have hpixels : u.pixels.length = wordAt payload 6 := length_elementsOf _ _ _ _
  have hstop : u.first + u.pixels.length = stop := by rw [hpixels]
  change exec _ s = .next (joinBuffer u _) at hexec
  -- the state in which the unit arrives
  let v := s'.setIntake { s.intake with framer := .hunt false }
  have hjoin : ∀ {mark t}, s.intake.buffer.length < 8 → trackUnit u v = (mark, t) →
      exec (.unitReceived tick payload crc) s = .next (t.joinedBuffer u mark) := fun hroom ht =>
    hexec.trans (congrArg _ (joinBuffer_of_room (s := v) hroom ht))
  have hlost : 8 ≤ s.intake.buffer.length →
      exec (.unitReceived tick payload crc) s = .next (lossNotice u.frame v.lostUnit) := fun hfull =>
    hexec.trans (congrArg _ (joinBuffer_full (s := v) hfull))
  have hjudged : ∀ {r}, c.record = some r → r.number = u.frame → trackUnit u v = judgeUnit u v := fun hr hn =>
    trackUnit_of_number (s := v) hr hn
  have hfree : ¬held → s.canvas.operator = false ∧ s.canvas.contact = false := fun h => by
    simpa [held, c, not_or] using h
  have hbegun : ∀ {d t} t', Begun u.frame d v t → t'.limiter = t.limiter → t'.mgmt = t.mgmt → t'.canvas.auto = t.canvas.auto →
      t'.canvas.autoCount = t.canvas.autoCount → t'.canvas.assignedNow = t.canvas.assignedNow →
      t'.canvas.counters.framesAssigned = t.canvas.counters.framesAssigned →
      t'.canvas.counters.framesSuperseded = t.canvas.counters.framesSuperseded → begun t' :=
    fun t' h hl hm ha hac has hfa hfs => ⟨ha.trans h.auto, hac.trans h.autoCount, has.trans h.assignedNow,
      (congrArg Limiter.accumulation hl).trans h.accumulation, hfa.trans h.assigned, hfs.trans h.superseded, hm.trans h.mgmt⟩
  refine ⟨hpixels, fun r hroom hr hn => ⟨fun hs => ?_, fun hs => ?_, fun hs hout => ?_, fun hs hline hfirst hdis => ?_,
    fun hs hline hfirst hord => ?_⟩, fun hroom hb ho hheld => ?_, fun hroom hb hheld hline hfirst => ?_,
    fun hroom hb hheld hout => ?_, fun r hfull hr hn => ?_, fun hfull hb ho hheld => ?_, fun hfull hb hheld => ?_⟩
  · exact hjoin hroom ((hjudged hr hn).trans (by simp only [judgeUnit, show v.canvas.record = some r from hr, hs]; rfl))
  · refine hjoin (t := countUnassigned v) hroom ((hjudged hr hn).trans ?_)
    rcases hs with hs | hs <;> simp only [judgeUnit, show v.canvas.record = some r from hr, hs]
  · exact hjoin hroom ((hjudged hr hn).trans ((judgeUnit_of_open (s := v) hr hs).trans (checkLine_outside (s := v) hout)))
  · exact hjoin hroom ((hjudged hr hn).trans ((judgeUnit_of_open (s := v) hr hs).trans
      (checkLine_disorder (s := v) hline hfirst hdis)))
  · have hmarked := checkLine_ordered (s := v) hline hfirst hord
    rw [Canvas.advanced, hstop] at hmarked
    exact hjoin hroom ((hjudged hr hn).trans ((judgeUnit_of_open (s := v) hr hs).trans hmarked))
  · refine hjoin (t := countUnassigned (v.setCanvas { c with record := some ⟨u.frame, .unassigned, none, none, 0, [], false⟩ }))
      hroom ((trackUnit_of_begins (s := v) hb).trans ?_)
    rw [beginFrame_of_held (s := v) u.frame false hheld ho]
    rfl
  · obtain ⟨hop, hct⟩ := hfree hheld
    have hnew := begun_beginFrame (s := v) u.frame false hop hct
    have hmarked := (judgeUnit_of_open (u := u) hnew.record rfl).trans (checkLine_ordered (by rw [hnew.bank]; exact hline)
      (by rw [hnew.bank]; exact hfirst) fun l hl => nomatch hl)
    rw [hstop, hnew.bank] at hmarked
    refine ⟨_, hjoin hroom ((trackUnit_of_begins (s := v) hb).trans hmarked), ?_, ?_, ?_, ?_⟩
    · rw [← hstop]; rfl
    · exact List.getLast?_concat
    · exact (List.length_append).trans (congrArg (· + 1) hnew.waiting)
    · exact hbegun _ hnew rfl rfl rfl rfl rfl rfl rfl
  · obtain ⟨hop, hct⟩ := hfree hheld
    have hnew := begun_beginFrame (s := v) u.frame false hop hct
    have hmarked := (judgeUnit_of_open (u := u) hnew.record rfl).trans (checkLine_outside (by rw [hnew.bank]; exact hout))
    refine ⟨_, hjoin hroom ((trackUnit_of_begins (s := v) hb).trans hmarked), hnew.record, ?_, ?_, ?_, ?_⟩
    · exact List.getLast?_concat
    · exact (List.length_append).trans (congrArg (· + 1) hnew.waiting)
    · exact hbegun _ hnew rfl rfl rfl rfl rfl rfl rfl
    · exact congrArg bump hnew.outside
  · exact (hlost hfull).trans (congrArg _ (lossNotice_of_number (s := v.lostUnit) hr hn))
  · refine (hlost hfull).trans (congrArg _ ((lossNotice_of_begins (s := v.lostUnit) hb).trans ?_))
    rw [beginFrame_of_held (s := v.lostUnit) u.frame true hheld ho]
    rfl
  · obtain ⟨hop, hct⟩ := hfree hheld
    have hnew := begun_beginFrame (s := v.lostUnit) u.frame true hop hct
    refine ⟨_, (hlost hfull).trans (congrArg _ (lossNotice_of_begins (s := v.lostUnit) hb)), hnew.record, hnew.waiting,
      hnew.counters, hnew.auto, hnew.autoCount, hnew.assignedNow, hnew.accumulation, hnew.assigned, hnew.superseded, hnew.mgmt⟩

end Sys2Proof.Machine
end

section
/-! PROOFS. The mapping engine: what it hands on as it takes a unit and at its end, and the presentation (R83 to R86). -/

namespace Sys2Proof.Machine

/-! ### Counters stepped again and again -/

theorem bumpBy_add (m n : Nat) (c : Counter) : bumpBy n (bumpBy m c) = bumpBy (m + n) c := by
  induction m generalizing c with
  | zero => rw [Nat.zero_add]; rfl
  | succ m ih => rw [Nat.succ_add]; exact ih (bump c)

/-! ### What is handed on -/

/-- A port that segments are handed to (R85, R112). -/
def Port.handed (segments : List Segment) (x : Port) : Port :=
  if x.state = .active ∧ x.broken = false then { x with unsent := x.unsent ++ segments }
  else { x with counters := { x.counters with droppedSegments := bumpBy segments.length x.counters.droppedSegments } }

@[simp] theorem Port.handed_nil (x : Port) : x.handed [] = x := by
  unfold Port.handed
  split
  · rw [List.append_nil]
  · rfl

theorem Port.handed_append (a b : List Segment) (x : Port) : x.handed (a ++ b) = (x.handed a).handed b := by
  by_cases h : x.state = .active ∧ x.broken = false
  · have ha : x.handed a = { x with unsent := x.unsent ++ a } := if_pos h
    have hb : ({ x with unsent := x.unsent ++ a } : Port).handed b = { x with unsent := x.unsent ++ a ++ b } := if_pos h
    rw [ha, hb, Port.handed, if_pos h, List.append_assoc]
  · have ha : x.handed a = { x with counters := { x.counters with
        droppedSegments := bumpBy a.length x.counters.droppedSegments } } := if_neg h
    rw [ha]
    refine (if_neg h).trans (Eq.trans ?_ (if_neg h).symm)
    rw [List.length_append, ← bumpBy_add]

/-- The segments among the pieces that go to a port. -/
def segmentsOf (p : Fin 8) (pieces : List Piece) : List Segment :=
  (pieces.filter fun x => decide (x.port = p)).map Piece.segment

theorem segmentsOf_append (p : Fin 8) (a b : List Piece) : segmentsOf p (a ++ b) = segmentsOf p a ++ segmentsOf p b := by
  simp [segmentsOf]

section
variable {s t u : State} {segments segments' : List Piece} {values values' : List (Fin 256 × List (Nat × Nat × Nat))}

theorem HandedOn.port (h : HandedOn s t segments values) (p : Fin 8) : t.port p = (s.port p).handed (segmentsOf p segments) := h.1 p

theorem HandedOn.refl (s : State) : HandedOn s s [] [] :=
  ⟨fun p => (Port.handed_nil _).symm, fun _ => rfl, fun a ha => ⟨a, by rw [← ha], fun _ => ⟨rfl, rfl, rfl⟩⟩⟩

/-- Handing on more carries on from what was handed on. -/
theorem HandedOn.trans (h : HandedOn s t segments values) (h' : HandedOn t u segments' values') :
    HandedOn s u (segments ++ segments') (values ++ values') := by
  have hports : ∀ p, u.port p = (s.port p).handed (segmentsOf p (segments ++ segments')) := fun p => by
    rw [segmentsOf_append, Port.handed_append, ← h.port, ← h'.port]
  obtain ⟨-, hnone, hsome⟩ := h
  obtain ⟨-, hnone', hsome'⟩ := h'
  refine ⟨hports, fun hn => ?_, fun a ha => ?_⟩
  · rw [hnone' ((congrArg Limiter.accumulation (hnone hn)).trans hn), hnone hn]
  · obtain ⟨a', hl, hsum⟩ := hsome a ha
    obtain ⟨a'', hl', hsum'⟩ := hsome' a' (by rw [hl])
    refine ⟨a'', by rw [hl', hl], fun i => ?_⟩
    obtain ⟨hr, hc, hs⟩ := hsum i
    obtain ⟨hr', hc', hs'⟩ := hsum' i
    simp only [List.filter_append, List.flatMap_append, List.length_append, List.map_append, List.sum_append]
    exact ⟨hr'.trans hr, by rw [hc', hc, Nat.add_assoc], by rw [hs', hs, Nat.add_assoc]⟩

theorem handSegment_port (p : Fin 8) (g : Segment) (s : State) : handSegment p g s = s.setPort p ((s.port p).handed [g]) := by
  simp only [handSegment, Port.handed]
  split <;> rfl

theorem handedOn_handSegment (x : Piece) (s : State) : HandedOn s (handSegment x.port x.segment s) [x] [] := by
  rw [handSegment_port]
  refine ⟨fun p => ?_, fun _ => rfl, fun a ha => ⟨a, by rw [← ha]; rfl, fun i => ⟨rfl, rfl, rfl⟩⟩⟩
  change _ = (s.port p).handed (segmentsOf p [x])
  by_cases hp : x.port = p
  · subst hp
    rw [port_setPort_self]
    simp [segmentsOf]
  · rw [port_setPort_ne s hp]
    simp [segmentsOf, hp]

theorem handedOn_accumulate (entry : Fin 256) (v : Nat × Nat × Nat) (s : State) :
    HandedOn s (accumulate entry v s) [] [(entry, [v])] := by
  have hports : (accumulate entry v s).ports = s.ports := OnlyChanges.ports (l := [.accumulation]) (by simp) rfl
  refine ⟨fun p => ?_, fun hn => ?_, fun a ha => ?_⟩
  · change _ = (s.port p).handed []
    rw [State.port, hports, Port.handed_nil]
    rfl
  · simp only [accumulate, hn]
  · refine ⟨a.modify entry fun x => { x with sum := x.sum + pixelSum v, count := x.count + 1 }, ?_, fun i => ?_⟩
    · simp only [accumulate, ha]
      rfl
    · by_cases hi : entry = i
      · subst hi
        simp [pixelSum]
      · simp [hi, Tab.modify]

/-- Values handed on one by one are handed on together. -/
theorem HandedOn.regroup (h : HandedOn s t segments values)
    (hv : ∀ i, (values.filter fun x => decide (x.1 = i)).flatMap Prod.snd = (values'.filter fun x => decide (x.1 = i)).flatMap Prod.snd) :
    HandedOn s t segments values' := by
  simpa only [HandedOn, hv] using h

theorem handedOn_handValues (entry : Fin 256) (vs : List (Nat × Nat × Nat)) (s : State) :
    HandedOn s (handValues entry vs s) [] [(entry, vs)] := by
  induction vs generalizing s with
  | nil =>
    refine (HandedOn.refl s).regroup fun i => ?_
    by_cases hi : entry = i <;> simp [hi]
  | cons v vs ih =>
    refine ((handedOn_accumulate entry v s).trans (ih (accumulate entry v s))).regroup fun i => ?_
    by_cases hi : entry = i <;> simp [hi]

theorem handedOn_handPiece (x : Piece) (s : State) : HandedOn s (handPiece s x) [x] [(x.entry, x.values)] :=
  (handedOn_handSegment x s).trans (handedOn_handValues x.entry x.values _)

theorem handedOn_handPieces (pieces : List Piece) (s : State) :
    HandedOn s (pieces.foldl handPiece s) pieces (pieces.map fun x => (x.entry, x.values)) := by
  induction pieces generalizing s with
  | nil => exact .refl s
  | cons x rest ih => exact (handedOn_handPiece x s).trans (ih (handPiece s x))

theorem handedOn_handFirst (pieces : List Piece) (handed begun : Nat) (s : State) :
    HandedOn s (handFirst pieces handed begun s) (pieces.take handed) ((pieces.take handed).map (fun x => (x.entry, x.values)) ++
      (pieces[handed]?).elim [] fun x => [(x.entry, x.values.take begun)]) := by
  have hfirst := handedOn_handPieces (pieces.take handed) s
  have hhead : pieces[handed]? = (pieces.drop handed).head? := by rw [List.head?_drop]
  rw [hhead]
  simp only [handFirst]
  cases pieces.drop handed with
  | nil => simpa using hfirst
  | cons x rest => simpa using hfirst.trans (handedOn_handValues x.entry (x.values.take begun) _)

theorem handedOn_handRest (pieces : List Piece) (handed begun : Nat) (s : State) :
    HandedOn s (handRest pieces handed begun s) (pieces.drop handed) (match pieces.drop handed with
      | [] => []
      | x :: rest => (x.entry, x.values.drop begun) :: rest.map fun x => (x.entry, x.values)) := by
  simp only [handRest]
  cases pieces.drop handed with
  | nil => exact .refl s
  | cons x rest =>
    exact ((handedOn_handSegment x s).trans (handedOn_handValues x.entry (x.values.drop begun) _)).trans
      (handedOn_handPieces rest _)

/-! ### The engine takes a unit, and ends with it (R83) -/

theorem takeUnit_of_idle {u : BufferedUnit} {rest : List BufferedUnit} (he : s.canvas.engine = none)
    (hb : s.intake.buffer = u :: rest) : takeUnit s = startUnitMapping u (s.setIntake { s.intake with buffer := rest }) := by
  simp only [takeUnit, he, hb]

theorem startUnitMapping_discards {u : BufferedUnit} (hm : ∀ kept, u.mark ≠ .mapping kept) (s : State) :
    startUnitMapping u s = s.setCanvas { s.canvas with engine := some ⟨u, s.now + 8, 0, 0⟩ } := by
  simp only [startUnitMapping]
  cases h : u.mark with
  | mapping kept => exact absurd h (hm kept)
  | discard => rfl
  | late => rfl
  | unassigned => rfl

/-- The state in which the engine has taken a unit that it maps, before it hands any of it on. -/
def State.mappingFrom (u : BufferedUnit) (kept handed begun : Nat) (s : State) : State :=
  (useDraw (useDraw s)).setCanvas { s.canvas with engine := some ⟨u, s.now + mappingTicks (.mapping kept), handed, begun⟩ }

/-- How much of a unit it maps the engine hands on at the take: a number of pieces, and of the next one's values (log entry
6). -/
theorem startUnitMapping_maps {u : BufferedUnit} {kept : Nat} (hm : u.mark = .mapping kept) (s : State) :
    ∃ handed begun, handed ≤ (piecesOf s u.picture kept).length ∧
      begun ≤ (((piecesOf s u.picture kept)[handed]?).elim 0 fun x => x.values.length) ∧
      startUnitMapping u s = handFirst (piecesOf s u.picture kept) handed begun (s.mappingFrom u kept handed begun) := by
  refine ⟨freeDraw s % ((piecesOf s u.picture kept).length + 1), _, Nat.lt_succ_iff.mp (Nat.mod_lt _ (Nat.succ_pos _)),
    Nat.lt_succ_iff.mp (Nat.mod_lt (freeDraw (useDraw s)) (Nat.succ_pos _)), ?_⟩
  simp only [startUnitMapping, hm]
  rfl

theorem mappingTicks_bounds (kept : Nat) : 8 * (mappingTicks (.mapping kept) - 8) < kept + 8 ∧
    kept ≤ 8 * (mappingTicks (.mapping kept) - 8) ∧ 8 ≤ mappingTicks (.mapping kept) := by
  simp only [mappingTicks]
  omega

/-- The state in which the engine is done with a unit, at its end. -/
def State.engineIdle (due : Nat) (s : State) : State := advanceTo due (s.setCanvas { s.canvas with engine := none })

theorem finishUnit_maps {u : BufferedUnit} {due handed begun kept : Nat} (he : s.canvas.engine = some ⟨u, due, handed, begun⟩)
    (hm : u.mark = .mapping kept) :
    finishUnit s = mapLine u.picture.line (handRest (piecesOf s u.picture kept) handed begun (s.engineIdle due)) := by
  simp only [finishUnit, he, hm]
  rfl

theorem mapLine_of_open {r : FrameRecord} (y : Nat) (hr : s.canvas.record = some r) (ho : r.state = .isOpen) :
    mapLine y s = s.setCanvas { s.canvas with record := some { r with lines := insertLine y r.lines } } := by
  simp only [mapLine, hr, if_pos ho]

/-! ### Presentation at a boundary (R86) -/

theorem isDamaged_iff (b : Bank) (r : FrameRecord) :
    isDamaged b r = true ↔ r.damaged = true ∨ ∃ y, y < b.canvasH.toNat ∧ y ∉ r.lines := by
  simp [isDamaged]

/-- The canvas without its holds: the frame of the record, the engine, the notice, flag and counters. -/
def Canvas.picture (c : Canvas) : Canvas :=
  { c with
    operator := false, contact := false, auto := false, autoCount := 0, assignedNow := false, lightOperator := false
    lightHold := false }

theorem Canvas.picture_eq_iff (c d : Canvas) : c.picture = d.picture ↔ c.record = d.record ∧ c.engine = d.engine ∧
    c.notice = d.notice ∧ c.frameDamaged = d.frameDamaged ∧ c.counters = d.counters := by
  simp [Canvas.picture]

theorem isOpenRecord_presentFrame (s : State) : isOpenRecord (presentFrame s) = false := by
  cases ho : isOpenRecord s with
  | true =>
    obtain ⟨r, hr, hopen⟩ := (isOpenRecord_iff s).mp ho
    rw [presentFrame_of_open hr hopen]
    rfl
  | false =>
    rw [presentFrame_of_not_open ho]
    exact ho

theorem contactHold_of_not_open (gp : Tab 4 Bool) (ho : isOpenRecord s = false) :
    contactHold gp s = changeWall .contact { s.canvas with contact := contactHolds s gp } s := by
  have ho' : isOpenRecord (changeWall .contact { s.canvas with contact := contactHolds s gp } s) = false := by
    rw [isOpenRecord, changeWall_canvas]; exact ho
  simp only [contactHold, abandonFrame_of_not_open ho', ite_self]

theorem autoHoldBoundary_picture (s : State) : (autoHoldBoundary s).canvas.picture = s.canvas.picture := by
  rw [autoHoldBoundary_holds]
  rfl

theorem boundaryOpening_picture (s : State) :
    (boundaryOpening s).canvas.picture = (presentFrame (timingBoundary s)).canvas.picture := by
  have hset : OnlyChanges [.merge, .drive] (presentFrame (timingBoundary s))
      (applyPriorities (applySettings (presentFrame (timingBoundary s)))) := by simp
  have hsilence : OnlyChanges [.merge] (lightHoldBoundary (applyPriorities (applySettings (presentFrame (timingBoundary s)))))
      (boundaryOpening s) := by simp [boundaryOpening]
  rw [hsilence.canvas rfl, lightHoldBoundary_canvas, hset.canvas rfl]
  rfl

/-- Behind the presentation a boundary leaves the frame as presented, and the waiting units as they then stand. -/
theorem frameBoundary_presented (gp : Tab 4 Bool) (o : CommitOrder) (s : State) :
    (frameBoundary gp o s).canvas.picture = (presentFrame (timingBoundary s)).canvas.picture ∧
    (frameBoundary gp o s).intake.buffer = (presentFrame (timingBoundary s)).intake.buffer ∧
    ((presentFrame (timingBoundary s)).canvas.notice.isSome = true → (frameBoundary gp o s).limiter.accumulation = none) := by
  have hclosed := isOpenRecord_presentFrame (timingBoundary s)
  rw [frameBoundary]
  have hopening := boundaryOpening_picture s
  have hbuffer : (boundaryOpening s).intake.buffer = (presentFrame (timingBoundary s)).intake.buffer :=
    OnlyChanges.buffer (l := [.merge, .drive, .canvas, .mgmt]) (by simp [boundaryOpening]) rfl
  have hlook := boundaryLook_only (boundaryOpening s) gp o
  rw [← hlook.canvas rfl] at hopening
  rw [← hlook.buffer rfl] at hbuffer
  generalize boundaryLook gp o (boundaryOpening s) = v at hopening hbuffer
  have hauto := autoHoldBoundary_picture v
  have hautoOnly : OnlyChanges [.canvas, .mgmt] v (autoHoldBoundary v) := by simp
  have hrest : OnlyChanges [.ports, .level, .limiter, .accumulation, .mgmt, .sent, .drive, .fixture] (autoHoldBoundary v)
      (boundaryLight (boundaryWall v)) := by simp [boundaryLight, boundaryWall]
  have hpicture : (boundaryLight (boundaryWall v)).canvas.picture = (presentFrame (timingBoundary s)).canvas.picture := by
    rw [hrest.canvas rfl, hauto, hopening]
  have haccumulation : (presentFrame (timingBoundary s)).canvas.notice.isSome = true →
      (boundaryLight (boundaryWall v)).limiter.accumulation = none := fun hn => by
    have hlimiter : OnlyChanges [.ports, .level, .mgmt, .sent, .drive, .fixture]
        (limiterBoundary (sendMarkers (autoHoldBoundary v))) (boundaryLight (boundaryWall v)) := by
      simp [boundaryLight, boundaryWall]
    have heach : OnlyChanges [.limiter, .mgmt, .ports, .sent] (autoHoldBoundary v)
        (forEach updateChain (sendMarkers (autoHoldBoundary v))) := by simp
    obtain ⟨-, -, hnotice, -⟩ := (Canvas.picture_eq_iff _ _).mp (hauto.trans hopening)
    rw [hlimiter.accumulation rfl, limiterBoundary, if_pos (by rw [heach.canvas rfl, hnotice]; exact hn)]
    rfl
  have hwaiting : (boundaryLight (boundaryWall v)).intake.buffer = (presentFrame (timingBoundary s)).intake.buffer := by
    rw [hrest.buffer rfl, hautoOnly.buffer rfl, hbuffer]
  generalize boundaryLight (boundaryWall v) = w at hpicture haccumulation hwaiting
  have ho : isOpenRecord w = false := by
    obtain ⟨hrecord, -⟩ := (Canvas.picture_eq_iff _ _).mp hpicture
    rw [isOpenRecord, hrecord]; exact hclosed
  have hend : OnlyChanges [.cue, .banks, .mgmt, .timing] (contactHold gp w) (boundaryContacts gp o w) := by
    simp [boundaryContacts]
  have hhold : OnlyChanges [.canvas, .mgmt] w (contactHold gp w) := by
    rw [contactHold_of_not_open gp ho]; simp
  refine ⟨?_, ?_, fun hn => ?_⟩
  · rw [hend.canvas rfl, contactHold_of_not_open gp ho, changeWall_canvas]
    exact hpicture
  · rw [hend.buffer rfl, hhold.buffer rfl, hwaiting]
  · rw [hend.accumulation rfl, hhold.accumulation rfl, haccumulation hn]

end

/-- The presentation of an OPEN frame at a boundary reads the canvas, the active bank and the buffer as they stood before it. -/
theorem presentFrame_timingBoundary {s : State} {r : FrameRecord} (hr : s.canvas.record = some r) (ho : r.state = .isOpen) :
    (presentFrame (timingBoundary s)).canvas = (presentFrame s).canvas ∧
    (presentFrame (timingBoundary s)).intake.buffer = (presentFrame s).intake.buffer := by
  have htiming : OnlyChanges [.now, .slot, .timing, .mgmt] s (timingBoundary s) := by simp
  have hbank : (timingBoundary s).activeBank = s.activeBank := by rw [State.activeBank, htiming.banks rfl]; rfl
  rw [presentFrame_of_open (s := timingBoundary s) (by rw [htiming.canvas rfl]; exact hr) ho, presentFrame_of_open hr ho]
  simp only [State.setIntake_canvas, State.setCanvas_canvas, State.setIntake_intake, htiming.canvas rfl, htiming.buffer rfl, hbank]
  exact ⟨trivial, trivial⟩

/-- Settles O34: what the engine hands on at the take and at its end, and the presentation by itself and in a boundary. -/
theorem mappingHandsOnTheFrame : Obligations.MappingHandsOnTheFrame := by
  intro s values
  refine ⟨fun u rest he hb => ⟨fun hm => ?_, fun kept hm => ?_⟩, fun u due handed begun he => ?_, fun r hr ho => ?_,
    presentFrame_of_not_open, fun gp o => ⟨frameBoundary gp o s, exec_of_run rfl rfl, fun ho => ?_, fun r hr ho => ?_⟩⟩
  · exact exec_of_run rfl ((takeUnit_of_idle he hb).trans (startUnitMapping_discards hm _))
  · obtain ⟨handed, begun, hhanded, hbegun, hstart⟩ :=
      startUnitMapping_maps hm (s.setIntake { s.intake with buffer := rest })
    obtain ⟨hlt, hle, h8⟩ := mappingTicks_bounds kept
    have hbase := handedOn_handFirst (piecesOf s u.picture kept) handed begun
      ((s.setIntake { s.intake with buffer := rest }).mappingFrom u kept handed begun)
    have honly : OnlyChanges [.ports, .accumulation] ((s.setIntake { s.intake with buffer := rest }).mappingFrom u kept handed begun)
        (handFirst (piecesOf s u.picture kept) handed begun
          ((s.setIntake { s.intake with buffer := rest }).mappingFrom u kept handed begun)) := by simp
    exact ⟨_, mappingTicks (.mapping kept), handed, begun, exec_of_run rfl ((takeUnit_of_idle he hb).trans hstart), hlt, hle, h8,
      honly.intake rfl rfl rfl rfl, honly.now rfl, honly.canvas rfl, hhanded, hbegun, hbase⟩
  · intro idle k ends
    have hend : exec .mappingUnitEnd s = .next (finishUnit s) := exec_of_run rfl rfl
    refine ⟨fun hm => ?_, fun hm => ?_, fun hm => ?_, fun kept r hm hr ho => ?_⟩
    · exact hend.trans (by simp only [finishUnit, he, hm]; rfl)
    · exact hend.trans (by simp only [finishUnit, he, hm]; rfl)
    · exact hend.trans (by simp only [finishUnit, he, hm]; rfl)
    · intro pieces
      have hrest := handedOn_handRest pieces handed begun (s.engineIdle due)
      have honly : OnlyChanges [.ports, .accumulation] (s.engineIdle due) (handRest pieces handed begun (s.engineIdle due)) := by
        simp
      have hmap := mapLine_of_open (s := handRest pieces handed begun (s.engineIdle due)) u.picture.line
        (by rw [honly.canvas rfl]; exact hr) ho
      refine ⟨_, insertLine u.picture.line r.lines, hend.trans (congrArg _ ((finishUnit_maps he hm).trans hmap)), honly.now rfl, ?_,
        fun y => mem_insertLine, hrest⟩
      rw [State.setCanvas_canvas, honly.canvas rfl]
      rfl
  · intro hurt
    have hiff : isDamaged s.activeBank r = true ↔ hurt := isDamaged_iff _ _
    rw [presentFrame_of_open hr ho]
    refine ⟨rfl, rfl, rfl, fun h => ?_, fun h => ?_⟩
    · have hd : isDamaged s.activeBank r = true := hiff.mpr h
      simp [hd, bumpIf]
    · have hd : isDamaged s.activeBank r = false := by simpa using mt hiff.mp h
      simp [hd, bumpIf, Canvas.mappedLate]
  · have htiming : OnlyChanges [.now, .slot, .timing, .mgmt] s (timingBoundary s) := by simp
    have ho' : isOpenRecord (timingBoundary s) = false := by rw [isOpenRecord, htiming.canvas rfl]; exact ho
    obtain ⟨hpicture, hbuffer, -⟩ := frameBoundary_presented gp o s
    rw [presentFrame_of_not_open ho', State.setCanvas_canvas, htiming.canvas rfl] at hpicture
    rw [presentFrame_of_not_open ho', State.setCanvas_intake, htiming.buffer rfl] at hbuffer
    obtain ⟨hrecord, hengine, hnotice, hdamaged, hcounters⟩ := (Canvas.picture_eq_iff _ _).mp hpicture
    exact ⟨hrecord, hnotice, hengine, hdamaged, hcounters, hbuffer⟩
  · intro hurt late presents
    have hiff : isDamaged s.activeBank r = true ↔ hurt := isDamaged_iff _ _
    obtain ⟨hpicture, hbuffer, haccumulation⟩ := frameBoundary_presented gp o s
    obtain ⟨hcanvas, hwaiting⟩ := presentFrame_timingBoundary hr ho
    rw [hcanvas, presentFrame_of_open hr ho, Canvas.picture_eq_iff] at hpicture
    rw [hcanvas, presentFrame_of_open hr ho] at haccumulation
    rw [hwaiting, presentFrame_of_open hr ho] at hbuffer
    obtain ⟨hrecord, hengine, hnotice, hdamaged, hcounters⟩ := hpicture
    refine ⟨hrecord, hnotice, hengine, haccumulation rfl, hbuffer, fun h => ?_, fun h => ?_⟩
    · have hd : isDamaged s.activeBank r = true := hiff.mpr h
      rw [hd] at hdamaged hcounters
      exact ⟨hdamaged, hcounters⟩
    · have hd : isDamaged s.activeBank r = false := by simpa using mt hiff.mp h
      rw [hd] at hdamaged hcounters
      exact ⟨hdamaged, hcounters⟩

end Sys2Proof.Machine
end

section
/-! PROOFS. The merge: the highest level of the highest priority wins, and without a source the channel holds (R136, R138). -/

namespace Sys2Proof.Machine

/-! ### The winner among candidates -/

/-- A candidate wins against another by the rule's order: priority, then level, then the lower number. -/
def Beats (w c : Candidate) : Prop :=
  c.priority < w.priority ∨
    (c.priority = w.priority ∧ (c.level.toNat < w.level.toNat ∨ (c.level.toNat = w.level.toNat ∧ w.source ≤ c.source)))

theorem Beats.refl (c : Candidate) : Beats c c := .inr ⟨rfl, .inr ⟨rfl, le_rfl⟩⟩

theorem Beats.trans {a b c : Candidate} (h : Beats a b) (h' : Beats b c) : Beats a c := by
  unfold Beats at *
  omega

theorem beats_better {a b : Candidate} (h : a.source < b.source) : Beats (better a b) a ∧ Beats (better a b) b := by
  unfold better
  split
  · next hb => exact ⟨by unfold Beats; omega, .refl b⟩
  · next hb => exact ⟨.refl a, by unfold Beats; omega⟩

theorem better_mem (a b : Candidate) : better a b = a ∨ better a b = b := by
  unfold better; split
  · exact .inr rfl
  · exact .inl rfl

/-- Candidates in ascending source number. -/
def Numbered (list : List Candidate) : Prop := list.Pairwise fun a b => a.source < b.source

theorem foldl_better {rest : List Candidate} {a : Candidate} (h : Numbered (a :: rest)) :
    rest.foldl better a ∈ a :: rest ∧ ∀ c ∈ a :: rest, Beats (rest.foldl better a) c := by
  induction rest generalizing a with
  | nil => simpa using Beats.refl a
  | cons b rest ih =>
    obtain ⟨ha, hb⟩ := List.pairwise_cons.mp h
    have hstep : Numbered (better a b :: rest) := by
      refine List.pairwise_cons.mpr ⟨fun c hc => ?_, (List.pairwise_cons.mp hb).2⟩
      rcases better_mem a b with he | he
      · rw [he]; exact ha c (List.mem_cons_of_mem b hc)
      · rw [he]; exact (List.pairwise_cons.mp hb).1 c hc
    obtain ⟨hmem, hbeats⟩ := ih hstep
    obtain ⟨hfirst, hsecond⟩ := beats_better (ha b List.mem_cons_self)
    have hnew := hbeats _ List.mem_cons_self
    refine ⟨?_, fun c hc => ?_⟩
    · rcases List.mem_cons.mp hmem with he | he
      · rcases better_mem a b with hab | hab
        · rw [List.foldl_cons, he, hab]; exact List.mem_cons_self
        · rw [List.foldl_cons, he, hab]; exact List.mem_cons_of_mem _ List.mem_cons_self
      · exact List.mem_cons_of_mem _ (List.mem_cons_of_mem _ he)
    · rcases List.mem_cons.mp hc with rfl | hc
      · exact hnew.trans hfirst
      · rcases List.mem_cons.mp hc with rfl | hc
        · exact hnew.trans hsecond
        · exact hbeats c (List.mem_cons_of_mem _ hc)

theorem winner_eq_none_iff {list : List Candidate} : winner list = none ↔ list = [] := by
  cases list <;> simp [winner]

theorem winner_beats {list : List Candidate} (h : Numbered list) {w : Candidate} (hw : winner list = some w) :
    w ∈ list ∧ ∀ c ∈ list, Beats w c := by
  cases list with
  | nil => cases hw
  | cons a rest =>
    obtain rfl := Option.some.inj hw
    exact foldl_better h

/-! ### The candidates of a channel -/

section
variable {s : State} {ch : Fin 512}

/-- The candidate that an external source is, or that the Cue Engine is, covers the channel. -/
theorem mem_externals {c : Candidate} :
    c ∈ externals s ch ↔ c.source ≠ 0 ∧ Covers s ch c.source c.priority c.level := by
  have hsucc : ∀ k : Fin 3, k.succ ≠ (0 : Fin 4) := Fin.succ_ne_zero
  simp only [externals, List.mem_filterMap, List.mem_finRange, true_and, sourceCandidate, Covers, Option.ite_none_right_eq_some,
    Bool.and_eq_true, Option.some.injEq]
  constructor
  · rintro ⟨k, ⟨hl, hc⟩, rfl⟩
    exact ⟨hsucc k, .inr ⟨k, rfl, hl, hc, rfl, rfl⟩⟩
  · rintro ⟨hs, ⟨h0, -⟩ | ⟨k, hk, hl, hc, hp, hv⟩⟩
    · exact absurd h0 hs
    · refine ⟨k, ⟨hl, hc⟩, ?_⟩
      cases c
      simp_all

theorem mem_cueCandidate {c : Candidate} :
    c ∈ (cueCandidate s ch).toList ↔ c.source = 0 ∧ Covers s ch c.source c.priority c.level := by
  have hsucc : ∀ k : Fin 3, (0 : Fin 4) ≠ k.succ := fun k => (Fin.succ_ne_zero k).symm
  rw [Option.mem_toList]
  simp only [cueCandidate, Covers, Option.ite_none_left_eq_some, Option.map_eq_some_iff]
  constructor
  · rintro ⟨hs, l, hl, rfl⟩
    exact ⟨rfl, .inl ⟨rfl, hs, hl, rfl⟩⟩
  · rintro ⟨hs, ⟨-, hi, hl, hp⟩ | ⟨k, hk, -⟩⟩
    · refine ⟨hi, c.level, hl, ?_⟩
      cases c
      simp_all
    · exact absurd (hs.symm.trans hk) (hsucc k)

theorem mem_candidates {c : Candidate} : c ∈ candidates s ch ↔ Covers s ch c.source c.priority c.level := by
  rw [candidates, List.mem_append, mem_cueCandidate, mem_externals, ← or_and_right]
  simp [eq_or_ne]

theorem numbered_externals (s : State) (ch : Fin 512) : Numbered (externals s ch) := by
  refine List.Pairwise.filterMap _ (fun a b hab c hc d hd => ?_) (List.pairwise_lt_finRange 3)
  simp only [sourceCandidate, Option.mem_def, Option.ite_none_right_eq_some, Option.some.injEq] at hc hd
  obtain ⟨-, rfl⟩ := hc
  obtain ⟨-, rfl⟩ := hd
  exact Fin.succ_lt_succ_iff.mpr hab

theorem numbered_candidates (s : State) (ch : Fin 512) : Numbered (candidates s ch) := by
  refine List.pairwise_append.mpr ⟨?_, numbered_externals s ch, fun a ha b hb => ?_⟩
  · cases cueCandidate s ch <;> simp
  · rw [(mem_cueCandidate.mp ha).1]
    exact Fin.pos_of_ne_zero (mem_externals.mp hb).1

/-! ### The look -/

theorem mergeLook_look (s : State) (ch : Fin 512) :
    (mergeLook s).merge.look.get ch = lookFrom (s.merge.look.get ch) (winner (candidates s ch)) := by
  simp only [mergeLook, State.setMerge_merge, Tab.get_mapFin]

/-- A channel that no source covers holds its level. -/
theorem mergeLook_of_uncovered (h : ∀ source priority level, ¬Covers s ch source priority level) :
    (mergeLook s).merge.look.get ch = ⟨(s.merge.look.get ch).level, none⟩ := by
  have hnone : candidates s ch = [] := List.eq_nil_iff_forall_not_mem.mpr fun c hc => h _ _ _ (mem_candidates.mp hc)
  rw [mergeLook_look, hnone]
  rfl

/-- A covered channel has the winner of its sources. -/
theorem mergeLook_of_covered {source : Fin 4} {priority : Nat} {level : Level} (h : Covers s ch source priority level) :
    ∃ w top, ((mergeLook s).merge.look.get ch).decider = some w ∧ Covers s ch w top ((mergeLook s).merge.look.get ch).level ∧
      priority ≤ top ∧ (priority = top → level.toNat ≤ ((mergeLook s).merge.look.get ch).level.toNat ∧
        (level = ((mergeLook s).merge.look.get ch).level → w ≤ source)) := by
  have hmem : (⟨source, priority, level⟩ : Candidate) ∈ candidates s ch := mem_candidates.mpr h
  obtain ⟨w, hw⟩ : ∃ w, winner (candidates s ch) = some w := by
    rw [← Option.ne_none_iff_exists', Ne, winner_eq_none_iff]
    exact List.ne_nil_of_mem hmem
  obtain ⟨hin, hbeats⟩ := winner_beats (numbered_candidates s ch) hw
  have hb := hbeats _ hmem
  rw [mergeLook_look, hw]
  refine ⟨w.source, w.priority, rfl, mem_candidates.mp hin, ?_, fun hp => ⟨?_, fun hl => ?_⟩⟩
  · unfold Beats at hb; dsimp only at hb; omega
  · unfold Beats at hb; dsimp only [lookFrom] at hb ⊢; omega
  · have hl' : level.toNat = w.level.toNat := congrArg BitVec.toNat hl
    unfold Beats at hb; dsimp only at hb; omega

theorem entryLevel_of_uncovered (h : ∀ source priority level, source ≠ 0 → ¬Covers s ch source priority level) :
    entryLevel s ch = (s.merge.look.get ch).level := by
  have hnone : externals s ch = [] := List.eq_nil_iff_forall_not_mem.mpr fun c hc =>
    h _ _ _ (mem_externals.mp hc).1 (mem_externals.mp hc).2
  rw [entryLevel, hnone]
  rfl

theorem entryLevel_of_covered {source : Fin 4} {priority : Nat} {level : Level} (h0 : source ≠ 0)
    (h : Covers s ch source priority level) :
    ∃ w top, w ≠ 0 ∧ Covers s ch w top (entryLevel s ch) ∧ priority ≤ top ∧
      (priority = top → level.toNat ≤ (entryLevel s ch).toNat) := by
  have hmem : (⟨source, priority, level⟩ : Candidate) ∈ externals s ch := mem_externals.mpr ⟨h0, h⟩
  obtain ⟨w, hw⟩ : ∃ w, winner (externals s ch) = some w := by
    rw [← Option.ne_none_iff_exists', Ne, winner_eq_none_iff]
    exact List.ne_nil_of_mem hmem
  obtain ⟨hin, hbeats⟩ := winner_beats (numbered_externals s ch) hw
  have hb := hbeats _ hmem
  obtain ⟨hw0, hwc⟩ := mem_externals.mp hin
  rw [entryLevel, hw]
  refine ⟨w.source, w.priority, hw0, hwc, ?_, fun hp => ?_⟩
  · unfold Beats at hb; dsimp only at hb; omega
  · unfold Beats at hb; dsimp only [lookFrom] at hb ⊢; omega

end

/-! ### The merge of a boundary -/

/-- In IDLE the cue covers nothing. -/
def IdleCovers (s : State) : Prop := s.cue.state = .idle → ∀ ch, s.cue.cover.get ch = none

section
variable {s t : State}

theorem idleCovers_reads : Reads [.cue] IdleCovers := fun s t h hs => by
  have hc : t.cue = s.cue := h .cue (by simp)
  rw [IdleCovers, hc]; exact hs

theorem idleCovers_of_ne (h : s.cue.state ≠ .idle) : IdleCovers s := fun hi => absurd hi h

theorem idleCovers_contactGo (i : Fin 4) (hs : IdleCovers s) : IdleCovers (contactGo i s) := by
  rw [IdleCovers, contactGo_cue]
  split
  · exact nofun
  · exact hs

theorem idleCovers_contactGos (gp : Tab 4 Bool) (hs : IdleCovers s) : IdleCovers (contactGos gp s) :=
  forEach_keeps IdleCovers _ (fun i t ht => by
    unfold contactGoStep
    split
    · exact idleCovers_contactGo i ht
    · exact ht) s hs

theorem state_testFollow (hs : s.cue.state ≠ .idle) : (testFollow s).cue.state ≠ .idle := by
  rw [testFollow_cue]
  split
  · unfold followedCue
    split
    · exact nofun
    · exact hs
  · exact hs

theorem state_testCompletion (hs : s.cue.state ≠ .idle) : (testCompletion s).cue.state ≠ .idle := by
  rw [testCompletion_cue]
  split
  · exact nofun
  · exact hs

theorem state_startFade (hs : s.cue.state ≠ .idle) : (startFade s).cue.state ≠ .idle := by
  rcases hr : s.cue.target.bind (findCue s.cue.list) with _ | r
  · rwa [startFade_of_none hr]
  · rw [startFade_cue hr]; exact nofun

theorem idleCovers_cueBoundary (hs : IdleCovers s) : IdleCovers (cueBoundary s) := by
  unfold cueBoundary
  split
  · exact hs
  · next hd =>
    have hne : s.cue.state ≠ .idle := by rw [hd]; exact nofun
    split
    · exact idleCovers_of_ne (state_testFollow (state_testCompletion (state_startFade hne)))
    · exact idleCovers_of_ne hne
  · next hf =>
    have hne : (stepFade s).cue.state ≠ .idle := by change s.cue.state ≠ _; rw [hf]; exact nofun
    exact idleCovers_of_ne (state_testFollow (state_testCompletion hne))
  · exact hs
  · exact hs
  · next hr =>
    have hne : (s.setCue (restCue s.cue)).cue.state ≠ .idle := by
      simp only [State.setCue_cue, restCue]
      split <;> (change s.cue.state ≠ _; rw [hr]; exact nofun)
    exact idleCovers_of_ne (state_testFollow hne)

theorem idleCovers_takesAtBoundary (gp : Tab 4 Bool) (o : CommitOrder) (hs : IdleCovers s) :
    IdleCovers (takesAtBoundary gp o s) := by
  have hgos : ∀ s, IdleCovers s → IdleCovers (contactGos gp s) := fun s => idleCovers_contactGos gp
  have hcue : ∀ s, IdleCovers s → IdleCovers (cueBoundary s) := fun s => idleCovers_cueBoundary
  have htakes : ∀ s, IdleCovers s → IdleCovers (contactTakes gp s) := fun s =>
    idleCovers_reads.keeps (m := [.banks, .mgmt]) (by simp) (by decide)
  have hcommit : ∀ s, IdleCovers s → IdleCovers (takeBoundary s) := fun s =>
    idleCovers_reads.keeps (m := [.banks, .mgmt]) (by simp) (by decide)
  exact takeIf_keeps hcue _ (takeIf_keeps htakes _ (hcommit _ (takeIf_keeps hgos _ (takeIf_keeps hcue _
    (takeIf_keeps htakes _ hs)))))

/-- A Go keeps the coverage, and leaves IDLE for DELAY where the playback rested in it. -/
def CoverStands (c d : Cue) : Prop := d.cover = c.cover ∧ (d.state = .idle → c.state = .idle)

theorem coverStands_contactGos (gp : Tab 4 Bool) (s : State) : CoverStands s.cue (contactGos gp s).cue := by
  refine forEach_keeps (fun t => CoverStands s.cue t.cue) _ (fun i t ht => ?_) s ⟨rfl, id⟩
  unfold contactGoStep
  split
  · rw [contactGo_cue]
    split
    · exact ⟨ht.1, nofun⟩
    · exact ht
  · exact ht

/-- Two states with the same sources cover alike, where the coverage stands and IDLE covers nothing. -/
theorem covers_congr (hs : IdleCovers s) (hc : CoverStands s.cue t.cue) (hp : t.merge.priority0 = s.merge.priority0)
    (hsources : t.merge.sources = s.merge.sources) (ch : Fin 512) (source : Fin 4) (priority : Nat) (level : Level) :
    Covers t ch source priority level ↔ Covers s ch source priority level := by
  obtain ⟨hcover, hidle⟩ := hc
  have hcue : (t.cue.state ≠ .idle ∧ t.cue.cover.get ch = some level) ↔
      (s.cue.state ≠ .idle ∧ s.cue.cover.get ch = some level) := by
    rw [hcover]
    refine and_congr_left fun hl => ⟨fun _ hi => ?_, fun h hi => h (hidle hi)⟩
    rw [hs hi ch] at hl
    cases hl
  simp only [Covers, State.source, hsources, hp]
  rw [← and_assoc (a := t.cue.state ≠ .idle), hcue, and_assoc]

/-- The look of a boundary is the merge behind its takes, of the look before it; the coverage stands from there on. -/
theorem frameBoundary_merge (gp : Tab 4 Bool) (o : CommitOrder) (s : State) :
    (frameBoundary gp o s).merge = (mergeLook (takesAtBoundary gp o (boundaryOpening s))).merge ∧
    CoverStands (takesAtBoundary gp o (boundaryOpening s)).cue (frameBoundary gp o s).cue := by
  constructor
  · rw [frameBoundary, (boundaryContacts_only _ gp o).merge rfl, (boundaryLight_only _).merge rfl,
      (boundaryWall_only _).merge rfl, boundaryLook]
  · rw [frameBoundary_cue]
    have hbefore : (contactHold gp (boundaryLight (boundaryWall (boundaryLook gp o (boundaryOpening s))))).cue =
        (takesAtBoundary gp o (boundaryOpening s)).cue := by
      rw [contactHold_cue, boundaryWall_light_cue, boundaryLook_cue]
    unfold takeIf
    split
    · rw [← hbefore]; exact coverStands_contactGos gp _
    · rw [hbefore]; exact ⟨rfl, id⟩

theorem boundaryOpening_look (s : State) : (boundaryOpening s).merge.look = s.merge.look := by
  have hlight : OnlyChanges [.canvas, .mgmt] (applyPriorities (applySettings (presentFrame (timingBoundary s))))
      (lightHoldBoundary (applyPriorities (applySettings (presentFrame (timingBoundary s))))) := by simp
  have hset : OnlyChanges [.now, .slot, .buffer, .timing, .canvas, .drive, .mgmt] s
      (applySettings (presentFrame (timingBoundary s))) := by simp
  change (lightHoldBoundary (applyPriorities (applySettings (presentFrame (timingBoundary s))))).merge.look = _
  rw [hlight.merge rfl]
  exact (congrArg Merge.look (hset.merge rfl) : (applySettings (presentFrame (timingBoundary s))).merge.look = _)

end

/-- Settles O42: the winner among the candidates of a channel; a boundary merges by it. -/
theorem highestOfHighestPriorityWins : Obligations.HighestOfHighestPriorityWins := by
  refine ⟨fun s gp o hidle => ⟨frameBoundary gp o s, exec_of_run rfl rfl, fun ch => ?_⟩, fun s ch =>
    ⟨mergeLook_of_uncovered, fun _ _ _ => mergeLook_of_covered, entryLevel_of_uncovered, fun _ _ _ => entryLevel_of_covered⟩⟩
  obtain ⟨hmerge, hstands⟩ := frameBoundary_merge gp o s
  have hopen : IdleCovers (boundaryOpening s) := idleCovers_reads.keeps (boundaryOpening_only s) (by decide) hidle
  have htakes : OnlyChanges [.cue, .banks, .mgmt] (boundaryOpening s) (takesAtBoundary gp o (boundaryOpening s)) :=
    takesAtBoundary_only _ gp o
  have hold : (takesAtBoundary gp o (boundaryOpening s)).merge.look = s.merge.look := by
    rw [htakes.merge rfl, boundaryOpening_look]
  have hcovers := idleCovers_takesAtBoundary gp o hopen
  generalize takesAtBoundary gp o (boundaryOpening s) = v at hmerge hstands hold hcovers
  have hsame := covers_congr (t := frameBoundary gp o s) hcovers hstands (by rw [hmerge, mergeLook, State.setMerge_merge])
    (by rw [hmerge, mergeLook_sources]) ch
  have hnone := mergeLook_of_uncovered (s := v) (ch := ch)
  have hsome := fun source priority level => mergeLook_of_covered (s := v) (ch := ch) (source := source) (priority := priority)
    (level := level)
  simp only [← hsame, ← hmerge, hold] at hnone hsome
  exact ⟨hnone, fun source priority level => hsome source priority level⟩

end Sys2Proof.Machine
end

section
/-! PROOFS. A fade starts, runs between its levels and completes; the Cue Engine's part of a boundary (R151 to R153). -/

namespace Sys2Proof.Machine

/-! ### The level of a channel in a fade (R152) -/

section
variable {f : FadeChannel} {e : Nat}

theorem fadeStep_le (n : Nat) {time : Nat} (h : e < time) : n * e / time ≤ n :=
  Nat.div_le_of_le_mul (by rw [Nat.mul_comm time]; exact Nat.mul_le_mul_left _ h.le)

/-- Inside its time a channel is on its way from its start to its end level, cut towards the start. -/
theorem fadeLevel_toNat (h : e < f.time) : (fadeLevel e f).toNat =
    if f.start.toNat ≤ f.stop.toNat then f.start.toNat + (f.stop.toNat - f.start.toNat) * e / f.time
    else f.start.toNat - (f.start.toNat - f.stop.toNat) * e / f.time := by
  rcases fadeLevel_cases e f with ⟨rfl, -, hv⟩ | ⟨-, ht, -⟩ | ⟨-, -, hv⟩
  · rw [hv]; simp
  · exact absurd h (Nat.not_lt.mpr ht)
  · have hstart := f.start.isLt
    have hstop := f.stop.isLt
    have hup := fadeStep_le (f.stop.toNat - f.start.toNat) h
    rw [hv, BitVec.toNat_ofNat]
    refine Nat.mod_eq_of_lt ?_
    split
    · omega
    · exact lt_of_le_of_lt (Nat.sub_le _ _) hstart

theorem fadeLevel_between (e : Nat) (f : FadeChannel) :
    min f.start.toNat f.stop.toNat ≤ (fadeLevel e f).toNat ∧ (fadeLevel e f).toNat ≤ max f.start.toNat f.stop.toNat := by
  rcases fadeLevel_cases e f with ⟨-, -, hv⟩ | ⟨-, -, hv⟩ | ⟨-, ht, -⟩
  · rw [hv]; exact ⟨Nat.min_le_left _ _, Nat.le_max_left _ _⟩
  · rw [hv]; exact ⟨Nat.min_le_right _ _, Nat.le_max_right _ _⟩
  · rw [fadeLevel_toNat ht]
    have hup := fadeStep_le (f.stop.toNat - f.start.toNat) ht
    have hdown := fadeStep_le (f.start.toNat - f.stop.toNat) ht
    generalize (f.stop.toNat - f.start.toNat) * e / f.time = up at hup ⊢
    generalize (f.start.toNat - f.stop.toNat) * e / f.time = down at hdown ⊢
    split <;> omega

theorem fadeLevel_start (h : 0 < f.time ∨ f.entered = true) : fadeLevel 0 f = f.start :=
  h.elim fadeLevel_zero fadeLevel_of_entered

/-- The level at the fade start boundary: only a channel that was covered and has no time is at its end. -/
theorem fadeLevel_zero_eq (a b : Level) (time : Nat) (kept : Bool) (was : Option Level) :
    fadeLevel 0 ⟨a, b, time, kept, was.isNone⟩ = if time = 0 ∧ was ≠ none then b else a := by
  split
  · next h => exact fadeLevel_of_time_le (le_of_eq h.1) (.inr (Option.isNone_eq_false_iff.mpr (Option.isSome_iff_ne_none.mpr h.2)))
  · next h =>
    refine fadeLevel_start ((not_and_or.mp h).imp Nat.pos_of_ne_zero fun hw => ?_)
    simpa using hw

theorem fadeLevel_tdiv (h : e < f.time) : ((fadeLevel e f).toNat : Int) - f.start.toNat =
    Int.tdiv (((f.stop.toNat : Int) - f.start.toNat) * e) f.time := by
  have hquotient : ∀ a b : Nat, Int.tdiv (a : Int) (b : Int) = ((a / b : Nat) : Int) := fun _ _ => rfl
  rw [fadeLevel_toNat h]
  split
  · next hle =>
    have hcast : ((f.stop.toNat : Int) - f.start.toNat) * e = (((f.stop.toNat - f.start.toNat) * e : Nat) : Int) := by
      rw [Nat.cast_mul, Nat.cast_sub hle]
    rw [hcast, hquotient, Nat.cast_add, add_sub_cancel_left]
  · next hgt =>
    have hle := (Nat.not_le.mp hgt).le
    have hcast : ((f.stop.toNat : Int) - f.start.toNat) * e = -(((f.start.toNat - f.stop.toNat) * e : Nat) : Int) := by
      rw [Nat.cast_mul, Nat.cast_sub hle, ← Int.neg_mul, Int.neg_sub]
    have hstep := fadeStep_le (f.start.toNat - f.stop.toNat) h
    rw [hcast, Int.neg_tdiv, hquotient, Nat.cast_sub (hstep.trans (Nat.sub_le _ _))]
    ring

end

/-! ### The start of a fade, and its end (R151, R153) -/

theorem Tab.all_data {n : Nat} {α : Type} (t : Tab n α) (p : α → Bool) : t.data.all p = true ↔ ∀ i, p (t.get i) = true := by
  simp only [List.all_eq_true, Tab.mem_data, forall_exists_index, forall_apply_eq_imp_iff]

/-- The fade table of a cue by the levels as they stand, and the entry levels of a state. -/
theorem fadeChannel_eq (s : State) (r : CueRecord) (ch : Fin 512) :
    (s.cue.cover.get ch = none → cueLevel r ch = none → fadeChannel s r ch = none) ∧
    (s.cue.cover.get ch ≠ none ∨ cueLevel r ch ≠ none → fadeChannel s r ch =
      some ⟨(s.cue.cover.get ch).getD (entryLevel s ch), (cueLevel r ch).getD 0,
        if ((s.cue.cover.get ch).getD (entryLevel s ch)).toNat ≤ ((cueLevel r ch).getD 0).toNat then r.up else r.down,
        (cueLevel r ch).isSome, (s.cue.cover.get ch).isNone⟩) := by
  refine ⟨fun hw hg => ?_, fun h => if_neg ?_⟩
  · simp [fadeChannel, hw, hg]
  · cases hw : s.cue.cover.get ch with
    | none =>
      cases hg : cueLevel r ch with
      | none => simp [hw, hg] at h
      | some b => simp
    | some a => simp

theorem fadeIsOver_iff {c : Cue} (h : c.state = .fading) :
    fadeIsOver c = true ↔ ∀ ch f, c.fade.get ch = some f → fadeLevel c.elapsed f = f.stop := by
  simp only [fadeIsOver, h, decide_true, Bool.true_and, Tab.all_data]
  refine forall_congr' fun ch => ?_
  cases c.fade.get ch <;> simp

theorem startFade_mgmt {s : State} {r : CueRecord} (h : s.cue.target.bind (findCue s.cue.list) = some r) :
    (startFade s).mgmt = s.mgmt.offer .cueStarted (u16 r.number ++ opt u16 s.cue.current ++ frameBytes s.frameNo ++
      goOriginBytes s.cue.origin ++ flag s.cue.tookTake) := by
  simp only [startFade, h]
  rfl

/-! ### The Cue Engine's part of a boundary -/

/-- The record that follows the cue of reference in the list. -/
def followingCue (c : Cue) : Option CueRecord :=
  c.list.find? fun r => (c.target.or c.current).all fun k => decide (k < r.number)

theorem nextCue_eq (c : Cue) : nextCue c = followingCue c := by
  unfold nextCue followingCue
  change (match c.target.or c.current with
    | none => c.list.head?
    | some number => c.list.find? fun r => decide (number < r.number)) = _
  cases c.target.or c.current with
  | none => cases c.list <;> rfl
  | some number => rfl

/-- The cue block where a follow that is due has fired at boundary `n`: the Go of the record that follows, or a refusal
(R149, R150). -/
def goneCue (n : FrameNo) (c : Cue) : Cue :=
  match followingCue c with
  | some r => { c with
      state := .delay, target := some r.number, follow := none, delayLeft := r.delay
      start := n + 1 + BitVec.ofNat 32 r.delay, origin := .follow, tookTake := r.link
      counters := { c.counters with
        gosAccepted := bump c.counters.gosAccepted
        fadesInterrupted := if c.target = none then c.counters.fadesInterrupted else bump c.counters.fadesInterrupted } }
  | none => { c with
      follow := none, counters := { c.counters with followsRefused := bump c.counters.followsRefused } }

theorem followedCue_eq (n : FrameNo) (c : Cue) : followedCue n c = goneCue n c := by
  unfold followedCue goneCue
  rw [nextCue_eq]
  cases followingCue c with
  | none => rfl
  | some r => simp only [goCue, bumpIf_isSome, fadeStartOf]

/-- What a follow makes of a resting cue block at boundary `n`: it fires where it is due, and else the block stands (R153). -/
def Rests (n : FrameNo) (c d : Cue) : Prop :=
  ((∃ f, c.follow = some f ∧ 0 ≤ (n - f).toInt) → d = goneCue n c) ∧
    ((∀ f, c.follow = some f → (n - f).toInt < 0) → d = c)

/-- What the completion test makes of a fading cue block at boundary `n`, and then the follow (R153). -/
def Steps (n : FrameNo) (c d : Cue) : Prop :=
  (¬(∀ ch f, c.fade.get ch = some f → fadeLevel c.elapsed f = f.stop) → d = c) ∧
    ((∀ ch f, c.fade.get ch = some f → fadeLevel c.elapsed f = f.stop) → Rests n (completedCue n c) d)

section
variable {s : State}

theorem rests_testFollow (h : s.cue.state = .resting) : Rests s.frameNo s.cue (testFollow s).cue := by
  rw [testFollow_cue, followedCue_eq]
  refine ⟨fun ⟨f, hf, hdue⟩ => if_pos (followDue_of h hf hdue), fun hlate => if_neg fun hdue => ?_⟩
  simp only [followDue, Bool.and_eq_true] at hdue
  cases hf : s.cue.follow with
  | none => simp [hf] at hdue
  | some f =>
    have hneg := hlate f hf
    have hpos : 0 ≤ (s.frameNo - f).toInt := by simpa [hf, frameDiff] using hdue.2
    exact absurd hneg (Int.not_lt.mpr hpos)

theorem testFollow_of_not_resting (h : s.cue.state ≠ .resting) : (testFollow s).cue = s.cue := by
  rw [testFollow_cue, if_neg]
  simp [followDue, h]

theorem testCompletion_frameNo (s : State) : (testCompletion s).frameNo = s.frameNo := by
  have h : OnlyChanges [.cue, .mgmt] s (testCompletion s) := by simp
  rw [State.frameNo, h.timing rfl]; rfl

theorem steps_tests (h : s.cue.state = .fading) : Steps s.frameNo s.cue (testFollow (testCompletion s)).cue := by
  have hcue := testCompletion_cue s
  rw [← testCompletion_frameNo s]
  refine ⟨fun hn => ?_, fun he => ?_⟩
  · rw [if_neg (mt (fadeIsOver_iff h).mp hn)] at hcue
    rw [testFollow_of_not_resting (by rw [hcue, h]; exact nofun), hcue]
  · rw [if_pos ((fadeIsOver_iff h).mpr he), ← testCompletion_frameNo s] at hcue
    have hrests := rests_testFollow (s := testCompletion s) (by rw [hcue]; rfl)
    rwa [hcue] at hrests

theorem cueBoundary_of_waiting {k : Nat} (h : s.cue.state = .delay) (hk : s.cue.delayLeft = k + 1) :
    (cueBoundary s).cue = { s.cue with delayLeft := k } := by
  simp [cueBoundary, h, fadeStartDue, hk]

theorem steps_cueBoundary_start {r : CueRecord} (h : s.cue.state = .delay) (hk : s.cue.delayLeft = 0)
    (hr : s.cue.target.bind (findCue s.cue.list) = some r) :
    Steps s.frameNo (fadingCue (Tab.ofFn (fadeChannel s r)) s.cue) (cueBoundary s).cue := by
  have hcue := startFade_cue hr
  have honly : OnlyChanges [.cue, .mgmt] s (startFade s) := by simp
  have hframe : (startFade s).frameNo = s.frameNo := by rw [State.frameNo, honly.timing rfl]; rfl
  have hsteps := steps_tests (s := startFade s) (by rw [hcue]; rfl)
  rw [hcue, hframe] at hsteps
  have hb : cueBoundary s = testFollow (testCompletion (startFade s)) := by simp [cueBoundary, h, fadeStartDue, hk]
  rwa [hb]

theorem steps_cueBoundary_fading (h : s.cue.state = .fading) : Steps s.frameNo (steppedCue s.cue) (cueBoundary s).cue := by
  have hsteps := steps_tests (s := stepFade s) h
  have hb : cueBoundary s = testFollow (testCompletion (stepFade s)) := by simp [cueBoundary, h]
  rwa [hb]

theorem restCue_of_empty {c : Cue} (h : ∀ ch, c.fade.get ch = none) : restCue c = c :=
  if_pos ((Tab.all_data _ _).mpr fun ch => by rw [h]; rfl)

/-- The coverage of the current cue's own channels, at their end levels (R153). -/
def keptCover (c : Cue) : Tab 512 (Option Level) := c.fade.map fun f => f.bind keptLevel

theorem restCue_of_fade {c : Cue} {ch : Fin 512} (h : c.fade.get ch ≠ none) :
    restCue c = { c with cover := keptCover c, fade := Tab.replicate 512 none } := by
  refine if_neg fun hall => h ?_
  simpa using (Tab.all_data _ _).mp hall ch

theorem rests_cueBoundary (h : s.cue.state = .resting) : Rests s.frameNo (restCue s.cue) (cueBoundary s).cue := by
  have hstate : (restCue s.cue).state = .resting := by unfold restCue; split <;> exact h
  have hb : cueBoundary s = testFollow (s.setCue (restCue s.cue)) := by simp [cueBoundary, h]
  rw [hb]
  exact rests_testFollow (s := s.setCue (restCue s.cue)) hstate

theorem cueBoundary_of_standing (h : s.cue.state = .idle ∨ s.cue.state = .haltedDelay ∨ s.cue.state = .haltedFading) :
    cueBoundary s = s := by
  rcases h with h | h | h <;> simp only [cueBoundary, h]

end

/-! ### A boundary without a contact Go -/

theorem contactGos_of_none {s : State} (gp : Tab 4 Bool) (h : ∀ i, s.timing.functions.get i ≠ .go) : contactGos gp s = s := by
  have hstand : ∀ i, contactGoStep gp i s = s := fun i => contactGoStep_of_not gp fun hg => h i hg.1
  rw [contactGos_eq, hstand, hstand, hstand, hstand]

/-- Without a contact Go the cue block of a boundary is what the Cue Engine's part makes of it, in a state with the sources
and the look that meet there. -/
theorem frameBoundary_cue_of_no_go (gp : Tab 4 Bool) (o : CommitOrder) {s : State} (h : ∀ i, s.timing.functions.get i ≠ .go) :
    ∃ u : State, u.cue = s.cue ∧ u.frameNo = (frameBoundary gp o s).timing.frame ∧ u.merge = (boundaryOpening s).merge ∧
      (frameBoundary gp o s).cue = (cueBoundary u).cue ∧
      (takesAtBoundary gp o (boundaryOpening s)).cue = (cueBoundary u).cue := by
  obtain ⟨-, hfunctions⟩ := boundaryOpening_contacts s
  have hcue := boundaryOpening_cue s
  have hframe : (frameBoundary gp o s).timing.frame = (boundaryOpening s).timing.frame := by simp [frameBoundary]
  have hnone : ∀ u, u.timing = (boundaryOpening s).timing → ∀ b, takeIf b (contactGos gp) u = u := fun u hu b => by
    unfold takeIf
    split
    · exact contactGos_of_none gp (by rw [hu, hfunctions]; exact h)
    · rfl
  rw [hframe, frameBoundary_cue]
  generalize boundaryOpening s = v at hcue hnone
  have htaken : ∀ b u, OnlyChanges [.banks, .mgmt] u (takeIf b (contactTakes gp) u) := fun b u => by simp
  have hcommit : ∀ u, OnlyChanges [.banks, .mgmt] u (takeBoundary u) := fun u => by simp
  have hlast : (takeIf (!o.gosFirst) (contactGos gp) (contactHold gp (boundaryLight (boundaryWall (boundaryLook gp o v))))).cue =
      (takesAtBoundary gp o v).cue := by
    rw [hnone _ (by simp), contactHold_cue, boundaryWall_light_cue, boundaryLook_cue]
  rw [hlast]
  cases hf : cuesFirst o with
  | true =>
    refine ⟨takeIf o.contactsFirst (contactTakes gp) v, ((htaken _ v).cue rfl).trans hcue, ?_, (htaken _ v).merge rfl, ?_⟩
    · rw [State.frameNo, (htaken _ v).timing rfl]
    · refine (and_self_iff).mpr ?_
      simp only [takesAtBoundary, hf, takeIf_true, Bool.not_true, takeIf_false]
      rw [hnone _ (by simp [(htaken _ v).timing rfl]), (htaken _ _).cue rfl, (hcommit _).cue rfl]
  | false =>
    have hbefore : OnlyChanges [.banks, .mgmt] v (takeIf (!o.contactsFirst) (contactTakes gp) (takeBoundary
        (takeIf o.gosFirst (contactGos gp) (takeIf false cueBoundary (takeIf o.contactsFirst (contactTakes gp) v))))) := by
      rw [takeIf_false, hnone _ ((htaken _ v).timing rfl)]
      simp
    refine ⟨_, (hbefore.cue rfl).trans hcue, ?_, hbefore.merge rfl, ?_⟩
    · rw [State.frameNo, hbefore.timing rfl]
    · simp only [takesAtBoundary, hf, Bool.not_false, takeIf_true, and_self]

/-- The fade table that starts at a boundary reads the entry levels of the sources as they stand there. -/
theorem entryLevel_congr {s t : State} (hsources : t.merge.sources = s.merge.sources) (hlook : t.merge.look = s.merge.look)
    (ch : Fin 512) : entryLevel t ch = entryLevel s ch := by
  have hcandidate : sourceCandidate t ch = sourceCandidate s ch := by
    funext k
    have hk : t.source k = s.source k := by rw [State.source, hsources]; rfl
    rw [sourceCandidate, sourceCandidate, hk]
  rw [entryLevel, entryLevel, hlook, externals, externals, hcandidate]

/-- A source covers a channel with one priority and one level. -/
theorem Covers.unique {s : State} {ch : Fin 512} {source : Fin 4} {p p' : Nat} {l l' : Level} (h : Covers s ch source p l)
    (h' : Covers s ch source p' l') : p = p' ∧ l = l' := by
  rcases h with ⟨h0, -, hl, hp⟩ | ⟨k, hk, -, -, hp, hl⟩
  · rcases h' with ⟨-, -, hl', hp'⟩ | ⟨k', hk', -⟩
    · exact ⟨hp.trans hp'.symm, Option.some.inj (hl.symm.trans hl')⟩
    · exact absurd (hk'.symm.trans h0) (Fin.succ_ne_zero k')
  · rcases h' with ⟨h0, -⟩ | ⟨k', hk', -, -, hp', hl'⟩
    · exact absurd (hk.symm.trans h0) (Fin.succ_ne_zero k)
    · obtain rfl := Fin.succ_injective 3 (hk.symm.trans hk')
      exact ⟨hp.trans hp'.symm, hl.trans hl'.symm⟩

/-- A channel that newly enters the coverage has its entry level in the merge, whatever the priority of S0 (R138, R151). -/
theorem mergeLook_of_entry {s : State} {ch : Fin 512} (hs : s.cue.state ≠ .idle)
    (hc : s.cue.cover.get ch = some (entryLevel s ch)) :
    ((mergeLook s).merge.look.get ch).level = entryLevel s ch := by
  have hcovers : Covers s ch 0 s.merge.priority0 (entryLevel s ch) := .inl ⟨rfl, hs, hc, rfl⟩
  obtain ⟨w, top, hdecider, hw, -⟩ := mergeLook_of_covered hcovers
  by_cases h0 : w = 0
  · subst h0
    exact (hw.unique hcovers).2
  · -- the entry level is an external source's too, and that source and the winner bound each other
    obtain ⟨e, etop, he0, he, hle, hup⟩ := entryLevel_of_covered h0 hw
    obtain ⟨w', top', hdecider', hw', hle', hdown⟩ := mergeLook_of_covered he
    obtain rfl := Option.some.inj (hdecider.symm.trans hdecider')
    obtain ⟨rfl, -⟩ := hw.unique hw'
    have htop : top = etop := Nat.le_antisymm hle hle'
    exact BitVec.eq_of_toNat_eq (Nat.le_antisymm (hup htop) (hdown htop.symm).1)

theorem cover_testCompletion (s : State) : (testCompletion s).cue.cover = s.cue.cover := by
  rw [testCompletion_cue]; split <;> rfl

theorem cover_testFollow (s : State) : (testFollow s).cue.cover = s.cue.cover := by
  rw [testFollow_cue]
  split
  · unfold followedCue; split <;> rfl
  · rfl

theorem cover_cueBoundary_start {s : State} {r : CueRecord} (h : s.cue.state = .delay) (hk : s.cue.delayLeft = 0)
    (hr : s.cue.target.bind (findCue s.cue.list) = some r) :
    (cueBoundary s).cue.cover = fadeCover 0 (Tab.ofFn (fadeChannel s r)) ∧ (cueBoundary s).cue.state ≠ .idle := by
  have hb : cueBoundary s = testFollow (testCompletion (startFade s)) := by simp [cueBoundary, h, fadeStartDue, hk]
  rw [hb]
  refine ⟨?_, state_testFollow (state_testCompletion (state_startFade (by rw [h]; exact nofun)))⟩
  rw [cover_testFollow, cover_testCompletion, startFade_cue hr]
  rfl

/-- Settles O45: the rows as they run, the level of a channel by its cases, and a boundary by the state of playback. -/
theorem fadesRunBetweenTheirLevels : Obligations.FadesRunBetweenTheirLevels := by
  refine ⟨fun s number r hs hk ht hr => ?_, fun f e => ?_, fun s hs => ?_, fun s gp o hgo => ?_⟩
  · have hbind : s.cue.target.bind (findCue s.cue.list) = some r := by rw [ht]; exact hr
    have hdue : fadeStartDue s.cue = true := by simp [fadeStartDue, hs, hk]
    have hcue := startFade_cue hbind
    refine ⟨startFade s, exec_of_run rfl (if_pos hdue), by rw [hcue]; rfl, by rw [hcue]; rfl, by rw [hcue]; exact ht,
      by rw [hcue]; rfl, startFade_mgmt hbind, fun ch => ?_⟩
    obtain ⟨hnone, hsome⟩ := fadeChannel_eq s r ch
    have hfade : (fadingCue (Tab.ofFn (fadeChannel s r)) s.cue).fade.get ch = fadeChannel s r ch := Tab.get_ofFn _ _
    have hcover : (fadingCue (Tab.ofFn (fadeChannel s r)) s.cue).cover.get ch = (fadeChannel s r ch).map (fadeLevel 0) := by
      simp only [fadingCue, fadeCover, Tab.get_map, Tab.get_ofFn]
    rw [hcue, hfade, hcover]
    refine ⟨fun hw hg => by rw [hnone hw hg]; exact ⟨rfl, rfl⟩, fun h => ?_⟩
    refine ⟨(s.cue.cover.get ch).getD (entryLevel s ch), (cueLevel r ch).getD 0, ?_, ?_, hsome h, ?_⟩
    · cases s.cue.cover.get ch <;> simp
    · cases cueLevel r ch <;> simp
    · rw [hsome h, Option.map_some]
      exact congrArg some (fadeLevel_zero_eq _ _ _ _ _)
  · exact ⟨(fadeLevel_between e f).1, (fadeLevel_between e f).2, fadeLevel_of_time_le, fadeLevel_start,
      fadeLevel_tdiv⟩
  · intro ended follow boundary
    refine ⟨fun hn => ?_, fun he => ?_⟩
    · exact exec_of_run rfl (if_neg (mt (fadeIsOver_iff hs).mp hn))
    · refine exec_of_run rfl ((if_pos ((fadeIsOver_iff hs).mpr he)).trans ?_)
      rfl
  · obtain ⟨u, hcue, hframe, hmerge, hend, htakes⟩ := frameBoundary_cue_of_no_go gp o hgo
    refine ⟨frameBoundary gp o s, exec_of_run rfl rfl, ?_⟩
    obtain ⟨hlooked, -⟩ := frameBoundary_merge gp o s
    have hopen : OnlyChanges [.cue, .banks, .mgmt] (boundaryOpening s) (takesAtBoundary gp o (boundaryOpening s)) :=
      takesAtBoundary_only _ gp o
    have hsources : (frameBoundary gp o s).merge.sources = u.merge.sources := by
      rw [hlooked, mergeLook_sources, hopen.merge rfl, hmerge]
    have hentry : ∀ ch, entryLevel (s.setMerge { s.merge with sources := (frameBoundary gp o s).merge.sources }) ch =
        entryLevel u ch := entryLevel_congr hsources (by rw [hmerge, boundaryOpening_look]; rfl)
    rw [← hframe, hend, ← hcue]
    refine ⟨fun h => congrArg State.cue (cueBoundary_of_standing h), fun k h hk => cueBoundary_of_waiting h hk,
      fun number r h hk ht hr => ?_, fun h => ?_, fun h => ?_⟩
    · have hbind : u.cue.target.bind (findCue u.cue.list) = some r := by rw [ht]; exact hr
      obtain ⟨hcover, hstate⟩ := cover_cueBoundary_start h hk hbind
      have hcovered : ∀ ch, (fadeCover 0 (Tab.ofFn (fadeChannel u r))).get ch = (fadeChannel u r ch).map (fadeLevel 0) :=
        fun ch => by simp only [fadeCover, Tab.get_map, Tab.get_ofFn]
      refine ⟨Tab.ofFn (fadeChannel u r), fadeCover 0 (Tab.ofFn (fadeChannel u r)), fun ch => ?_, fun ch => ?_,
        fun ch hw hg => ?_, steps_cueBoundary_start h hk hbind⟩
      · rw [Tab.get_ofFn, hentry]
        exact fadeChannel_eq u r ch
      · rw [hcovered, Tab.get_ofFn]
      · have hsame : entryLevel (takesAtBoundary gp o (boundaryOpening s)) ch = entryLevel u ch :=
          entryLevel_congr (by rw [hopen.merge rfl, hmerge]) (by rw [hopen.merge rfl, hmerge]) ch
        have hchannel := (fadeChannel_eq u r ch).2 (.inr hg)
        rw [hw] at hchannel
        rw [hentry, hlooked, ← hsame]
        refine mergeLook_of_entry (by rw [htakes]; exact hstate) ?_
        rw [htakes, hcover, hcovered, hchannel, Option.map_some, fadeLevel_of_entered rfl, hsame]
        rfl
    · exact ⟨fadeCover (u.cue.elapsed + 1) u.cue.fade, fun ch => by rw [fadeCover, Tab.get_map], steps_cueBoundary_fading h⟩
    · have hrests := rests_cueBoundary h
      refine ⟨fun hnone => ?_, fun ⟨ch, hch⟩ => ⟨keptCover u.cue, fun ch => by rw [keptCover, Tab.get_map]; rfl, ?_⟩⟩
      · rw [restCue_of_empty hnone] at hrests
        exact hrests
      · rw [restCue_of_fade hch] at hrests
        exact hrests

end Sys2Proof.Machine
end

section
/-! PROOFS. A boundary begins an interval: its number, its length, the mark it takes, and what the lock machine makes of the
mark or of its absence (R19, R27 to R33). -/

namespace Sys2Proof.Machine

/-! ### The timing of a boundary as a function of the timing before it -/

/-- The timing numbered by a taken mark, or counted on (R32). -/
def numbered (taken : Option TimeMark) (t : Timing) : Timing :=
  match taken with
  | none => { t with frame := t.frame + 1 }
  | some m => { t with
      frame := markNumber t.nextBoundary t.length m
      counters := { t.counters with
        marksTaken := bump t.counters.marksTaken
        lateMarks := bumpIf (isLateMark t.nextBoundary t.length m) t.counters.lateMarks
        renumberings := bumpIf (markNumber t.nextBoundary t.length m ≠ t.frame + 1) t.counters.renumberings } }

/-- The lock machine's part: a taken mark under MARKS, or a boundary without a reference. -/
def referenced (taken : Option TimeMark) (t : Timing) : Timing :=
  match taken with
  | none => waitTiming t
  | some m => if t.reference = .marks then markTiming t.nextBoundary m t else waitTiming t

theorem numbered_standing (taken : Option TimeMark) (t : Timing) :
    (numbered taken t).nextBoundary = t.nextBoundary ∧ (numbered taken t).k = t.k := by cases taken <;> exact ⟨rfl, rfl⟩

theorem numberBoundary_numbered (s : State) : (numberBoundary s).timing = numbered (takenMark s) s.timing := by
  simp only [numberBoundary, numbered]
  cases takenMark s with
  | none => rfl
  | some m =>
    dsimp only
    split <;> rfl

theorem referenceBoundary_referenced (taken : Option TimeMark) (s : State) :
    (referenceBoundary taken s).timing = referenced taken s.timing := by
  unfold referenceBoundary referenced
  cases taken with
  | none => exact changeTiming_timing _ _
  | some m =>
    dsimp only
    split <;> exact changeTiming_timing _ _

theorem frameBoundary_timing_eq (gp : Tab 4 Bool) (o : CommitOrder) (s : State) :
    (frameBoundary gp o s).timing =
      { fixedTiming s.timing.period (referenced (takenMark s) (numbered (takenMark s) s.timing)) with samples := gp } := by
  rw [frameBoundary_timing, timingBoundary_timing, referenceBoundary_referenced, numberBoundary_numbered]
  rfl

/-! ### A boundary without a reference (R29 to R31) -/

section
variable {t : Timing}

theorem marksAcquisitionOver_iff :
    marksAcquisitionOver t = true ↔ t.reference = .marks ∧ t.lock = .acquiring ∧ 99 ≤ t.markWait := by
  simp [marksAcquisitionOver, and_assoc]

theorem marksReferenceOver_iff :
    marksReferenceOver t = true ↔ t.reference = .marks ∧ t.lock = .locked ∧ 99 ≤ t.markWait := by
  simp [marksReferenceOver, and_assoc]

theorem holdoverIsOver_iff : holdoverIsOver t = true ↔ t.lock = .holdover ∧ 249 ≤ t.holdoverCount := by
  simp [holdoverIsOver]

theorem waitTiming_acquiring_over (hr : t.reference = .marks) (hl : t.lock = .acquiring) (hw : 99 ≤ t.markWait) :
    waitTiming t = timeOutAcquisition t := if_pos (marksAcquisitionOver_iff.mpr ⟨hr, hl, hw⟩)

theorem waitTiming_locked_over (hr : t.reference = .marks) (hl : t.lock = .locked) (hw : 99 ≤ t.markWait) :
    waitTiming t = enterHoldover t := by
  have h1 : ¬marksAcquisitionOver t = true := fun h => by simp [marksAcquisitionOver_iff, hl] at h
  exact (if_neg h1).trans (if_pos (marksReferenceOver_iff.mpr ⟨hr, hl, hw⟩))

theorem waitTiming_marks (hr : t.reference = .marks) (hl : t.lock = .acquiring ∨ t.lock = .locked) (hw : t.markWait < 99) :
    waitTiming t = { t with markWait := t.markWait + 1 } := by
  have h1 : ¬marksAcquisitionOver t = true := fun h => Nat.not_le.mpr hw (marksAcquisitionOver_iff.mp h).2.2
  have h2 : ¬marksReferenceOver t = true := fun h => Nat.not_le.mpr hw (marksReferenceOver_iff.mp h).2.2
  have h3 : t.lock ≠ .holdover := by rcases hl with h | h <;> simp [h]
  have h4 : ¬holdoverIsOver t = true := fun h => h3 (holdoverIsOver_iff.mp h).1
  simp only [waitTiming, if_neg h1, if_neg h2, if_neg h4, if_neg h3, if_pos (And.intro hr hl)]

theorem waitTiming_holdover_over (hl : t.lock = .holdover) (hc : 249 ≤ t.holdoverCount) : waitTiming t = endHoldover t := by
  have h1 : ¬marksAcquisitionOver t = true := fun h => by simp [marksAcquisitionOver_iff, hl] at h
  have h2 : ¬marksReferenceOver t = true := fun h => by simp [marksReferenceOver_iff, hl] at h
  simp only [waitTiming, if_neg h1, if_neg h2, if_pos (holdoverIsOver_iff.mpr ⟨hl, hc⟩)]

theorem waitTiming_holdover (hl : t.lock = .holdover) (hc : t.holdoverCount < 249) :
    waitTiming t = { t with holdoverCount := t.holdoverCount + 1 } := by
  have h1 : ¬marksAcquisitionOver t = true := fun h => by simp [marksAcquisitionOver_iff, hl] at h
  have h2 : ¬marksReferenceOver t = true := fun h => by simp [marksReferenceOver_iff, hl] at h
  have h4 : ¬holdoverIsOver t = true := fun h => Nat.not_le.mpr hc (holdoverIsOver_iff.mp h).2
  simp only [waitTiming, if_neg h1, if_neg h2, if_neg h4, if_pos hl]

theorem waitTiming_standing_still (h : t.lock = .free ∨ (t.reference ≠ .marks ∧ t.lock ≠ .holdover)) : waitTiming t = t := by
  have h1 : ¬marksAcquisitionOver t = true := fun hm => by
    obtain ⟨hr, hl, -⟩ := marksAcquisitionOver_iff.mp hm
    simp [hr, hl] at h
  have h2 : ¬marksReferenceOver t = true := fun hm => by
    obtain ⟨hr, hl, -⟩ := marksReferenceOver_iff.mp hm
    simp [hr, hl] at h
  have h3 : t.lock ≠ .holdover := by
    rcases h with h | h
    · rw [h]; exact nofun
    · exact h.2
  have h4 : ¬holdoverIsOver t = true := fun hm => h3 (holdoverIsOver_iff.mp hm).1
  have h5 : ¬(t.reference = .marks ∧ (t.lock = .acquiring ∨ t.lock = .locked)) := by
    rintro ⟨hr, hl⟩
    rcases h with h | ⟨hn, -⟩
    · rw [h] at hl; simp at hl
    · exact hn hr
  simp only [waitTiming, if_neg h1, if_neg h2, if_neg h3, if_neg h4, if_neg h5]

theorem lock_of_waitTiming_locked (h : (waitTiming t).lock = .locked) : t.lock = .locked := by
  unfold waitTiming at h
  repeat' split at h
  · cases h
  · cases h
  · cases h
  all_goals exact h

/-- A lock that is kept without a reference has only its wait changed. -/
theorem waitTiming_locked (h : (waitTiming t).lock = .locked) : waitTiming t = { t with markWait := (waitTiming t).markWait } := by
  have hl := lock_of_waitTiming_locked h
  by_cases hr : t.reference = .marks
  · by_cases hw : 99 ≤ t.markWait
    · rw [waitTiming_locked_over hr hl hw] at h; cases h
    · rw [waitTiming_marks hr (.inr hl) (Nat.not_le.mp hw)]
  · rw [waitTiming_standing_still (.inr ⟨hr, by rw [hl]; exact nofun⟩)]

theorem waitTiming_period (t : Timing) : (waitTiming t).period = t.period := by
  unfold waitTiming
  repeat' split
  all_goals rfl

/-- What the lock machine leaves of the timing at a boundary: its number and tick, K, and the counters of the marks taken. -/
def Timing.numbering (t : Timing) : FrameNo × Nat × Nat × Counter × Counter × Counter :=
  (t.frame, t.nextBoundary, t.k, t.counters.marksTaken, t.counters.lateMarks, t.counters.renumberings)

theorem waitTiming_numbering (t : Timing) : (waitTiming t).numbering = t.numbering := by
  unfold waitTiming
  repeat' split
  all_goals rfl

theorem markTiming_numbering (tb : Nat) (m : TimeMark) (t : Timing) : (markTiming tb m t).numbering = t.numbering := by
  unfold markTiming
  split
  · rfl
  · rfl
  · unfold acquireMark lockToMarks
    repeat' split
    all_goals rfl
  · unfold trackMark; split <;> rfl

theorem referenced_numbering (taken : Option TimeMark) (t : Timing) : (referenced taken t).numbering = t.numbering := by
  unfold referenced
  split
  · exact waitTiming_numbering t
  · split
    · exact markTiming_numbering _ _ t
    · exact waitTiming_numbering t

/-! ### A mark as reference (R30, R31) -/

variable {tb : Nat} {m last first : TimeMark} {estimate : Int}

theorem periodEstimate_of_valid (hf : 1 ≤ (m.frame - last.frame).toInt)
    (hlow : 1000000 ≤ ((namedInstant m : Int) - (namedInstant last : Int)) / (m.frame - last.frame).toInt)
    (hhigh : ((namedInstant m : Int) - (namedInstant last : Int)) / (m.frame - last.frame).toInt ≤ 4500000) :
    periodEstimate last m = some (((namedInstant m : Int) - (namedInstant last : Int)) / (m.frame - last.frame).toInt) :=
  if_pos ⟨hf, inPeriodRange_iff.mpr ⟨hlow, hhigh⟩⟩

theorem periodEstimate_of_invalid (h : ¬(1 ≤ (m.frame - last.frame).toInt ∧
    1000000 ≤ ((namedInstant m : Int) - (namedInstant last : Int)) / (m.frame - last.frame).toInt ∧
    ((namedInstant m : Int) - (namedInstant last : Int)) / (m.frame - last.frame).toInt ≤ 4500000)) :
    periodEstimate last m = none :=
  if_neg fun hv => h ⟨hv.1, inPeriodRange_iff.mp hv.2⟩

theorem acquireMark_invalid (hl : t.lastMark = some last) (h : periodEstimate last m = none) :
    acquireMark tb m t = countInvalid (startMarkRun m t) := by
  simp only [acquireMark, hl, Option.getD_some, h]

theorem acquireMark_second (hl : t.lastMark = some last) (h : periodEstimate last m = some estimate) (hr : t.runMarks ≤ 1) :
    acquireMark tb m t = { t with lastMark := some m, runMarks := 2, secondEstimate := estimate, markWait := 0 } := by
  simp only [acquireMark, hl, Option.getD_some, h, if_pos hr]

theorem acquireMark_differing (hl : t.lastMark = some last) (h : periodEstimate last m = some estimate) (hr : 1 < t.runMarks)
    (hn : ¬(estimate - t.secondEstimate).natAbs ≤ t.period / 1024) :
    acquireMark tb m t = countInvalid (startMarkRun m t) := by
  simp only [acquireMark, hl, Option.getD_some, h, if_neg (Nat.not_le.mpr hr), if_neg hn]

theorem acquireMark_third (hl : t.lastMark = some last) (h : periodEstimate last m = some estimate) (hr : 1 < t.runMarks)
    (hn : (estimate - t.secondEstimate).natAbs ≤ t.period / 1024) : acquireMark tb m t = lockToMarks tb m t := by
  simp only [acquireMark, hl, Option.getD_some, h, if_neg (Nat.not_le.mpr hr), if_pos hn]

theorem trackMark_invalid (hl : t.lastMark = some last) (h : periodEstimate last m = none) :
    trackMark tb m t = countInvalid { t with lastMark := some m, markWait := 0 } := by
  simp only [trackMark, hl, Option.getD_some, h]

theorem trackMark_valid (hl : t.lastMark = some last) (h : periodEstimate last m = some estimate) :
    trackMark tb m t = setError (wrapError ((tb : Int) - (namedInstant m : Int)) (trackPeriod t.period estimate))
      { t with lastMark := some m, markWait := 0, period := trackPeriod t.period estimate } := by
  simp only [trackMark, hl, Option.getD_some, h]
  rfl

end

/-! ### The number of a boundary, and the event that renumbers (R32) -/

theorem takenMark_iff {s : State} {m : TimeMark} (h : s.intake.slot = some m) :
    takenMark s = some m ↔
      namedInstant m ≤ s.timing.nextBoundary + ((s.timing.period : Int) - boundaryStep s.timing s.timing.period).toNat / 2 := by
  simp [takenMark, h, takesMark]

theorem slot_of_takenMark {s : State} {m : TimeMark} (h : takenMark s = some m) : s.intake.slot = some m :=
  (Option.filter_eq_some_iff.mp h).1

theorem timingBoundary_slot (s : State) :
    (timingBoundary s).intake.slot = if (takenMark s).isSome then none else s.intake.slot := by
  have hafter : OnlyChanges [.timing, .mgmt] (numberBoundary (advanceTo s.timing.nextBoundary s)) (timingBoundary s) := by
    simp [timingBoundary]
  rw [hafter.slot rfl]
  have htaken : takenMark (advanceTo s.timing.nextBoundary s) = takenMark s := rfl
  simp only [numberBoundary, htaken]
  cases takenMark s with
  | none => rfl
  | some m =>
    dsimp only
    split <;> rfl

theorem frameBoundary_slot (gp : Tab 4 Bool) (o : CommitOrder) (s : State) :
    (frameBoundary gp o s).intake.slot = if (takenMark s).isSome then none else s.intake.slot := by
  rw [← timingBoundary_slot]
  have hopen : OnlyChanges [.buffer, .merge, .canvas, .drive, .mgmt] (timingBoundary s) (boundaryOpening s) := by
    simp [boundaryOpening]
  have hlook := boundaryLook_only (boundaryOpening s) gp o
  have hwall := boundaryWall_only (boundaryLook gp o (boundaryOpening s))
  have hlight := boundaryLight_only (boundaryWall (boundaryLook gp o (boundaryOpening s)))
  have hend := boundaryContacts_only (boundaryLight (boundaryWall (boundaryLook gp o (boundaryOpening s)))) gp o
  rw [frameBoundary, hend.slot rfl, hlight.slot rfl, hwall.slot rfl, hlook.slot rfl, hopen.slot rfl]

theorem frameBoundary_now (gp : Tab 4 Bool) (o : CommitOrder) (s : State) :
    (frameBoundary gp o s).now = max s.now s.timing.nextBoundary := by
  have htiming : OnlyChanges [.slot, .timing, .mgmt] (advanceTo s.timing.nextBoundary s) (timingBoundary s) := by
    simp [timingBoundary]
  have hopen : OnlyChanges [.buffer, .merge, .canvas, .drive, .mgmt] (timingBoundary s) (boundaryOpening s) := by
    simp [boundaryOpening]
  have hlook := boundaryLook_only (boundaryOpening s) gp o
  have hwall := boundaryWall_only (boundaryLook gp o (boundaryOpening s))
  have hlight := boundaryLight_only (boundaryWall (boundaryLook gp o (boundaryOpening s)))
  have hend := boundaryContacts_only (boundaryLight (boundaryWall (boundaryLook gp o (boundaryOpening s)))) gp o
  rw [frameBoundary, hend.now rfl, hlight.now rfl, hwall.now rfl, hlook.now rfl, hopen.now rfl, htiming.now rfl]
  rfl

/-- Behind the number of a boundary only events join. -/
theorem tells_afterNumber (gp : Tab 4 Bool) (o : CommitOrder) (s : State) :
    Tells [] [] (numberBoundary (advanceTo s.timing.nextBoundary s)) (frameBoundary gp o s) := by
  have htiming : Tells [] [] (numberBoundary (advanceTo s.timing.nextBoundary s)) (timingBoundary s) :=
    tells_changeTiming (by decide) _ (tells_referenceBoundary (by decide) _ .refl)
  have hpresent : Tells [] [] _ (applyPriorities (applySettings (presentFrame (timingBoundary s)))) := htiming.other (by simp)
  have hopening : Tells [] [] _ (boundaryOpening s) :=
    (tells_lightHoldBoundary (by decide) (by decide) hpresent).other (by simp [boundaryOpening])
  have hwall : Tells [] [] _ (boundaryWall (boundaryLook gp o (boundaryOpening s))) := tells_wallAfterAuto (by decide) (by decide) (by decide) (by decide) (tells_autoHoldBoundary (by decide) (by decide)
    (tells_boundaryLook gp o (by decide) (by decide) (by decide) (by decide) hopening))
  refine tells_boundaryContacts gp o (by decide) (by decide) (by decide) ?_
  exact tells_forEach (fun p _ => tells_drainFifo_other (by decide) p .refl) (hwall.other (by simp))

theorem offer_queue_of_room {x : Mgmt} {kind : EventKind} {body : List Byte} (hmask : x.selects kind = true)
    (hroom : x.queue.length < 12) : (x.offer kind body).queue = x.queue ++ [.event kind body] := by
  rcases offer_cases x kind body with ⟨h, -⟩ | ⟨-, -, h⟩ | ⟨-, h, -⟩
  · rw [hmask] at h; cases h
  · rw [h]
  · omega

theorem numberBoundary_queue {s : State} {m : TimeMark} (h : takenMark s = some m)
    (hn : markNumber s.timing.nextBoundary s.timing.length m ≠ s.timing.frame + 1)
    (hmask : s.mgmt.selects .renumbered = true) (hroom : s.mgmt.queue.length < 12) :
    (numberBoundary s).mgmt.queue = s.mgmt.queue ++ [.event .renumbered
      (u32 (s.timing.frame + 1).toNat ++ u32 (markNumber s.timing.nextBoundary s.timing.length m).toNat)] := by
  simp only [numberBoundary, h]
  rw [if_pos (decide_eq_true hn)]
  exact offer_queue_of_room hmask hroom

/-- What a boundary leaves of the timing where the lock machine has brought it to `t`: the interval is fixed from the period
in force before, and the samples are kept. -/
theorem frameBoundary_timing_of {gp : Tab 4 Bool} {o : CommitOrder} {s : State} {t : Timing}
    (h : referenced (takenMark s) (numbered (takenMark s) s.timing) = t) :
    (frameBoundary gp o s).timing = { fixedTiming s.timing.period t with samples := gp } := by
  rw [frameBoundary_timing_eq, h]

theorem markNumber_eq_ite (tb before : Nat) (m : TimeMark) :
    markNumber tb before m = if m.arrival + m.delay + before / 2 < tb then m.frame + 1 else m.frame := by
  by_cases h : m.arrival + m.delay + before / 2 < tb <;> simp [markNumber, isLateMark, namedInstant, h]

theorem takenMark_of_waiting {s : State} {m : TimeMark} (h : s.intake.slot = some m) (hn : takenMark s ≠ some m) :
    takenMark s = none := by
  simp only [takenMark, h, Option.filter_some] at hn ⊢
  split at hn
  · exact absurd rfl hn
  · next hc => exact if_neg hc

theorem length_of_not_locked {t : Timing} {period : Nat} (h : t.lock ≠ .locked) : (fixedTiming period t).length = period := by
  change ((period : Int) - boundaryStep t period).toNat = period
  rw [boundaryStep_of_not_locked h, Int.sub_zero, Int.toNat_natCast]

/-- Settles O17: the timing of a boundary by the mark it takes and the lock machine's state. -/
theorem boundaryBeginsInterval : Obligations.BoundaryBeginsInterval := by
  intro s gp o hrange x tb limit stepOf begun becomes waits
  have hexec : exec (.frameBoundary gp o) s = .next (frameBoundary gp o s) := exec_of_run rfl rfl
  have hbecomes : ∀ t, t.nextBoundary = tb → referenced (takenMark s) (numbered (takenMark s) x) = t → becomes t :=
    fun t htb h => ⟨_, hexec, by rw [frameBoundary_timing_of h]; simp only [begun, ← htb]; rfl⟩
  -- a boundary that brings the lock machine no mark
  have hwaits : ∀ t, t.nextBoundary = tb → t.reference = x.reference → t.lock = x.lock → t.markWait = x.markWait →
      t.holdoverCount = x.holdoverCount → referenced (takenMark s) (numbered (takenMark s) x) = waitTiming t → waits t := by
    intro t htb hr hl hw hc h
    refine ⟨fun hr' hl' hw' => ?_, fun hr' hl' hw' => ?_, fun hr' hl' hw' => ?_, fun hl' hc' => ?_, fun hl' hc' => ?_, fun hs => ?_⟩
    · exact hbecomes _ htb (h.trans (waitTiming_acquiring_over (hr.trans hr') (hl.trans hl') (by rw [hw]; exact hw')))
    · exact hbecomes _ htb (h.trans (waitTiming_locked_over (hr.trans hr') (hl.trans hl') (by rw [hw]; exact hw')))
    · rw [← hw]
      exact hbecomes _ htb (h.trans (waitTiming_marks (hr.trans hr') (by rw [hl]; exact hl') (by rw [hw]; exact hw')))
    · exact hbecomes _ htb (h.trans (waitTiming_holdover_over (hl.trans hl') (by rw [hc]; exact hc')))
    · rw [← hc]
      exact hbecomes _ htb (h.trans (waitTiming_holdover (hl.trans hl') (by rw [hc]; exact hc')))
    · exact hbecomes _ htb (h.trans (waitTiming_standing_still (by rw [hl, hr]; exact hs)))
  have hslot := frameBoundary_slot gp o s
  have hnumbering := referenced_numbering (takenMark s) (numbered (takenMark s) x)
  simp only [Timing.numbering, Prod.mk.injEq] at hnumbering
  obtain ⟨hnumber, htick, hk, htaken, hlate, hrenumbered⟩ := hnumbering
  have hframe : (frameBoundary gp o s).timing.frame = (numbered (takenMark s) x).frame := by
    rw [frameBoundary_timing_eq]; exact hnumber
  replace htick : (referenced (takenMark s) (numbered (takenMark s) x)).nextBoundary = tb := htick.trans (numbered_standing _ x).1
  replace hk : (referenced (takenMark s) (numbered (takenMark s) x)).k = x.k := hk.trans (numbered_standing _ x).2
  refine ⟨fun hn => ?_, ⟨_, hexec, frameBoundary_now gp o s, ?_, ?_, ?_, fun hs => ?_, fun m hm hfree hr => ?_⟩, fun m => ?_⟩
  · exact hwaits _ rfl rfl rfl rfl rfl (by rw [hn]; rfl)
  · rw [frameBoundary_timing]
  · rw [frameBoundary_timing_eq]
    exact congrArg (· + _) htick
  · rw [frameBoundary_timing_eq]
    exact congrArg (gridOf _) hk
  · have hn : takenMark s = none := by simp [takenMark, hs]
    have hr : referenced (takenMark s) (numbered (takenMark s) x) = waitTiming { x with frame := x.frame + 1 } := by rw [hn]; rfl
    have ht := frameBoundary_timing_of (gp := gp) (o := o) hr
    refine ⟨hframe.trans (by rw [hn]; rfl), ?_, fun hl => ?_, fun hl => ?_⟩
    · rw [ht]
      exact waitTiming_period _
    · rw [ht] at hl ⊢
      exact length_of_not_locked hl
    · have hl' : (waitTiming { x with frame := x.frame + 1 }).lock = .locked := by rw [ht] at hl; exact hl
      have hw := waitTiming_locked hl'
      rw [ht]
      change _ = begun { x with frame := x.frame + 1, markWait := (waitTiming { x with frame := x.frame + 1 }).markWait }
      generalize (waitTiming { x with frame := x.frame + 1 }).markWait = w at hw ⊢
      rw [hw]
      rfl
  · intro instant
    have hiff := takenMark_iff hm
    rw [boundaryStep_of_not_locked (by rw [hfree]; exact nofun), Int.sub_zero, Int.toNat_natCast] at hiff
    refine ⟨fun hle => ?_, fun hlt => ?_⟩
    · have hn : takenMark s = some m := hiff.mpr hle
      rw [hn] at hslot hframe
      exact ⟨hslot, hframe.trans (markNumber_eq_ite _ _ m)⟩
    · have hn : takenMark s = none := takenMark_of_waiting hm fun h => Nat.not_le.mpr hlt (hiff.mp h)
      rw [hn] at hslot hframe
      exact ⟨hslot.trans hm, hframe⟩
  · intro instant late number renumbers counters counted
    refine ⟨fun hm => takenMark_iff hm, fun hn => ⟨⟨_, hexec, ?_, ?_, ?_, ?_, ?_, fun hre hmask hroom => ?_⟩, fun hr => ?_, fun hr => ?_⟩⟩
    · rw [hn] at hslot; exact hslot
    · rw [hn] at hframe; exact hframe
    · rw [frameBoundary_timing_eq]
      exact htaken.trans (by rw [hn]; rfl)
    · rw [frameBoundary_timing_eq]
      exact hlate.trans (by rw [hn]; rfl)
    · rw [frameBoundary_timing_eq]
      exact hrenumbered.trans (by rw [hn]; rfl)
    · obtain ⟨more, hq, -⟩ := tells_afterNumber gp o s
      refine ⟨more, hq.trans (congrArg (· ++ more) ?_)⟩
      exact numberBoundary_queue (s := advanceTo s.timing.nextBoundary s) hn (of_decide_eq_true hre) hmask hroom
    · exact hwaits counted rfl rfl rfl rfl rfl (by rw [hn]; exact if_neg hr)
    · intro began invalid
      have hmark : ∀ {t}, markTiming tb m counted = t → referenced (takenMark s) (numbered (takenMark s) x) = t := fun h => by
        rw [hn]; exact (if_pos hr).trans h
      have hpositive : 0 < x.period := lt_of_lt_of_le (by decide) hrange.1
      refine ⟨fun hl => hbecomes _ rfl (hmark ?_), fun last hlast => ?_⟩
      · rcases hl with hl | hl <;> (simp only [markTiming, show counted.lock = _ from hl]; rfl)
      · intro frames estimate valid near
        have hvalid : valid → periodEstimate last m = some estimate := fun ⟨hf, h1, h2⟩ => periodEstimate_of_valid hf h1 h2
        have hinvalid : ¬valid → periodEstimate last m = none := periodEstimate_of_invalid
        have hacquire : x.lock = .acquiring → markTiming tb m counted = acquireMark tb m counted := fun hl => by
          simp only [markTiming, show counted.lock = _ from hl]
        have htrack : x.lock = .locked → markTiming tb m counted = trackMark tb m counted := fun hl => by
          simp only [markTiming, show counted.lock = _ from hl]
        refine ⟨fun hl hv => hbecomes _ rfl (hmark ((hacquire hl).trans (acquireMark_invalid hlast (hinvalid hv)))),
          fun hl hv hruns => hbecomes _ rfl (hmark ((hacquire hl).trans (acquireMark_second hlast (hvalid hv) hruns))),
          fun hl hv hruns hnear => hbecomes _ rfl (hmark ((hacquire hl).trans
            (acquireMark_differing hlast (hvalid hv) hruns hnear))),
          fun first hl hv hruns hnear hfirst => ?_,
          fun hl hv => hbecomes _ rfl (hmark ((htrack hl).trans (trackMark_invalid hlast (hinvalid hv)))), fun hl hv => ?_⟩
        · intro whole hlow hhigh
          have hrun : runEstimate first m = whole := rfl
          have hperiod : clampPeriod whole.toNat = whole.toNat := clampPeriod_of_inRange ⟨by
            simp only [Config.minPeriod]; omega, by simp only [Config.maxPeriod]; omega⟩
          refine ⟨_, whole.toNat, by omega, phaseOf_wrapError tb instant (by omega), hbecomes _ rfl (hmark ((hacquire hl).trans
            ((acquireMark_third (t := counted) hlast (hvalid hv) hruns hnear).trans ?_)))⟩
          simp only [lockToMarks, show counted.firstMark = _ from hfirst, Option.getD_some, hrun, hperiod]
          rfl
        · obtain ⟨hin, htracked⟩ := inRange_trackPeriod hrange (inPeriodRange_iff.mpr ⟨hv.2.1, hv.2.2⟩)
          exact ⟨_, trackPeriod x.period estimate, htracked, phaseOf_wrapError tb instant
            (lt_of_lt_of_le (by decide) hin.1), hbecomes _ rfl (hmark ((htrack hl).trans (trackMark_valid hlast (hvalid hv))))⟩

end Sys2Proof.Machine
end

section
/-! SUPPORT. The whole next state of each operation on a chain port (section 6). -/

namespace Sys2Proof.Machine

/-- The body of a CHAIN_STATE event (R115). -/
def chainEvent (p : Fin 8) (before after : PortState) (w : Option Lanes) (cause : Nat) : List Byte :=
  u8 p.val ++ u8 before.code ++ u8 after.code ++ lanesBytes w ++ u8 cause

section
variable (p : Fin 8) (s : State)

theorem setPort_offer (k : EventKind) (b : List Byte) (x : Port) :
    (offer k b s).setPort p x = offer k b (s.setPort p x) := rfl

theorem setPort_setSent (l : List Emission) (x : Port) : (s.setSent l).setPort p x = (s.setPort p x).setSent l := rfl

theorem setPort_setDraws (n : Nat) (x : Port) : (s.setDraws n).setPort p x = (s.setPort p x).setDraws n := rfl

@[simp] theorem port_offer (q : Fin 8) (k : EventKind) (b : List Byte) : (offer k b s).port q = s.port q := rfl

@[simp] theorem port_setDraws (q : Fin 8) (n : Nat) : (s.setDraws n).port q = s.port q := rfl

theorem sendChain_of_width {w : Lanes} (m : ChainMessage) (h : (s.port p).width = some w) :
    sendChain p m s = s.setSent (s.sent ++ [.chain p w m]) := by
  simp only [sendChain, h, emit]

theorem sendChain_of_no_width (m : ChainMessage) (h : (s.port p).width = none) : sendChain p m s = s := by
  simp only [sendChain, h]

theorem sendPattern_of_offer {w : Lanes} (h : (s.port p).offer = some w) :
    sendPattern p s = s.setSent (s.sent ++ [.chain p w (.pattern w)]) := by
  simp only [sendPattern, h, emit]

theorem enterTraining_eq (cause : ChainCause) : enterTraining p cause s =
    offer .chainState (chainEvent p (s.port p).state .training (s.port p).width cause.code)
      ((s.setPort p (s.port p).trained).setSent (s.sent ++ [.chain p .four (.pattern .four)])) := by
  simp only [enterTraining, startOffer, port_setPort_self, setPort_setPort, offerChainState]
  rw [sendPattern_of_offer (w := .four) _ _ (by rw [port_setPort_self])]
  simp only [port_setSent, port_setPort_self]
  rfl

theorem enterDown_eq (cause : ChainCause) : enterDown p cause s =
    offer .chainState (chainEvent p (s.port p).state .down (s.port p).width cause.code)
      (s.setPort p (s.port p).downed) := by
  simp only [enterDown, offerChainState, port_setPort_self]
  rfl

theorem enterDisabled_eq : enterDisabled p s =
    offer .chainState (chainEvent p (s.port p).state .disabled (s.port p).width 9)
      (s.setPort p (s.port p).disabled) := by
  simp only [enterDisabled, offerChainState, port_setPort_self]
  rfl

/-- The port in TRAINING where it holds no holdoff. -/
theorem Port.trained_of_no_holdoff {x : Port} (h : x.holdoff = none) :
    x.trained = { x with state := .training, offer := some .four, count := 0, window := none } := by
  rcases x with ⟨⟩
  cases h
  rfl

/-- Whether the port goes on to TRAINING (R97). -/
def Port.mayTrain (x : Port) : Prop := x.state = .down ∧ x.partner = true ∧ x.holdoff = none

theorem tryTraining_of_may (cause : ChainCause) (h : (s.port p).mayTrain) :
    tryTraining p cause s = enterTraining p cause s := if_pos h

theorem tryTraining_of_not (cause : ChainCause) (h : ¬ (s.port p).mayTrain) : tryTraining p cause s = s := if_neg h

end

end Sys2Proof.Machine
end

section
/-! PROOFS. Chain Retrain, Chain Disable and Chain Enable by the state of the port (R104 to R107). -/

namespace Sys2Proof.Machine

/-- A note on the port in RECOVERY leaves how it got there (R105). -/
theorem EntersRecovery.noted {s t : State} {p : Fin 8} {cause : Nat} (h : EntersRecovery s p (s.port p) cause t) :
    EntersRecovery s p { s.port p with retrain := true } cause (t.setPort p { t.port p with retrain := true }) := by
  obtain ⟨k, hk, rfl⟩ := h
  refine ⟨k, hk, ?_⟩
  simp only [setPort_offer, port_offer, port_setSent, port_setDraws, port_setPort_self, setPort_setSent, setPort_setDraws,
    setPort_setPort]

section
variable {tag : Byte} {s : State}

theorem port_commands_out_of_range (hroom : hasRoom s = true) {port : Nat} (h : 8 ≤ port) :
    Answers (exec (.chainRetrain tag port) s) s (.answer tag Code.chainRetrain .outOfRange []) ∧
    Answers (exec (.chainDisable tag port) s) s (.answer tag Code.chainDisable .outOfRange []) ∧
    Answers (exec (.chainEnable tag port) s) s (.answer tag Code.chainEnable .outOfRange []) := by
  have hnone : finOf 8 port = none := finOf_of_le h
  refine ⟨answers_exec rfl hroom ?_, answers_exec rfl hroom ?_, answers_exec rfl hroom ?_⟩
  · change doChainRetrain tag port s = _
    rw [doChainRetrain, hnone]; rfl
  · change doChainDisable tag port s = _
    rw [doChainDisable, hnone]; rfl
  · change doChainEnable tag port s = _
    rw [doChainEnable, hnone]; rfl

variable (p : Fin 8)

theorem run_chainRetrain : run (.chainRetrain tag p.val) s = retrainPort tag p s := by
  change doChainRetrain tag p.val s = _
  rw [doChainRetrain, finOf_val]

theorem run_chainDisable : run (.chainDisable tag p.val) s = disablePort tag p s := by
  change doChainDisable tag p.val s = _
  rw [doChainDisable, finOf_val]

theorem run_chainEnable : run (.chainEnable tag p.val) s = enablePort tag p s := by
  change doChainEnable tag p.val s = _
  rw [doChainEnable, finOf_val]

/-- A port that trains already is to train once more (R105). -/
theorem retrainPort_of_training (h : (s.port p).state = .training ∨ (s.port p).state = .recovery) :
    retrainPort tag p s = answer tag Code.chainRetrain .ok [] (s.setPort p { s.port p with retrain := true }) := by
  have hne : ∀ {st}, (s.port p).state = st → st = .training ∨ st = .recovery := fun hst => hst ▸ h
  unfold retrainPort
  split
  case h_1 hst => exact absurd (hne hst) (by decide)
  case h_2 => rfl
  case h_3 => rfl
  case h_4 hst => exact absurd (hne hst) (by decide)
  case h_5 hst => exact absurd (hne hst) (by decide)

/-- A port that is not ACTIVE is disabled at once (R106). -/
theorem disablePort_at_once (hd : (s.port p).disable = none)
    (h : (s.port p).state = .down ∨ (s.port p).state = .training ∨ (s.port p).state = .recovery) :
    disablePort tag p s = answer tag Code.chainDisable .ok [] (enterDisabled p s) := by
  simp only [disablePort, hd, Option.isSome_none, Bool.false_eq_true, if_false]
  rcases h with h | h | h <;> rw [h]

/-- A port in DISABLED is brought to DOWN, and where its partner is present to TRAINING (R107). -/
theorem enablePort_of_disabled (h : (s.port p).state = .disabled) : enablePort tag p s =
    answer tag Code.chainEnable .ok [] (tryTraining p .partnerPresent (enterDown p .enable s)) := by
  rw [enablePort, if_pos h]

end

/-- Settles O38: by the state of the port and whether a Disable is pending. -/
theorem chainCommandsActOnState : Obligations.ChainCommandsActOnState := by
  intro s tag hroom
  refine ⟨fun port hport => port_commands_out_of_range hroom hport, fun p => ?_⟩
  intro x event
  have hdown : (enterDown p .enable s).port p = x.downed := port_self_of_ports (enterDown_ports p s _)
  refine ⟨fun h => answers_exec rfl hroom ?_, fun h => answers_exec rfl hroom ?_, fun h => ?_, fun h => answers_exec rfl hroom ?_,
    fun hd h => reserves_exec rfl hroom ?_, fun hd h => answers_exec rfl hroom ?_, fun hd h => answers_exec rfl hroom ?_,
    fun h => answers_exec rfl hroom ?_, fun h hp => answers_exec rfl hroom ?_, fun h hp hh => answers_exec rfl hroom ?_⟩
  · rw [run_chainRetrain, retrainPort]
    rcases h with h | h <;> rw [h] <;> rfl
  · rw [run_chainRetrain, retrainPort_of_training p h]
  · refine ⟨_, answers_exec rfl hroom ?_, (enterRecovery_enters s p .retrain).noted⟩
    rw [run_chainRetrain, retrainPort, h]
  · rw [run_chainDisable, disablePort, if_pos (Option.isSome_iff_ne_none.mpr h)]; rfl
  · rw [run_chainDisable, disablePort, hd, h]; rfl
  · rw [run_chainDisable, disablePort_at_once p hd h, enterDisabled_eq]; rfl
  · rw [run_chainDisable, disablePort, hd, h]; rfl
  · rw [run_chainEnable, enablePort, if_neg h]
  · have hnot : ¬ ((enterDown p .enable s).port p).mayTrain := by
      rw [hdown]; rintro ⟨-, hpartner, -⟩; exact Bool.false_ne_true (hp.symm.trans hpartner)
    rw [run_chainEnable, enablePort_of_disabled p h, tryTraining_of_not _ _ _ hnot, enterDown_eq, h]
    rfl
  · have hmay : ((enterDown p .enable s).port p).mayTrain := by rw [hdown]; exact ⟨rfl, hp, hh⟩
    rw [run_chainEnable, enablePort_of_disabled p h, tryTraining_of_may _ _ _ hmay, enterTraining_eq, hdown, enterDown_eq,
      setPort_offer, setPort_setPort, h, Port.trained_of_no_holdoff (x := x.downed) hh]
    rfl

end Sys2Proof.Machine
end

section
/-! SUPPORT. The whole next state of a broken frame, a token, a cap, a completed census and an entry to ACTIVE (section 6). -/

namespace Sys2Proof.Machine

section
variable (p : Fin 8) (s : State)

/-- The first `k` segments that the port holds, as they go out (R115). -/
def Port.firstUnsent (x : Port) (p : Fin 8) (k : Nat) : List Emission :=
  x.width.elim [] fun w => (x.unsent.take k).map fun g => Emission.chain p w (.segment g)

theorem breakFrame_eq : ∃ k, k ≤ (s.port p).unsent.length ∧ breakFrame p s =
    ((s.setPort p ((s.port p).broke k)).setDraws (s.draws + 1)).setSent (s.sent ++ (s.port p).firstUnsent p k) := by
  have hle : freeDraw s % ((s.port p).unsent.length + 1) ≤ (s.port p).unsent.length :=
    Nat.le_of_lt_succ (Nat.mod_lt _ (Nat.succ_pos _))
  refine ⟨_, hle, ?_⟩
  generalize hk : freeDraw s % ((s.port p).unsent.length + 1) = k at hle
  have hdrop : dropUnsent p k s = (s.setPort p { s.port p with
      unsent := []
      counters := { (s.port p).counters with
        droppedSegments := bumpBy ((s.port p).unsent.length - k) (s.port p).counters.droppedSegments } }).setSent
        (s.sent ++ (s.port p).firstUnsent p k) := by
    simp only [dropUnsent, foldl_sendChain, port_setSent, setPort_setSent, List.length_take, Nat.min_eq_left hle]
    rfl
  have hport : ∀ t : State, (useDraw t).port p = t.port p := fun _ => rfl
  simp only [breakFrame, hk, hdrop, hport, port_setSent, port_setPort_self]
  split
  · next hb => simp only [useDraw, Port.broke, hb, if_true]; rfl
  · next hb =>
    simp only [useDraw, setPort_setDraws, setPort_setSent, setPort_setPort, Port.broke, hb, Bool.false_eq_true, if_false]
    rfl

theorem sendToken_eq {w : Lanes} (h : (s.port p).width = some w) : sendToken p s =
    (s.setPort p { s.port p with window := some ⟨s.now, []⟩ }).setSent (s.sent ++ [.chain p w .token]) := by
  rw [sendToken, sendChain_of_width p s _ h]
  rfl

theorem sendCap_of_none (h : (s.port p).cap = none) : sendCap p s = s := by
  simp only [sendCap, h]

theorem sendCap_of_some {w : Lanes} {watts : Nat} (hw : (s.port p).width = some w) (h : (s.port p).cap = some watts) :
    sendCap p s = (s.setPort p (s.port p).capped).setSent (s.sent ++ [.chain p w (.cap watts)]) := by
  simp only [sendCap, h, sendChain_of_width p s _ hw, Port.capped_of_some h]
  rfl

theorem Port.activated_eq (x : Port) : x.activated = { x with
    state := .active, offer := none, count := 0, errors := 0, censusCount := 0
    widthNarrowed := x.widthNarrowed || decide (x.state = .recovery ∧
      (x.width.elim 0 Lanes.toNat) < x.entryWidth.elim 0 Lanes.toNat)
    retrainDone := x.retrainDone || x.retrain
    retrain := false } := by
  have h : ∀ w : Option Lanes, (w.map Lanes.toNat).getD 0 = w.elim 0 Lanes.toNat := by rintro (- | w) <;> rfl
  simp only [Port.activated, h]

/-- The cause of a CHAIN_STATE to ACTIVE (R115). -/
def activeCause (before : PortState) : Nat := if before = .recovery then 7 else 2

theorem enterActive_eq : enterActive p s =
    sendCap p (offer .chainState (chainEvent p (s.port p).state .active (s.port p).width (activeCause (s.port p).state))
      (s.setPort p (s.port p).activated)) := by
  have hcause : (if (s.port p).state = .recovery then ChainCause.recoveryComplete else .trainingComplete).code =
      activeCause (s.port p).state := by
    unfold activeCause; split <;> rfl
  rw [enterActive, ← hcause]
  simp only [offerChainState, port_setPort_self]
  rfl

/-- The body of CENSUS_CHANGED, and where it is offered (R101). -/
def Mgmt.censusTold (m : Mgmt) (p : Fin 8) (before result expected : Nat) : Mgmt :=
  if result = before then m
  else m.offer .censusChanged (u8 p.val ++ u8 before ++ u8 result ++ u8 expected ++ u8 (result - expected))

theorem completeCensus_eq (result : Nat) : completeCensus p result s =
    (s.setPort p ((s.port p).counted result (expectedTiles s.activeBank p))).setMgmt
      (s.mgmt.censusTold p (s.port p).census result (expectedTiles s.activeBank p)) := by
  simp only [completeCensus, Mgmt.censusTold]
  split <;> rfl

end

/-- The unbroken run of hops from `r` on (R101). -/
theorem hopRun_spec (hops : List Nat) (k r : Nat) :
    (∀ h, r ≤ h → h < hopRun hops k r → h ∈ hops) ∧ (hopRun hops k r = r + k ∨ hopRun hops k r ∉ hops) := by
  induction k generalizing r with
  | zero => exact ⟨fun h hle hlt => absurd hlt (by simp only [hopRun]; omega), .inl rfl⟩
  | succ k ih =>
    unfold hopRun
    split
    · next hr =>
      obtain ⟨hrun, hend⟩ := ih (r + 1)
      refine ⟨fun h hle hlt => ?_, hend.imp_left fun he => by omega⟩
      rcases Nat.eq_or_lt_of_le hle with rfl | hgt
      · exact hr
      · exact hrun h hgt hlt
    · next hr => exact ⟨fun h hle hlt => absurd hlt (by omega), .inr hr⟩

end Sys2Proof.Machine
end

section
/-! PROOFS. A port trains, counts and is lost (R97 to R101). -/

namespace Sys2Proof.Machine

section
variable {s : State} {p : Fin 8}

theorem acceptableWidth_of_le {w offered : Lanes} (h : w.toNat ≤ offered.toNat) :
    acceptableWidth (some offered) w.toNat = some w := by
  have hw : lanesOfNat w.toNat = some w := by cases w <;> rfl
  simp only [acceptableWidth, hw]
  exact if_pos h

theorem acceptableWidth_of_bad {o : Option Lanes} {width : Nat}
    (h : width ∉ [1, 2, 4] ∨ ∀ offered, o = some offered → offered.toNat < width) : acceptableWidth o width = none := by
  unfold acceptableWidth
  split
  · rfl
  · next w hw =>
    have hmem : width ∈ [1, 2, 4] ∧ w.toNat = width := by
      unfold lanesOfNat at hw
      split at hw <;> cases hw <;> exact ⟨by simp, rfl⟩
    refine if_neg fun hle => ?_
    rcases h with h | h
    · exact h hmem.1
    · rcases o with - | offered
      · cases w <;> exact absurd hle (by decide)
      · have := h offered rfl
        have : w.toNat ≤ offered.toNat := hle
        omega

theorem trainingExchange_of_good {w : Lanes} {width : Nat} (hs : (s.port p).state = .training ∨ (s.port p).state = .recovery)
    (hw : (s.port p).window = none) (h : acceptableWidth (s.port p).offer width = some w) :
    trainingExchange p width s =
      (s.setPort p { s.port p with width := some w, window := some ⟨s.now, []⟩ }).setSent
        (s.sent ++ [.chain p w .token]) := by
  have hne : (s.port p).state ≠ .disabled := by rcases hs with hs | hs <;> rw [hs] <;> decide
  simp only [trainingExchange, if_neg hne, if_pos (And.intro hs hw), h]
  rw [sendToken_eq (w := w) _ _ (by rw [port_setPort_self])]
  simp only [port_setPort_self, setPort_setPort]
  rfl

theorem trainingExchange_of_bad {width : Nat} (hne : (s.port p).state ≠ .disabled)
    (h : ((s.port p).state ≠ .training ∧ (s.port p).state ≠ .recovery) ∨ (s.port p).window ≠ none ∨
      acceptableWidth (s.port p).offer width = none) :
    trainingExchange p width s = passExchange p s := by
  simp only [trainingExchange, if_neg hne]
  split
  · next hs =>
    obtain ⟨hstate, hwindow⟩ := hs
    rcases h with ⟨h1, h2⟩ | h | h
    · exact absurd hstate (by simp [h1, h2])
    · exact absurd hwindow h
    · rw [h]
  · rfl

/-! ### The partner's signal -/

theorem exec_partnerPresent_of_down (hs : (s.port p).state = .down) (hh : (s.port p).holdoff = none) :
    exec (.partnerPresent p) s = .next (offer .chainState (chainEvent p .down .training (s.port p).width 0)
      ((s.setPort p { s.port p with
        partner := true, state := .training, offer := some .four, count := 0, window := none, holdoff := none }).setSent
          (s.sent ++ [.chain p .four (.pattern .four)]))) := by
  refine exec_of_run rfl ?_
  change tryTraining p .partnerPresent (s.setPort p _) = _
  rw [tryTraining_of_may _ _ _ (by rw [port_setPort_self]; exact ⟨hs, rfl, hh⟩), enterTraining_eq]
  simp only [port_setPort_self, setPort_setPort, hs]
  rfl

theorem exec_partnerPresent_of_not_down (h : (s.port p).state ≠ .down ∨ (s.port p).holdoff ≠ none) :
    exec (.partnerPresent p) s = .next (s.setPort p { s.port p with partner := true }) := by
  refine exec_of_run rfl (tryTraining_of_not _ _ _ ?_)
  rw [port_setPort_self]
  rintro ⟨hs, -, hh⟩
  exact h.elim (fun h => h hs) (fun h => h hh)

theorem exec_partnerLost_of_training (h : (s.port p).state = .training ∨ (s.port p).state = .recovery) :
    exec (.partnerLost p) s = .next (offer .chainState (chainEvent p (s.port p).state .down (s.port p).width 1)
      (s.setPort p { s.port p with partner := false, state := .down, offer := none, count := 0, window := none })) := by
  refine exec_of_run rfl ?_
  have hlose : losePartner p s = enterDown p .partnerLost (s.setPort p { s.port p with partner := false }) := by
    simp only [losePartner, port_setPort_self]
    rcases h with h | h <;> simp only [h]
  change losePartner p s = _
  rw [hlose, enterDown_eq]
  simp only [port_setPort_self, setPort_setPort]
  rfl

theorem exec_partnerLost_of_active (h : (s.port p).state = .active) : ∃ k, k ≤ (s.port p).unsent.length ∧
    exec (.partnerLost p) s = .next (offer .chainState (chainEvent p .active .down (s.port p).width 1)
      (((s.setPort p (Port.broke { s.port p with partner := false } k).downed).setDraws (s.draws + 1)).setSent
        (s.sent ++ (s.port p).firstUnsent p k))) := by
  obtain ⟨k, hk, hbreak⟩ := breakFrame_eq p (s.setPort p { s.port p with partner := false })
  rw [port_setPort_self] at hk hbreak
  refine ⟨k, hk, exec_of_run rfl ?_⟩
  have hlose : losePartner p s =
      enterDown p .partnerLost (breakFrame p (s.setPort p { s.port p with partner := false })) := by
    simp only [losePartner, port_setPort_self, h]
  change losePartner p s = _
  rw [hlose, hbreak, enterDown_eq]
  simp only [port_setPort_self, setPort_setPort, port_setSent, port_setDraws, setPort_setSent, setPort_setDraws]
  have hactive : (Port.broke { s.port p with partner := false } k).state = .active := h
  rw [hactive]
  rfl

theorem exec_partnerLost_of_down (h : (s.port p).state = .down ∨ (s.port p).state = .disabled) :
    exec (.partnerLost p) s = .next (s.setPort p { s.port p with partner := false }) := by
  refine exec_of_run rfl ?_
  change losePartner p s = _
  simp only [losePartner, port_setPort_self]
  rcases h with h | h <;> simp only [h]

/-! ### The exchanges and the return messages -/

theorem exec_trainingComplete (t width : Nat) :
    exec (.trainingComplete p ⟨t, width⟩) s = .next (trainingExchange p width (advanceTo t s)) := rfl

theorem exec_censusAnswer (hop : Nat) : exec (.censusAnswer p hop) s = .next (recordHop p hop s) := rfl

theorem recordHop_of_closed (hop : Nat) (h : (s.port p).window = none) : recordHop p hop s = s := by
  simp only [recordHop, h]

theorem recordHop_of_open (hop : Nat) {run : CensusRun} (h : (s.port p).window = some run) :
    recordHop p hop s = s.setPort p { s.port p with window := some { run with hops := run.hops ++ [hop] } } := by
  simp only [recordHop, h]

theorem readReturn_unknown {kind : Byte} (h : kind ∉ [0x81, 0x82, 0x83]) (b : Byte) : readReturn [kind, b] = none := by
  simp only [List.mem_cons, List.not_mem_nil, or_false, not_or] at h
  obtain ⟨h1, h2, h3⟩ := h
  simp only [readReturn, if_neg h1, if_neg h2, if_neg h3]

/-! ### The window's end -/

theorem endWindow_eq {run : CensusRun} (h : (s.port p).window = some run) : endWindow p s =
    if (s.port p).state = .training ∨ (s.port p).state = .recovery then
      enterActive p (completeCensus p (censusResult run.hops) (advanceTo (run.sent + 100000) s))
    else completeCensus p (censusResult run.hops) (advanceTo (run.sent + 100000) s) := by
  have hstate : ((completeCensus p (censusResult run.hops) (advanceTo (run.sent + 100000) s)).port p).state =
      (s.port p).state := by
    rw [port_self_of_ports (completeCensus_ports p _ _)]; rfl
  simp only [endWindow, h, Config.censusWindow, hstate]

/-- The census that the run of a window gives (R101). -/
theorem completeCensus_window (run : CensusRun) :
    completeCensus p (censusResult run.hops) (advanceTo (run.sent + 100000) s) =
      ((s.setNow (max s.now (run.sent + 100000))).setPort p
        ((s.port p).counted (censusResult run.hops) (expectedTiles s.activeBank p))).setMgmt
          (s.mgmt.censusTold p (s.port p).census (censusResult run.hops) (expectedTiles s.activeBank p)) :=
  completeCensus_eq p _ _

theorem endWindow_of_else {run : CensusRun} (h : (s.port p).window = some run) (ht : (s.port p).state ≠ .training)
    (hr : (s.port p).state ≠ .recovery) : endWindow p s =
      ((s.setNow (max s.now (run.sent + 100000))).setPort p
        ((s.port p).counted (censusResult run.hops) (expectedTiles s.activeBank p))).setMgmt
          (s.mgmt.censusTold p (s.port p).census (censusResult run.hops) (expectedTiles s.activeBank p)) := by
  rw [endWindow_eq h, if_neg (by simp [ht, hr]), completeCensus_window]

theorem endWindow_of_training {run : CensusRun} (h : (s.port p).window = some run)
    (hs : (s.port p).state = .training ∨ (s.port p).state = .recovery) : endWindow p s =
      sendCap p (((s.setNow (max s.now (run.sent + 100000))).setPort p
        ((s.port p).counted (censusResult run.hops) (expectedTiles s.activeBank p)).activated).setMgmt
          ((s.mgmt.censusTold p (s.port p).census (censusResult run.hops) (expectedTiles s.activeBank p)).offer .chainState
            (chainEvent p (s.port p).state .active (s.port p).width (activeCause (s.port p).state)))) := by
  rw [endWindow_eq h, if_pos hs, completeCensus_window, enterActive_eq]
  simp only [port_setMgmt, port_setPort_self]
  refine congrArg (sendCap p) ?_
  change (((s.setNow _).setPort p _).setPort p _).setMgmt _ = _
  rw [setPort_setPort]
  rfl

end

/-- Settles O36: the partner's signal, the exchanges, the return messages and the window's end, each by the port's state. -/
theorem portsTrainAndCount : Obligations.PortsTrainAndCount := by
  intro s p x event
  refine ⟨exec_partnerPresent_of_down, exec_partnerPresent_of_not_down, exec_partnerLost_of_training,
    exec_partnerLost_of_active, exec_partnerLost_of_down, fun t w offered hs hw ho hle => ?_, fun t width hs h => ?_,
    fun t width hs => ?_, fun hop h => congrArg _ (recordHop_of_closed hop h),
    fun hop run h => congrArg _ (recordHop_of_open hop h), fun b => ?_, fun run hrun => ?_⟩
  · refine congrArg Host.Outcome.next ?_
    exact trainingExchange_of_good (s := advanceTo t s) hs hw
      ((congrArg (acceptableWidth · _) ho).trans (acceptableWidth_of_le hle))
  · refine congrArg Host.Outcome.next ?_
    exact trainingExchange_of_bad (s := advanceTo t s) hs (h.imp_right fun h => h.imp_right acceptableWidth_of_bad)
  · exact congrArg Host.Outcome.next (if_pos hs)
  · exact ⟨⟨_, rfl, rfl⟩, ⟨_, rfl, fun _ => rfl⟩, ⟨_, rfl, rfl⟩, fun kind hk => readReturn_unknown hk b⟩
  · obtain ⟨hhops, hend⟩ := hopRun_spec run.hops 32 0
    refine ⟨censusResult run.hops, fun h hlt => hhops h (Nat.zero_le _) hlt, censusResult_le _,
      hend.imp_left fun he => by rw [censusResult, he], ?_⟩
    intro e counted events lanes entered changed ends
    have hentered : counted.activated = { entered with cap := x.cap } := by rw [Port.activated_eq]
    refine ⟨fun ht hr => exec_of_run rfl (endWindow_of_else hrun ht hr), fun hs hcap => exec_of_run rfl ?_,
      fun watts w hs hcap hw => exec_of_run rfl ?_⟩
    · refine (endWindow_of_training hrun hs).trans ((sendCap_of_none _ _ ?_).trans ?_)
      · rw [port_setMgmt, port_setPort_self]; exact hcap
      · have hcounted : counted.activated = entered := hentered.trans (by rw [hcap])
        exact congrArg (fun y => (((s.setNow (max s.now (run.sent + 100000))).setPort p y).setMgmt changed)) hcounted
    · refine (endWindow_of_training hrun hs).trans ((sendCap_of_some (w := w) (watts := watts) _ _ ?_ ?_).trans ?_)
      · rw [port_setMgmt, port_setPort_self]; exact hw
      · rw [port_setMgmt, port_setPort_self]; exact hcap
      · rw [port_setMgmt, port_setPort_self]
        change ((((s.setNow _).setPort p _).setPort p (counted.activated.capped)).setMgmt changed).setSent _ = _
        rw [setPort_setPort, hentered, Port.capped_of_some (x := { entered with cap := x.cap }) hcap]
        rfl

end Sys2Proof.Machine
end

section
/-! SUPPORT. What a chain port's boundary does, and what one port's steps leave of the others (section 6). -/

namespace Sys2Proof.Machine

section
variable (p : Fin 8) (s : State)

theorem failTraining_eq : failTraining p s =
    offer .chainState (chainEvent p (s.port p).state .down (s.port p).width 3) (s.setPort p { s.port p with
      state := .down, offer := none, count := 0, window := none, holdoff := some 25
      counters := { (s.port p).counters with trainingFailures := bump (s.port p).counters.trainingFailures } }) := by
  simp only [failTraining, enterDown_eq, setPort_offer, port_offer, port_setPort_self, setPort_setPort]
  rfl

/-- The port in DOWN after a failed recovery (R103). -/
def Port.unrecovered (x : Port) : Port :=
  { x with
    state := .down, offer := none, count := 0, window := none
    counters := { x.counters with recoveryFailures := bump x.counters.recoveryFailures } }

/-- The state after a failed recovery, before the port may train again (R103). -/
def failedRecovery : State :=
  offer .chainState (chainEvent p (s.port p).state .down (s.port p).width 8) (s.setPort p (s.port p).unrecovered)

theorem failRecovery_eq : failRecovery p s = tryTraining p .partnerPresent (failedRecovery p s) := by
  simp only [failRecovery, enterDown_eq, setPort_offer, port_offer, port_setPort_self, setPort_setPort]
  rfl

@[simp] theorem failedRecovery_port : (failedRecovery p s).port p = (s.port p).unrecovered := by
  simp only [failedRecovery, port_offer, port_setPort_self]

theorem failRecovery_of_alone (h : (s.port p).partner = false) : failRecovery p s = failedRecovery p s := by
  rw [failRecovery_eq]
  refine tryTraining_of_not _ _ _ ?_
  rw [failedRecovery_port]
  rintro ⟨-, hpartner, -⟩
  exact Bool.false_ne_true (h.symm.trans hpartner)

theorem failRecovery_of_partner (h : (s.port p).partner = true) (hh : (s.port p).holdoff = none) :
    failRecovery p s = offer .chainState (chainEvent p .down .training (s.port p).width 0)
      (offer .chainState (chainEvent p (s.port p).state .down (s.port p).width 8)
        ((s.setPort p { (s.port p).unrecovered with state := .training, offer := some .four, count := 0, window := none }).setSent
          (s.sent ++ [.chain p .four (.pattern .four)]))) := by
  rw [failRecovery_eq, tryTraining_of_may _ _ _ (by rw [failedRecovery_port]; exact ⟨rfl, h, hh⟩), enterTraining_eq,
    failedRecovery_port, failedRecovery, setPort_offer, setPort_setPort,
    Port.trained_of_no_holdoff (x := (s.port p).unrecovered) hh]
  rfl

theorem stepOffer_eq {w : Lanes} (h : (s.port p).offer = some w) : stepOffer p s =
    (s.setPort p { s.port p with count := (s.port p).count + 1, offer := some w.narrower }).setSent
      (s.sent ++ [.chain p w.narrower (.pattern w.narrower)]) := by
  rw [stepOffer, h]
  exact sendPattern_of_offer p _ (by rw [port_setPort_self]; rfl)

theorem endHoldoff_of_alone (h : (s.port p).partner = false) :
    endHoldoff p s = s.setPort p { s.port p with holdoff := none } := by
  refine tryTraining_of_not _ _ _ ?_
  rw [port_setPort_self]
  rintro ⟨-, hpartner, -⟩
  exact Bool.false_ne_true (h.symm.trans hpartner)

theorem endHoldoff_of_partner (hs : (s.port p).state = .down) (h : (s.port p).partner = true) :
    endHoldoff p s = offer .chainState (chainEvent p .down .training (s.port p).width 4)
      ((s.setPort p (s.port p).trained).setSent (s.sent ++ [.chain p .four (.pattern .four)])) := by
  rw [endHoldoff, tryTraining_of_may _ _ _ (by rw [port_setPort_self]; exact ⟨hs, h, rfl⟩), enterTraining_eq]
  simp only [port_setPort_self, setPort_setPort, hs]
  rfl

theorem censusBoundary_of_due {w : Lanes} (hs : (s.port p).state = .active) (hw : (s.port p).width = some w)
    (h1 : (s.port p).window = none) (h2 : 49 ≤ (s.port p).censusCount) : censusBoundary p s =
      (s.setPort p { s.port p with censusCount := (s.port p).censusCount + 1, window := some ⟨s.now, []⟩ }).setSent
        (s.sent ++ [.chain p w .token]) := by
  have hdue : censusIsDue (s.port p) = true := by simp [censusIsDue, hs, h1, h2]
  simp only [censusBoundary, if_pos hs, hdue, if_true]
  rw [sendToken_eq (w := w) _ _ (by rw [port_setPort_self]; exact hw)]
  simp only [port_setPort_self, setPort_setPort]
  rfl

theorem censusBoundary_of_not_due (hs : (s.port p).state = .active)
    (h : ¬ ((s.port p).window = none ∧ 49 ≤ (s.port p).censusCount)) : censusBoundary p s =
      s.setPort p { s.port p with censusCount := (s.port p).censusCount + 1 } := by
  have hdue : ¬ censusIsDue (s.port p) = true := by
    simp only [censusIsDue, Bool.and_eq_true, decide_eq_true_eq, Option.isNone_iff_eq_none]
    rintro ⟨⟨-, h2⟩, h1⟩
    exact h ⟨h1, by omega⟩
  simp only [censusBoundary, if_pos hs, if_neg hdue]

end

section
variable {x : Port}

theorem trainingIsOver_iff : trainingIsOver x = true ↔ x.state = .training ∧ x.window = none ∧ 9 ≤ x.count := by
  simp only [trainingIsOver, awaitsExchange, Bool.and_eq_true, decide_eq_true_eq, Option.isNone_iff_eq_none, and_assoc]
  exact and_congr_right fun _ => and_congr_right fun _ => by omega

theorem recoveryIsOver_iff : recoveryIsOver x = true ↔ x.state = .recovery ∧ x.window = none ∧ 9 ≤ x.count := by
  simp only [recoveryIsOver, awaitsExchange, Bool.and_eq_true, decide_eq_true_eq, Option.isNone_iff_eq_none, and_assoc]
  exact and_congr_right fun _ => and_congr_right fun _ => by omega

theorem awaits_iff : (awaitsExchange x .training || awaitsExchange x .recovery) = true ↔
    (x.state = .training ∨ x.state = .recovery) ∧ x.window = none := by
  simp only [awaitsExchange, Bool.or_eq_true, Bool.and_eq_true, decide_eq_true_eq, Option.isNone_iff_eq_none, or_and_right]

theorem holdoffIsOver_iff : holdoffIsOver x = true ↔ ∃ k, x.holdoff = some k ∧ x.state = .down ∧ k ≤ 1 := by
  unfold holdoffIsOver
  split
  · next h => simp [h]
  · next k h => simp [h]

end

/-! ### A boundary of a port by its state -/

section
variable {p : Fin 8} {s : State}

theorem portBoundary_of_disable {tag : Byte} (h : (s.port p).disable = some tag) : portBoundary p s =
    answer tag Code.chainDisable .ok [] (enterDisabled p (s.setPort p { s.port p with disable := none })) := by
  rw [portBoundary, if_pos (by rw [h]; rfl), finishDisable, h]

theorem portBoundary_of_active (hd : (s.port p).disable = none) (h : (s.port p).state = .active) :
    portBoundary p s = censusBoundary p (sendCap p s) := by
  rw [portBoundary, hd, if_neg (by decide), if_pos h]

theorem portBoundary_of_else (hd : (s.port p).disable = none) (h : (s.port p).state ≠ .active) :
    portBoundary p s = trainingBoundary p s := by
  rw [portBoundary, hd, if_neg (by decide), if_neg h]

theorem trainingBoundary_of_over (h : trainingIsOver (s.port p) = true) : trainingBoundary p s = failTraining p s :=
  if_pos h

theorem trainingBoundary_of_recovery_over (h : recoveryIsOver (s.port p) = true) :
    trainingBoundary p s = failRecovery p s := by
  refine (if_neg fun ht => ?_).trans (if_pos h)
  have := (trainingIsOver_iff.mp ht).1.symm.trans (recoveryIsOver_iff.mp h).1
  cases this

theorem trainingBoundary_of_offer (hs : (s.port p).state = .training ∨ (s.port p).state = .recovery)
    (hw : (s.port p).window = none) (hc : (s.port p).count < 9) : trainingBoundary p s = stepOffer p s := by
  refine (if_neg fun h => ?_).trans ((if_neg fun h => ?_).trans (if_pos (awaits_iff.mpr ⟨hs, hw⟩)))
  · have := (trainingIsOver_iff.mp h).2.2; omega
  · have := (recoveryIsOver_iff.mp h).2.2; omega

theorem trainingBoundary_of_holdoff {k : Nat} (hs : (s.port p).state = .down) (hh : (s.port p).holdoff = some k) :
    trainingBoundary p s = if k ≤ 1 then endHoldoff p s else
      s.setPort p { s.port p with holdoff := some (k - 1) } := by
  have hno : ¬ ((s.port p).state = .training ∨ (s.port p).state = .recovery) := by simp [hs]
  refine (if_neg fun h => ?_).trans ((if_neg fun h => ?_).trans ((if_neg fun h => hno (awaits_iff.mp h).1).trans ?_))
  · exact hno (.inl (trainingIsOver_iff.mp h).1)
  · exact hno (.inr (recoveryIsOver_iff.mp h).1)
  · split
    · next h =>
      obtain ⟨k', hk, -, hle⟩ := holdoffIsOver_iff.mp h
      cases hh.symm.trans hk
      rw [if_pos hle]
    · next h =>
      rw [if_neg fun hle => h (holdoffIsOver_iff.mpr ⟨k, hh, hs, hle⟩), hh]
      rfl

/-- A census window that runs, holds the training and the recovery of its port (R98, R103). -/
theorem trainingBoundary_of_window (hs : (s.port p).state = .training ∨ (s.port p).state = .recovery)
    (hw : (s.port p).window ≠ none) : trainingBoundary p s =
      s.setPort p { s.port p with holdoff := (s.port p).holdoff.map (· - 1) } := by
  refine (if_neg fun h => ?_).trans ((if_neg fun h => ?_).trans ((if_neg fun h => ?_).trans (if_neg fun h => ?_)))
  · exact hw (trainingIsOver_iff.mp h).2.1
  · exact hw (recoveryIsOver_iff.mp h).2.1
  · exact hw (awaits_iff.mp h).2
  · obtain ⟨_, -, hd, -⟩ := holdoffIsOver_iff.mp h
    rcases hs with hs | hs <;> cases hs.symm.trans hd

end

/-! ### What one port's steps leave of the other ports -/

/-- The messages of port `p` that go out from `s` to `t`. -/
def Sends (p : Fin 8) (mine : List Emission) (s t : State) : Prop :=
  ∃ new, t.sent = s.sent ++ new ∧ new.filter (Emission.isOfPort p) = mine

theorem Sends.of_sent {p : Fin 8} {s t : State} (h : t.sent = s.sent) : Sends p [] s t :=
  ⟨[], by rw [h, List.append_nil], rfl⟩

theorem Sends.trans {p : Fin 8} {s t u : State} {l m : List Emission} (h : Sends p l s t) (h' : Sends p m t u) :
    Sends p (l ++ m) s u := by
  obtain ⟨new, hsent, hmine⟩ := h
  obtain ⟨new', hsent', hmine'⟩ := h'
  exact ⟨new ++ new', by rw [hsent', hsent, List.append_assoc], by rw [List.filter_append, hmine, hmine']⟩

/-- Another port's step: this port stands and sends nothing, and the blocks of the other parts stand. -/
structure Aside (p : Fin 8) (s t : State) : Prop where
  port : t.port p = s.port p
  sends : Sends p [] s t
  only : OnlyChanges [.ports, .mgmt, .sent, .limiter, .accumulation] s t

section
variable {p q : Fin 8} {s t u : State}

theorem Aside.refl : Aside p s s := ⟨rfl, .of_sent rfl, .refl _ _⟩

theorem Aside.trans (h : Aside p s t) (h' : Aside p t u) : Aside p s u :=
  ⟨h'.port.trans h.port, h.sends.trans h'.sends, h'.only.iff_of.mpr h.only⟩

theorem Aside.of_only {l : List Block} (h : OnlyChanges l s t) (hl : l ⊆ [.mgmt, .limiter, .accumulation]) :
    Aside p s t := by
  have hmono : OnlyChanges [.mgmt, .limiter, .accumulation] s t := h.mono hl
  exact ⟨by rw [State.port, (hmono.ports rfl)]; rfl, .of_sent (hmono.sent rfl), hmono.mono (by decide)⟩

theorem Aside.then_only {l : List Block} (h : Aside p s t) (h' : OnlyChanges l t u)
    (hl : l ⊆ [.mgmt, .limiter, .accumulation]) : Aside p s u := h.trans (.of_only h' hl)

theorem aside_setPort (hq : q ≠ p) (x : Port) : Aside p s (s.setPort q x) :=
  ⟨port_setPort_ne s hq x, .of_sent rfl, by simp⟩

theorem aside_sendChain (hq : q ≠ p) (m : ChainMessage) : Aside p s (sendChain q m s) := by
  cases hw : (s.port q).width with
  | none => rw [sendChain_of_no_width q s m hw]; exact .refl
  | some w => rw [sendChain_of_width q s m hw]; exact ⟨rfl, ⟨_, rfl, by simp [hq]⟩, by simp⟩

theorem aside_sendPattern (hq : q ≠ p) : Aside p s (sendPattern q s) := by
  cases ho : (s.port q).offer with
  | none => simp only [sendPattern, ho]; exact .refl
  | some w => rw [sendPattern_of_offer q s ho]; exact ⟨rfl, ⟨_, rfl, by simp [hq]⟩, by simp⟩

theorem Aside.offer (h : Aside p s t) (k : EventKind) (b : List Byte) : Aside p s (offer k b t) :=
  h.then_only (l := [.mgmt]) (by simp) (by decide)

theorem Aside.answer (h : Aside p s t) (tag code : Byte) (r : Result) (b : List Byte) : Aside p s (answer tag code r b t) :=
  h.then_only (l := [.mgmt]) (by simp) (by decide)

theorem aside_enterTraining (hq : q ≠ p) (cause : ChainCause) : Aside p s (enterTraining q cause s) :=
  (((aside_setPort hq _).trans (aside_setPort hq _)).trans (aside_sendPattern hq)).offer _ _

theorem aside_tryTraining (hq : q ≠ p) (cause : ChainCause) : Aside p s (tryTraining q cause s) := by
  unfold tryTraining
  split
  · exact aside_enterTraining hq cause
  · exact .refl

theorem aside_enterDown (hq : q ≠ p) (cause : ChainCause) : Aside p s (enterDown q cause s) :=
  (aside_setPort hq _).offer _ _

theorem aside_finishDisable (hq : q ≠ p) : Aside p s (finishDisable q s) := by
  unfold finishDisable
  split
  · exact .refl
  · exact (((aside_setPort hq _).trans (aside_setPort hq _)).offer _ _).answer _ _ _ _

theorem aside_sendCap (hq : q ≠ p) : Aside p s (sendCap q s) := by
  unfold sendCap
  split
  · exact .refl
  · exact (aside_sendChain hq _).trans (aside_setPort hq _)

theorem aside_censusBoundary (hq : q ≠ p) : Aside p s (censusBoundary q s) := by
  simp only [censusBoundary]
  split
  · split
    · exact ((aside_setPort hq _).trans (aside_sendChain hq _)).trans (aside_setPort hq _)
    · exact aside_setPort hq _
  · exact .refl

theorem aside_trainingBoundary (hq : q ≠ p) : Aside p s (trainingBoundary q s) := by
  simp only [trainingBoundary]
  repeat' split
  · exact (aside_enterDown hq _).trans (aside_setPort hq _)
  · exact ((aside_enterDown hq _).trans (aside_setPort hq _)).trans (aside_tryTraining hq _)
  · exact (aside_setPort hq _).trans (aside_sendPattern hq)
  · exact (aside_setPort hq _).trans (aside_tryTraining hq _)
  · exact aside_setPort hq _

theorem aside_portBoundary (hq : q ≠ p) : Aside p s (portBoundary q s) := by
  unfold portBoundary
  split
  · exact aside_finishDisable hq
  · split
    · exact (aside_sendCap hq).trans (aside_censusBoundary hq)
    · exact aside_trainingBoundary hq

theorem aside_markPort (hq : q ≠ p) (normal : Bool) : Aside p s (markPort normal q s) := by
  have hfold : ∀ (l : List Segment) (t : State), Aside p t (l.foldl (fun s g => sendChain q (.segment g) s) t) := by
    intro l
    induction l with
    | nil => exact fun _ => .refl
    | cons g l ih => exact fun t => (aside_sendChain hq _).trans (ih _)
  simp only [markPort]
  split
  · exact ((hfold _ _).trans (aside_sendChain hq _)).trans (aside_setPort hq _)
  · exact aside_setPort hq _

/-- In a loop one member meets its own pass alone: the passes of the others stand in a relation that composes. -/
theorem forEach_reaches {n : Nat} {f : Fin n → State → State} {R : State → State → Prop} (hrefl : ∀ s, R s s)
    (htrans : ∀ {s t u}, R s t → R t u → R s u) (i : Fin n) (h : ∀ j, j ≠ i → ∀ s, R s (f j s)) (s : State) :
    ∃ u, R s u ∧ R (f i u) (forEach f s) := by
  have hfold : ∀ (l : List (Fin n)) (t : State), i ∉ l → R t (l.foldl (fun s j => f j s) t) := by
    intro l
    induction l with
    | nil => exact fun _ _ => hrefl _
    | cons j l ih =>
      intro t hi
      rw [List.mem_cons, not_or] at hi
      obtain ⟨hj, hl⟩ := hi
      exact htrans (h j (Ne.symm hj) t) (ih _ hl)
  obtain ⟨a, b, hab⟩ := List.append_of_mem (List.mem_finRange i)
  have hnodup := List.nodup_finRange n
  rw [hab, List.nodup_middle, List.nodup_cons, List.mem_append, not_or] at hnodup
  obtain ⟨⟨ha, hb⟩, -⟩ := hnodup
  refine ⟨a.foldl (fun s j => f j s) s, hfold a s ha, ?_⟩
  rw [forEach, hab, List.foldl_append, List.foldl_cons]
  exact hfold b _ hb

end

end Sys2Proof.Machine
end

section
/-! SUPPORT. A chain port at a boundary: its marker, its own boundary and its latch (sections 6.4, 6.8, 6.10). -/

namespace Sys2Proof.Machine

/-- The port with its marker sent and counted (R113). -/
def Port.marked (x : Port) (normal : Bool) : Port :=
  if x.state = .active then
    { x with
      unsent := [], marker := some (!normal)
      counters := { x.counters with
        normalMarkers := bumpIf normal x.counters.normalMarkers
        repeatMarkers := bumpIf (!normal) x.counters.repeatMarkers } }
  else { x with unsent := [], marker := none }

/-- The port with what it latches for the interval (R108 to R111). -/
def Port.latched (x : Port) (l : Latch) (unfed : Nat) : Port :=
  { x with
    latch := l, unfed := unfed, broken := false, errors := 0
    counters := { x.counters with
      overbookedIntervals := bumpIf (isOverbooked l) x.counters.overbookedIntervals } }

/-- The messages that a port sends with its marker (R113, R115). -/
def markMessages (p : Fin 8) (w : Lanes) (n : FrameNo) (normal : Bool) (x : Port) : List Emission :=
  (x.unsent.map fun g => .chain p w (.segment g)) ++ [.chain p w (.present n (!normal) (isHalfRate x.latch))]

section
variable (p : Fin 8) (s : State) (normal : Bool)

theorem markPort_port : (markPort normal p s).port p = (s.port p).marked normal := by
  simp only [markPort, Port.marked]
  split <;> rw [port_setPort_self]

theorem markPort_sent_of_active {w : Lanes} (h : (s.port p).state = .active) (hw : (s.port p).width = some w) :
    (markPort normal p s).sent = s.sent ++ markMessages p w s.frameNo normal (s.port p) := by
  rw [markPort, if_pos h]
  simp only [foldl_sendChain, hw]
  rw [sendChain_of_width (w := w) _ _ _ (by rw [port_setSent]; exact hw)]
  simp [markMessages, State.setPort, State.frameNo]

theorem markPort_sent_of_not_active (h : (s.port p).state ≠ .active) : (markPort normal p s).sent = s.sent := by
  rw [markPort, if_neg h]
  rfl

theorem latchPorts_sent : (latchPorts s).sent = s.sent := OnlyChanges.sent (l := [.ports]) (by simp) rfl

theorem latchPorts_port : (latchPorts s).port p = (s.port p).latched (latchFor s p) (unfedOf s p) := by
  simp only [latchPorts, State.port, State.setPorts_ports, Tab.get_mapFin]
  rfl

end

section
variable (gp : Tab 4 Bool) (o : CommitOrder) (s : State)

/-- The state in which a boundary sends the markers. -/
def boundaryMarking : State := autoHoldBoundary (boundaryLook gp o (boundaryOpening s))

/-- The state in which a boundary latches. -/
def boundaryLatching : State :=
  fixWallGains (portsBoundary (limiterBoundary (sendMarkers (boundaryMarking gp o s))))

theorem frameBoundary_latching : OnlyChanges
    [.drive, .fixture, .level, .mgmt, .canvas, .buffer, .accumulation, .cue, .banks, .timing]
    (latchPorts (boundaryLatching gp o s)) (frameBoundary gp o s) := by
  have h : frameBoundary gp o s = boundaryContacts gp o (boundaryLight (latchPorts (boundaryLatching gp o s))) := rfl
  rw [h]
  exact ((boundaryContacts_only _ gp o).mono (by decide)).iff_of.mpr ((boundaryLight_only _).mono (by decide))

theorem boundaryMarking_only : OnlyChanges
    [.now, .slot, .buffer, .timing, .mgmt, .canvas, .drive, .merge, .cue, .banks] s (boundaryMarking gp o s) := by
  simp [boundaryMarking, boundaryOpening, boundaryLook, takesAtBoundary]

theorem boundaryLatching_only : OnlyChanges [.ports, .mgmt, .sent, .limiter, .accumulation, .level]
    (boundaryMarking gp o s) (boundaryLatching gp o s) := by
  simp [boundaryLatching]

theorem frameBoundary_after_marking : OnlyChanges [.ports, .mgmt, .sent, .limiter, .accumulation, .level, .drive, .fixture,
    .canvas, .buffer, .cue, .banks, .timing] (boundaryMarking gp o s) (frameBoundary gp o s) := by
  have hlatch : OnlyChanges [.ports] (boundaryLatching gp o s) (latchPorts (boundaryLatching gp o s)) := by simp
  exact ((frameBoundary_latching gp o s).mono (by decide)).iff_of.mpr
    ((hlatch.mono (by decide)).iff_of.mpr ((boundaryLatching_only gp o s).mono (by decide)))

/-- One port at a boundary: the marker that it sends, the boundary of its own, and what it latches, among the steps of the
other ports. -/
theorem frameBoundary_port_steps (p : Fin 8) : ∃ u v : State,
    Aside p (boundaryMarking gp o s) u ∧
    Aside p (markPort (markerIsNormal (boundaryMarking gp o s) p) p u) v ∧
    Sends p [] (portBoundary p v) (frameBoundary gp o s) ∧
    (frameBoundary gp o s).port p = ((portBoundary p v).port p).latched
      (latchFor (boundaryLatching gp o s) p) (unfedOf (boundaryLatching gp o s) p) := by
  obtain ⟨u, hbefore, hmarked⟩ := forEach_reaches (R := Aside p)
    (f := fun q => markPort (markerIsNormal (boundaryMarking gp o s) q) q) (fun _ => .refl) Aside.trans p
    (fun q hq _ => aside_markPort hq _) (boundaryMarking gp o s)
  have hlimiter : OnlyChanges [.limiter, .accumulation, .mgmt] (sendMarkers (boundaryMarking gp o s))
      (limiterBoundary (sendMarkers (boundaryMarking gp o s))) := by simp
  obtain ⟨v, hlater, hdone⟩ := forEach_reaches (R := Aside p) (f := portBoundary) (fun _ => .refl) Aside.trans p
    (fun q hq _ => aside_portBoundary hq)
    (limiterBoundary (sendMarkers (boundaryMarking gp o s)))
  have hlevel : OnlyChanges [.level] (portsBoundary (limiterBoundary (sendMarkers (boundaryMarking gp o s))))
      (boundaryLatching gp o s) := by simp [boundaryLatching]
  have hend := frameBoundary_latching gp o s
  refine ⟨u, v, hbefore, (hmarked.then_only hlimiter (by decide)).trans hlater, ?_, ?_⟩
  · obtain ⟨new, hsent, hmine⟩ := hdone.sends
    refine ⟨new, ?_, hmine⟩
    rw [hend.sent rfl, latchPorts_sent, hlevel.sent rfl, portsBoundary, hsent]
  · rw [State.port, hend.ports rfl, ← State.port, latchPorts_port, State.port, hlevel.ports rfl, ← State.port]
    have hport : (portsBoundary (limiterBoundary (sendMarkers (boundaryMarking gp o s)))).port p =
        (portBoundary p v).port p := hdone.port
    rw [hport]

/-- A boundary sends behind what was sent before it. -/
theorem frameBoundary_sent : ∃ new, (frameBoundary gp o s).sent = s.sent ++ new := by
  obtain ⟨u, v, hu, hv, hend, -⟩ := frameBoundary_port_steps gp o s 0
  have hmark : Aside 1 u (markPort (markerIsNormal (boundaryMarking gp o s) 0) 0 u) := aside_markPort (by decide) _
  have hport : Aside 1 v (portBoundary 0 v) := aside_portBoundary (by decide)
  obtain ⟨a, ha, -⟩ := hu.sends
  obtain ⟨b, hb, -⟩ := hmark.sends
  obtain ⟨c, hc, -⟩ := hv.sends
  obtain ⟨d, hd, -⟩ := hport.sends
  obtain ⟨e, he, -⟩ := hend
  exact ⟨a ++ b ++ c ++ d ++ e, by rw [he, hd, hc, hb, ha, (boundaryMarking_only gp o s).sent rfl]; simp⟩

end

end Sys2Proof.Machine
end

section
/-! PROOFS. Training, recovery, holdoff, census and error bursts run out (R97 to R106). -/

namespace Sys2Proof.Machine

section
variable {s : State} {p : Fin 8}

theorem Port.marked_of_active {x : Port} (h : x.state = .active) (normal : Bool) : x.marked normal =
    { x with
      unsent := [], marker := some (!normal)
      counters := { x.counters with
        normalMarkers := bumpIf normal x.counters.normalMarkers
        repeatMarkers := bumpIf (!normal) x.counters.repeatMarkers } } := if_pos h

theorem Port.marked_of_not_active {x : Port} (h : x.state ≠ .active) (normal : Bool) :
    x.marked normal = { x with unsent := [], marker := none } := if_neg h

@[simp] theorem Port.marked_state (x : Port) (normal : Bool) : (x.marked normal).state = x.state := by
  unfold Port.marked; split <;> rfl

@[simp] theorem Port.marked_disable (x : Port) (normal : Bool) : (x.marked normal).disable = x.disable := by
  unfold Port.marked; split <;> rfl

/-- A port that does not send a marker meets its own boundary with nothing but its unsent segments gone. -/
theorem frameBoundary_port_of_not_active (gp : Tab 4 Bool) (o : CommitOrder) (h : (s.port p).state ≠ .active) : ∃ v l n,
    v.port p = { s.port p with unsent := [], marker := none } ∧
    (frameBoundary gp o s).port p = ((portBoundary p v).port p).latched l n ∧
    ∀ mine, Sends p mine v (portBoundary p v) → Sends p mine s (frameBoundary gp o s) := by
  obtain ⟨u, v, hu, hv, hsends, hport⟩ := frameBoundary_port_steps gp o s p
  have honly := boundaryMarking_only gp o s
  have hstart : u.port p = s.port p := by rw [hu.port, State.port, honly.ports rfl]; rfl
  refine ⟨v, _, _, ?_, hport, fun mine hmine => ?_⟩
  · rw [hv.port, markPort_port, hstart, Port.marked_of_not_active h]
  · have hmark : Sends p [] u (markPort (markerIsNormal (boundaryMarking gp o s) p) p u) :=
      .of_sent (markPort_sent_of_not_active p u _ (by rw [hstart]; exact h))
    have hall := ((((Sends.of_sent (p := p) (honly.sent rfl)).trans hu.sends).trans hmark).trans hv.sends).trans (hmine.trans hsends)
    simpa using hall

/-- An ACTIVE port sends what it held and its marker, and then meets its own boundary. -/
theorem frameBoundary_port_of_active (gp : Tab 4 Bool) (o : CommitOrder) {w : Lanes} (h : (s.port p).state = .active)
    (hw : (s.port p).width = some w) : ∃ v l n normal,
    v.port p = (s.port p).marked normal ∧ v.now = (frameBoundary gp o s).now ∧
    (frameBoundary gp o s).port p = ((portBoundary p v).port p).latched l n ∧
    ∀ mine, Sends p mine v (portBoundary p v) → Sends p
      (markMessages p w (frameBoundary gp o s).timing.frame normal (s.port p) ++ mine) s (frameBoundary gp o s) := by
  obtain ⟨u, v, hu, hv, hsends, hport⟩ := frameBoundary_port_steps gp o s p
  have honly := boundaryMarking_only gp o s
  have hstart : u.port p = s.port p := by rw [hu.port, State.port, honly.ports rfl]; rfl
  have hmarkOnly : OnlyChanges [.ports, .sent] u (markPort (markerIsNormal (boundaryMarking gp o s) p) p u) := by simp
  have hafter := frameBoundary_after_marking gp o s
  have hframe : u.frameNo = (frameBoundary gp o s).timing.frame := by
    rw [State.frameNo, hu.only.timing rfl]
    simp [frameBoundary, boundaryMarking]
  refine ⟨v, _, _, markerIsNormal (boundaryMarking gp o s) p, ?_, ?_, hport, fun mine hmine => ?_⟩
  · rw [hv.port, markPort_port, hstart]
  · rw [hv.only.now rfl, hmarkOnly.now rfl, hu.only.now rfl, hafter.now rfl]
  · have hmark : Sends p (markMessages p w (frameBoundary gp o s).timing.frame
        (markerIsNormal (boundaryMarking gp o s) p) (s.port p)) u
        (markPort (markerIsNormal (boundaryMarking gp o s) p) p u) := by
      refine ⟨_, markPort_sent_of_active p u _ (w := w) (by rw [hstart]; exact h) (by rw [hstart]; exact hw), ?_⟩
      rw [hstart, hframe]
      simp [markMessages, List.filter_map, Function.comp_def]
    have hall := ((((Sends.of_sent (p := p) (honly.sent rfl)).trans hu.sends).trans hmark).trans hv.sends).trans (hmine.trans hsends)
    simpa using hall

theorem Sends.filter_eq {mine new : List Emission} {t : State} (h : Sends p mine s t) (ht : t.sent = s.sent ++ new) :
    new.filter (Emission.isOfPort p) = mine := by
  obtain ⟨new', hsent, hmine⟩ := h
  rw [← hmine, List.append_cancel_left (ht.symm.trans hsent)]

theorem addErrors_of_few {errors : Nat} (hs : (s.port p).state = .active) (h : (s.port p).errors + errors < 8) :
    addErrors p errors s = s.setPort p { s.port p with errors := (s.port p).errors + errors } := by
  simp only [addErrors, if_pos hs, port_setPort_self, if_neg (Nat.not_le.mpr h)]

/-- Eight symbol errors of an interval are an error burst (R104). -/
theorem addErrors_of_burst {errors : Nat} (hs : (s.port p).state = .active) (h : 8 ≤ (s.port p).errors + errors) :
    EntersRecovery s p { s.port p with errors := (s.port p).errors + errors } 5 (addErrors p errors s) := by
  obtain ⟨k, hk, henter⟩ := enterRecovery_enters
    (s.setPort p { s.port p with errors := (s.port p).errors + errors }) p .errorBurst
  rw [port_setPort_self] at hk henter
  refine ⟨k, hk, ?_⟩
  simp only [addErrors, if_pos hs, port_setPort_self, if_pos h, henter, setPort_setPort]
  rfl

/-! ### Boundaries by the state of the port -/

section
variable (gp : Tab 4 Bool) (o : CommitOrder)

/-- The cap that waits and the count of the caps sent. -/
def Port.capState (x : Port) : Option Nat × Counter := (x.cap, x.counters.capsSent)

theorem Port.latched_capState (x : Port) (l : Latch) (n : Nat) : (x.latched l n).capState = x.capState := rfl

theorem Port.marked_capState (x : Port) (normal : Bool) : (x.marked normal).capState = x.capState := by
  unfold Port.marked; split <;> rfl

/-- What a port's own boundary leaves of its marker, its unsent segments and the counters that go with them. -/
def Port.shown (x : Port) : List Segment × Option Bool × Counter × Counter × Counter :=
  (x.unsent, x.marker, x.counters.normalMarkers, x.counters.repeatMarkers, x.counters.overbookedIntervals)

/-- What the training of a port leaves as it stands. -/
def Port.standing (x : Port) :
    (Option Nat × Counter) × Option Byte × (List Segment × Option Bool × Counter × Counter × Counter) :=
  (x.capState, x.disable, x.shown)

theorem tryTraining_standing (cause : ChainCause) (t : State) :
    ((tryTraining p cause t).port p).standing = (t.port p).standing := by
  by_cases h : (t.port p).mayTrain
  · rw [tryTraining_of_may p t cause h, port_self_of_ports (enterTraining_ports p t cause)]; rfl
  · rw [tryTraining_of_not p t cause h]

theorem trainingBoundary_standing (t : State) : ((trainingBoundary p t).port p).standing = (t.port p).standing := by
  simp only [trainingBoundary]
  repeat' split
  · rw [failTraining_eq, port_offer, port_setPort_self]; rfl
  · rw [failRecovery_eq, tryTraining_standing, failedRecovery_port]; rfl
  · rw [stepOffer, sendPattern_port, port_setPort_self]; rfl
  · rw [endHoldoff, tryTraining_standing, port_setPort_self]; rfl
  · rw [port_setPort_self]; rfl

/-- A port with a pending Disable enters DISABLED (R106). -/
theorem portBoundary_port_of_disable {t : State} {tag : Byte} (hd : (t.port p).disable = some tag) :
    (portBoundary p t).port p = Port.disabled { t.port p with disable := none } := by
  rw [portBoundary_of_disable hd, answer, port_setMgmt, enterDisabled_eq, port_offer, port_setPort_self, port_setPort_self]

/-- A port that is not ACTIVE, or enters DISABLED, keeps its cap (R112). -/
theorem portBoundary_capState {t : State} (h : (t.port p).state ≠ .active ∨ (t.port p).disable ≠ none) :
    ((portBoundary p t).port p).capState = (t.port p).capState := by
  cases hd : (t.port p).disable with
  | none =>
    rw [portBoundary_of_else hd (h.resolve_right fun hn => hn hd)]
    exact congrArg Prod.fst (trainingBoundary_standing t)
  | some tag => rw [portBoundary_port_of_disable hd]; rfl

theorem frameBoundary_port_cap (h : (s.port p).state ≠ .active ∨ (s.port p).disable ≠ none) :
    ((frameBoundary gp o s).port p).cap = (s.port p).cap ∧
      ((frameBoundary gp o s).port p).counters.capsSent = (s.port p).counters.capsSent := by
  obtain ⟨u, v, hu, hv, -, hport⟩ := frameBoundary_port_steps gp o s p
  have hstart : u.port p = s.port p := by rw [hu.port, State.port, (boundaryMarking_only gp o s).ports rfl]; rfl
  have hmarked : v.port p = (s.port p).marked (markerIsNormal (boundaryMarking gp o s) p) := by
    rw [hv.port, markPort_port, hstart]
  have hkeeps := portBoundary_capState (p := p) (t := v) (by rwa [hmarked, Port.marked_state, Port.marked_disable])
  rw [hmarked] at hkeeps
  have hcap : ((frameBoundary gp o s).port p).capState = (s.port p).capState := by
    rw [hport, Port.latched_capState, hkeeps, Port.marked_capState]
  exact ⟨congrArg Prod.fst hcap, congrArg Prod.snd hcap⟩

/-- A port that is neither ACTIVE nor being disabled meets the boundary of its training. -/
theorem frameBoundary_port_training (hd : (s.port p).disable = none) (hne : (s.port p).state ≠ .active) : ∃ v l n,
    v.port p = { s.port p with unsent := [], marker := none } ∧
    (frameBoundary gp o s).port p = ((trainingBoundary p v).port p).latched l n ∧
    ∀ mine, Sends p mine v (trainingBoundary p v) → Sends p mine s (frameBoundary gp o s) := by
  obtain ⟨v, l, n, hv, hport, hsends⟩ := frameBoundary_port_of_not_active gp o hne
  rw [portBoundary_of_else (by rw [hv]; exact hd) (by rw [hv]; exact hne)] at hport hsends
  exact ⟨v, l, n, hv, hport, hsends⟩

theorem not_active_of_offering (hs : (s.port p).state = .training ∨ (s.port p).state = .recovery) :
    (s.port p).state ≠ .active := by
  rcases hs with hs | hs <;> rw [hs] <;> decide

theorem frameBoundary_port_offering {w : Lanes} (hd : (s.port p).disable = none)
    (hs : (s.port p).state = .training ∨ (s.port p).state = .recovery) (hw : (s.port p).window = none)
    (hc : (s.port p).count < 9) (ho : (s.port p).offer = some w) :
    let y := (frameBoundary gp o s).port p
    y.state = (s.port p).state ∧ y.count = (s.port p).count + 1 ∧ y.offer = some w.narrower ∧ y.window = none ∧
      Sends p [.chain p w.narrower (.pattern w.narrower)] s (frameBoundary gp o s) := by
  obtain ⟨v, l, n, hv, hport, hsends⟩ := frameBoundary_port_training gp o hd (not_active_of_offering hs)
  rw [trainingBoundary_of_offer (by rw [hv]; exact hs) (by rw [hv]; exact hw) (by rw [hv]; exact hc),
    stepOffer_eq p v (w := w) (by rw [hv]; exact ho)] at hport hsends
  rw [port_setSent, port_setPort_self, hv] at hport
  simp only [hport]
  exact ⟨rfl, rfl, rfl, hw, hsends _ ⟨_, rfl, by simp⟩⟩

theorem frameBoundary_port_window (hd : (s.port p).disable = none)
    (hs : (s.port p).state = .training ∨ (s.port p).state = .recovery) (hw : (s.port p).window ≠ none) :
    let y := (frameBoundary gp o s).port p
    y.state = (s.port p).state ∧ y.count = (s.port p).count ∧ y.offer = (s.port p).offer ∧ y.window = (s.port p).window ∧
      Sends p [] s (frameBoundary gp o s) := by
  obtain ⟨v, l, n, hv, hport, hsends⟩ := frameBoundary_port_training gp o hd (not_active_of_offering hs)
  rw [trainingBoundary_of_window (by rw [hv]; exact hs) (by rw [hv]; exact hw)] at hport hsends
  rw [port_setPort_self, hv] at hport
  simp only [hport]
  exact ⟨rfl, rfl, rfl, rfl, hsends _ (.of_sent rfl)⟩

theorem frameBoundary_port_training_over (hd : (s.port p).disable = none) (hs : (s.port p).state = .training)
    (hw : (s.port p).window = none) (hc : 9 ≤ (s.port p).count) :
    let y := (frameBoundary gp o s).port p
    y.state = .down ∧ y.offer = none ∧ y.holdoff = some 25 ∧
      y.counters.trainingFailures = bump (s.port p).counters.trainingFailures ∧ Sends p [] s (frameBoundary gp o s) := by
  obtain ⟨v, l, n, hv, hport, hsends⟩ := frameBoundary_port_training gp o hd (not_active_of_offering (.inl hs))
  rw [trainingBoundary_of_over (by rw [hv]; exact trainingIsOver_iff.mpr ⟨hs, hw, hc⟩), failTraining_eq] at hport hsends
  rw [port_offer, port_setPort_self, hv] at hport
  simp only [hport]
  exact ⟨rfl, rfl, rfl, rfl, hsends _ (.of_sent rfl)⟩

theorem frameBoundary_port_recovery_over (hd : (s.port p).disable = none) (hs : (s.port p).state = .recovery)
    (hw : (s.port p).window = none) (hc : 9 ≤ (s.port p).count) (hh : (s.port p).holdoff = none) :
    let y := (frameBoundary gp o s).port p
    y.counters.recoveryFailures = bump (s.port p).counters.recoveryFailures ∧ y.holdoff = none ∧
      ((s.port p).partner = false → y.state = .down ∧ y.offer = none ∧ Sends p [] s (frameBoundary gp o s)) ∧
      ((s.port p).partner = true → y.state = .training ∧ y.offer = some .four ∧ y.count = 0 ∧
        Sends p [.chain p .four (.pattern .four)] s (frameBoundary gp o s)) := by
  obtain ⟨v, l, n, hv, hport, hsends⟩ := frameBoundary_port_training gp o hd (not_active_of_offering (.inr hs))
  rw [trainingBoundary_of_recovery_over (by rw [hv]; exact recoveryIsOver_iff.mpr ⟨hs, hw, hc⟩)] at hport hsends
  cases hp : (s.port p).partner with
  | false =>
    rw [failRecovery_of_alone p v (by rw [hv]; exact hp)] at hport hsends
    rw [failedRecovery_port, hv] at hport
    simp only [hport]
    exact ⟨rfl, hh, fun _ => ⟨rfl, rfl, hsends _ (.of_sent rfl)⟩, nofun⟩
  | true =>
    rw [failRecovery_of_partner p v (by rw [hv]; exact hp) (by rw [hv]; exact hh)] at hport hsends
    rw [port_offer, port_offer, port_setSent, port_setPort_self, hv] at hport
    simp only [hport]
    exact ⟨rfl, hh, nofun, fun _ => ⟨rfl, rfl, rfl, hsends _ ⟨_, rfl, by simp⟩⟩⟩

theorem frameBoundary_port_holdoff {k : Nat} (hd : (s.port p).disable = none) (hs : (s.port p).state = .down)
    (hh : (s.port p).holdoff = some (k + 2)) :
    let y := (frameBoundary gp o s).port p
    y.state = .down ∧ y.holdoff = some (k + 1) ∧ Sends p [] s (frameBoundary gp o s) := by
  obtain ⟨v, l, n, hv, hport, hsends⟩ := frameBoundary_port_training gp o hd (by rw [hs]; decide)
  rw [trainingBoundary_of_holdoff (k := k + 2) (by rw [hv]; exact hs) (by rw [hv]; exact hh),
    if_neg (by omega)] at hport hsends
  rw [port_setPort_self, hv] at hport
  simp only [hport]
  exact ⟨hs, rfl, hsends _ (.of_sent rfl)⟩

theorem frameBoundary_port_holdoff_end (hd : (s.port p).disable = none) (hs : (s.port p).state = .down)
    (hh : (s.port p).holdoff = some 1) :
    let y := (frameBoundary gp o s).port p
    y.holdoff = none ∧
      ((s.port p).partner = false → y.state = .down ∧ Sends p [] s (frameBoundary gp o s)) ∧
      ((s.port p).partner = true → y.state = .training ∧ y.offer = some .four ∧ y.count = 0 ∧
        Sends p [.chain p .four (.pattern .four)] s (frameBoundary gp o s)) := by
  obtain ⟨v, l, n, hv, hport, hsends⟩ := frameBoundary_port_training gp o hd (by rw [hs]; decide)
  rw [trainingBoundary_of_holdoff (k := 1) (by rw [hv]; exact hs) (by rw [hv]; exact hh), if_pos le_rfl] at hport hsends
  cases hp : (s.port p).partner with
  | false =>
    rw [endHoldoff_of_alone p v (by rw [hv]; exact hp)] at hport hsends
    rw [port_setPort_self, hv] at hport
    simp only [hport]
    exact ⟨rfl, fun _ => ⟨hs, hsends _ (.of_sent rfl)⟩, nofun⟩
  | true =>
    rw [endHoldoff_of_partner p v (by rw [hv]; exact hs) (by rw [hv]; exact hp)] at hport hsends
    rw [port_offer, port_setSent, port_setPort_self, hv] at hport
    simp only [hport]
    exact ⟨rfl, nofun, fun _ => ⟨rfl, rfl, rfl, hsends _ ⟨_, rfl, by simp⟩⟩⟩

/-- The pending cap and the count of the caps sent after an ACTIVE port's boundary, and what goes out (R112). -/
theorem sendCap_sends {t : State} {w : Lanes} (hw : (t.port p).width = some w) :
    (sendCap p t).port p = (t.port p).capped ∧
      Sends p ((t.port p).cap.elim [] fun watts => [.chain p w (.cap watts)]) t (sendCap p t) := by
  refine ⟨port_self_of_ports (sendCap_ports p t), ?_⟩
  cases hc : (t.port p).cap with
  | none => rw [sendCap_of_none p t hc]; exact .of_sent rfl
  | some watts => rw [sendCap_of_some p t hw hc]; exact ⟨_, rfl, by simp⟩

theorem Port.capped_kept (x : Port) : x.capped.state = x.state ∧ x.capped.width = x.width ∧ x.capped.window = x.window ∧
    x.capped.censusCount = x.censusCount := by
  unfold Port.capped; split <;> exact ⟨rfl, rfl, rfl, rfl⟩

theorem Port.capped_capState (x : Port) : x.capped.capState =
    (none, if x.cap = none then x.counters.capsSent else bump x.counters.capsSent) := by
  cases h : x.cap with
  | none => simp [Port.capped_of_none h, Port.capState, h]
  | some watts => simp [Port.capped_of_some h, Port.capState]

/-- The census of an ACTIVE port at a boundary (R102). -/
theorem censusBoundary_sends {t : State} {w : Lanes} (hs : (t.port p).state = .active) (hw : (t.port p).width = some w) :
    ((censusBoundary p t).port p) = { t.port p with
      censusCount := (t.port p).censusCount + 1
      window := if (t.port p).window = none ∧ 49 ≤ (t.port p).censusCount then some ⟨t.now, []⟩ else (t.port p).window } ∧
      Sends p (if (t.port p).window = none ∧ 49 ≤ (t.port p).censusCount then [.chain p w .token] else []) t
        (censusBoundary p t) := by
  split
  · next h =>
    rw [censusBoundary_of_due p t hs hw h.1 h.2, port_setSent, port_setPort_self]
    exact ⟨rfl, _, rfl, by simp⟩
  · next h =>
    rw [censusBoundary_of_not_due p t hs h, port_setPort_self]
    exact ⟨rfl, .of_sent rfl⟩

theorem frameBoundary_port_active {w : Lanes} (hd : (s.port p).disable = none) (hs : (s.port p).state = .active)
    (hw : (s.port p).width = some w) :
    let y := (frameBoundary gp o s).port p
    let token := (s.port p).window = none ∧ 49 ≤ (s.port p).censusCount
    y.cap = none ∧
      y.counters.capsSent =
        (if (s.port p).cap = none then (s.port p).counters.capsSent else bump (s.port p).counters.capsSent) ∧
      y.censusCount = (s.port p).censusCount + 1 ∧
      y.window = (if token then some ⟨(frameBoundary gp o s).now, []⟩ else (s.port p).window) ∧
      ∃ again half, Sends p (((s.port p).unsent.map fun g => .chain p w (.segment g)) ++
        [.chain p w (.present (frameBoundary gp o s).timing.frame again half)] ++
        ((s.port p).cap.elim [] fun watts => [.chain p w (.cap watts)]) ++
        (if token then [.chain p w .token] else [])) s (frameBoundary gp o s) := by
  obtain ⟨v, l, n, normal, hv, hnow, hport, hsends⟩ := frameBoundary_port_of_active gp o hs hw
  rw [Port.marked_of_active hs] at hv
  obtain ⟨hcap, hcapSends⟩ := sendCap_sends (p := p) (t := v) (w := w) (by rw [hv]; exact hw)
  obtain ⟨hstate, hwidth, hwindow, hcount⟩ := Port.capped_kept (v.port p)
  have hcapNow : (sendCap p v).now = v.now := OnlyChanges.now (l := [.ports, .sent]) (by simp) rfl
  obtain ⟨hcensus, hcensusSends⟩ := censusBoundary_sends (p := p) (t := sendCap p v) (w := w)
    (by rw [hcap, hstate, hv]; exact hs) (by rw [hcap, hwidth, hv]; exact hw)
  rw [hcap, hwindow, hcount, hcapNow, hnow] at hcensus
  rw [hcap, hwindow, hcount] at hcensusSends
  rw [portBoundary_of_active (by rw [hv]; exact hd) (by rw [hv]; exact hs)] at hport hsends
  rw [hcensus] at hport
  have hcapState := Port.capped_capState (v.port p)
  rw [hv] at hport hcapState hcapSends hcensusSends
  simp only [hport]
  refine ⟨congrArg Prod.fst hcapState, congrArg Prod.snd hcapState, rfl, rfl, !normal, isHalfRate (s.port p).latch, ?_⟩
  have hall := hsends _ (hcapSends.trans hcensusSends)
  rw [← List.append_assoc] at hall
  exact hall

end

end

/-- Settles O37: each row by the port's counts, and a boundary through the port's own step. -/
theorem portTimersRunOut : Obligations.PortTimersRunOut := by
  intro s p x event
  refine ⟨fun hs hw hc => exec_of_run rfl ?_, fun hs hw hc hp => exec_of_run rfl ?_, fun hs hw hc hp hh => exec_of_run rfl ?_,
    fun hs hh hp => exec_of_run rfl ?_, fun hs hh hp => exec_of_run rfl ?_, fun w hs hw hc hwidth => exec_of_run rfl ?_,
    fun errors hs => exec_of_run rfl (if_neg hs), fun errors hs he => exec_of_run rfl (addErrors_of_few hs he),
    fun errors hs he => ⟨_, rfl, addErrors_of_burst hs he⟩, fun gp o => ?_⟩
  · refine (if_pos (trainingIsOver_iff.mpr ⟨hs, hw, hc.ge⟩)).trans ((failTraining_eq p s).trans ?_)
    rw [hs]; rfl
  · refine (if_pos (recoveryIsOver_iff.mpr ⟨hs, hw, hc.ge⟩)).trans ((failRecovery_of_alone p s hp).trans ?_)
    rw [failedRecovery, hs]; rfl
  · refine (if_pos (recoveryIsOver_iff.mpr ⟨hs, hw, hc.ge⟩)).trans ((failRecovery_of_partner p s hp hh).trans ?_)
    rw [hs]; rfl
  · exact (if_pos (holdoffIsOver_iff.mpr ⟨1, hh, hs, le_rfl⟩)).trans (endHoldoff_of_partner p s hs hp)
  · exact (if_pos (holdoffIsOver_iff.mpr ⟨1, hh, hs, le_rfl⟩)).trans (endHoldoff_of_alone p s hp)
  · have hdue : censusIsDue (s.port p) = true := by
      have hw' : (s.port p).window = none := hw
      have hc' : (s.port p).censusCount = 49 := hc
      have hs' : (s.port p).state = .active := hs
      simp [censusIsDue, hw', hc', hs']
    refine (if_pos hdue).trans ((censusBoundary_of_due p s hs hwidth hw hc.ge).trans ?_)
    rw [hc]
  · obtain ⟨new, hnew⟩ := frameBoundary_sent gp o s
    refine ⟨frameBoundary gp o s, new, rfl, hnew, ?_⟩
    intro y mine offering
    have hmine : ∀ {l}, Sends p l s (frameBoundary gp o s) → mine = l := fun h => h.filter_eq hnew
    refine ⟨frameBoundary_port_cap gp o, fun hd => ⟨fun w hs hw hc ho => ?_, fun hs hw => ?_, fun hs hw hc => ?_,
      fun hs hw hc hh => ?_, fun k hs hh => ?_, fun hs hh => ?_, fun w hs hw => ?_⟩⟩
    · obtain ⟨h1, h2, h3, h4, h5⟩ := frameBoundary_port_offering gp o hd hs hw hc ho
      cases w <;> exact ⟨h1, h2, h3, h4, hmine h5⟩
    · obtain ⟨h1, h2, h3, h4, h5⟩ := frameBoundary_port_window gp o hd hs hw
      exact ⟨h1, h2, h3, h4, hmine h5⟩
    · obtain ⟨h1, h2, h3, h4, h5⟩ := frameBoundary_port_training_over gp o hd hs hw hc
      exact ⟨h1, h2, h3, h4, hmine h5⟩
    · obtain ⟨h1, h2, halone, hpartner⟩ := frameBoundary_port_recovery_over gp o hd hs hw hc hh
      refine ⟨h1, h2, fun hp => ?_, fun hp => ?_⟩
      · obtain ⟨h3, h4, h5⟩ := halone hp
        exact ⟨h3, h4, hmine h5⟩
      · obtain ⟨h3, h4, h5, h6⟩ := hpartner hp
        exact ⟨h3, h4, h5, hmine h6⟩
    · obtain ⟨h1, h2, h3⟩ := frameBoundary_port_holdoff gp o hd hs hh
      exact ⟨h1, h2, hmine h3⟩
    · obtain ⟨h1, halone, hpartner⟩ := frameBoundary_port_holdoff_end gp o hd hs hh
      refine ⟨h1, fun hp => ?_, fun hp => ?_⟩
      · obtain ⟨h2, h3⟩ := halone hp
        exact ⟨h2, hmine h3⟩
      · obtain ⟨h2, h3, h4, h5⟩ := hpartner hp
        exact ⟨h2, h3, h4, hmine h5⟩
    · obtain ⟨h1, h2, h3, h4, again, half, h5⟩ := frameBoundary_port_active gp o hd hs hw
      exact ⟨h1, h2, h3, h4, again, half, hmine h5⟩

end Sys2Proof.Machine
end

section
/-! SUPPORT. The ports as a boundary leaves them (sections 6.4, 6.8, 6.10). -/

namespace Sys2Proof.Machine

section
variable {p : Fin 8} {t : State}

theorem censusBoundary_standing (t : State) : ((censusBoundary p t).port p).standing = (t.port p).standing := by
  simp only [censusBoundary]
  split
  · split
    · rw [port_self_of_ports (sendToken_ports p _), port_setPort_self]; rfl
    · rw [port_setPort_self]; rfl
  · rfl

theorem Port.capped_shown (x : Port) : x.capped.shown = x.shown := by
  unfold Port.capped; split <;> rfl

theorem Port.capped_disable (x : Port) : x.capped.disable = x.disable := by
  unfold Port.capped; split <;> rfl

/-- A port's own boundary leaves what it showed, and no Disable waits behind it (R106). -/
theorem portBoundary_shown (t : State) : ((portBoundary p t).port p).shown = (t.port p).shown ∧
    ((portBoundary p t).port p).disable = none := by
  cases hd : (t.port p).disable with
  | some tag => rw [portBoundary_port_of_disable hd]; exact ⟨rfl, rfl⟩
  | none =>
    by_cases hs : (t.port p).state = .active
    · have hstands := censusBoundary_standing (p := p) (sendCap p t)
      rw [port_self_of_ports (sendCap_ports p t)] at hstands
      rw [portBoundary_of_active hd hs]
      have hdisable := congrArg (fun y => y.2.1) hstands
      have hshown := congrArg (fun y => y.2.2) hstands
      exact ⟨hshown.trans (Port.capped_shown _), hdisable.trans ((Port.capped_disable _).trans hd)⟩
    · have hstands := trainingBoundary_standing (p := p) t
      rw [portBoundary_of_else hd hs]
      exact ⟨congrArg (fun y => y.2.2) hstands, (congrArg (fun y => y.2.1) hstands).trans hd⟩

end

section
variable (gp : Tab 4 Bool) (o : CommitOrder) (s : State) (p : Fin 8)

theorem frameBoundary_port_latched : (frameBoundary gp o s).port p = ((boundaryLatching gp o s).port p).latched
    (latchFor (boundaryLatching gp o s) p) (unfedOf (boundaryLatching gp o s) p) := by
  rw [State.port, (frameBoundary_latching gp o s).ports rfl, ← State.port, latchPorts_port]

/-- Whether the marker of a port at a boundary is normal (R113). -/
def marksNormal : Bool := markerIsNormal (boundaryMarking gp o s) p

/-- What a port shows behind a boundary. -/
theorem frameBoundary_port_shown :
    let y := (frameBoundary gp o s).port p
    let z := (s.port p).marked (marksNormal gp o s p)
    y.unsent = [] ∧ y.marker = z.marker ∧ y.counters.normalMarkers = z.counters.normalMarkers ∧
      y.counters.repeatMarkers = z.counters.repeatMarkers ∧
      y.counters.overbookedIntervals = bumpIf (isOverbooked y.latch) (s.port p).counters.overbookedIntervals ∧
      y.disable = none ∧ y.broken = false ∧ ((s.port p).disable ≠ none → y.state = .disabled) := by
  obtain ⟨u, v, hu, hv, -, hport⟩ := frameBoundary_port_steps gp o s p
  have hstart : u.port p = s.port p := by rw [hu.port, State.port, (boundaryMarking_only gp o s).ports rfl]; rfl
  have hmarked : v.port p = (s.port p).marked (marksNormal gp o s p) := by
    rw [hv.port, markPort_port, hstart]; rfl
  obtain ⟨hshown, hdisable⟩ := portBoundary_shown (p := p) v
  have hdisabled : (s.port p).disable ≠ none → ((portBoundary p v).port p).state = .disabled := fun hd => by
    obtain ⟨tag, htag⟩ := Option.ne_none_iff_exists'.mp hd
    rw [portBoundary_port_of_disable (tag := tag) (by rw [hmarked, Port.marked_disable]; exact htag)]
    rfl
  have hunsent : ((s.port p).marked (marksNormal gp o s p)).unsent = [] := by unfold Port.marked; split <;> rfl
  have hover : ((s.port p).marked (marksNormal gp o s p)).counters.overbookedIntervals =
      (s.port p).counters.overbookedIntervals := by unfold Port.marked; split <;> rfl
  rw [hmarked] at hshown
  simp only [Port.shown, Prod.mk.injEq] at hshown
  obtain ⟨h1, h2, h3, h4, h5⟩ := hshown
  simp only [hport, Port.latched]
  exact ⟨h1.trans hunsent, h2, h3, h4, by rw [h5, hover], hdisable, trivial, hdisabled⟩

/-- The banks' two sides and which is active (R41). -/
def Banks.sides (b : Banks) : Bool × Bank × Bank := (b.aActive, b.bankA, b.bankB)

theorem requestsKeep_sides (x : Bool × Bank × Bank) : RequestsKeep fun b => b.sides = x where
  accept _ _ _ h _ _ := h
  note _ _ _ h := h

theorem activeBank_of_sides {s t : State} (h : t.banks.sides = s.banks.sides) : t.activeBank = s.activeBank := by
  simp only [Banks.sides, Prod.mk.injEq] at h
  obtain ⟨h1, h2, h3⟩ := h
  simp only [State.activeBank, h1, h2, h3]

/-- The bank in force, its sides and the interval stand from the markers on. -/
theorem frameBoundary_sides : (frameBoundary gp o s).banks.sides = (boundaryMarking gp o s).banks.sides := by
  have hauto : OnlyChanges [.canvas, .mgmt] (boundaryLook gp o (boundaryOpening s)) (boundaryMarking gp o s) := by
    simp [boundaryMarking]
  rw [hauto.banks rfl]
  refine (requestsKeep_sides _).boundaryContacts (s := boundaryLight (boundaryWall (boundaryLook gp o (boundaryOpening s))))
    ?_ gp o
  rw [(boundaryLight_only _).banks rfl, (boundaryWall_only _).banks rfl]

theorem boundaryLatching_bank : (boundaryLatching gp o s).activeBank = (frameBoundary gp o s).activeBank := by
  refine (activeBank_of_sides ?_).symm
  rw [frameBoundary_sides, (boundaryLatching_only gp o s).banks rfl]

theorem boundaryLatching_timing : (boundaryLatching gp o s).timing.frame = (frameBoundary gp o s).timing.frame ∧
    (boundaryLatching gp o s).timing.length = (frameBoundary gp o s).timing.length := by
  rw [(boundaryLatching_only gp o s).timing rfl]
  simp [frameBoundary, boundaryMarking]

end

end Sys2Proof.Machine
end

section
/-! PROOFS. Reach, depth and latch (R108 to R111). -/

namespace Sys2Proof.Machine

section
variable {b : Bank} {ports : Tab 8 Port} {e : TileEntry}

theorem pairOf_eq {p : Fin 8} {k : Fin 4} (h : p.val / 2 = k.val) : pairOf p = k := Fin.ext h

theorem reachOf_invalid (h : e.valid = false) : reachOf b ports e = none := by simp [reachOf, h]

theorem reachOf_alone (hv : e.valid = true) (hr : isRing b e.chain = false) : reachOf b ports e =
    if e.position.val < censusInForce (ports.get e.chain) then some (e.chain, e.position.val) else none := by
  simp [reachOf, hv, hr]

theorem reachOf_return (hv : e.valid = true) (hr : isRing b e.chain = true) (hp : isPrimary e.chain = false) :
    reachOf b ports e = none := by
  simp [reachOf, hv, hr, hp]

theorem primaryOf_of_even {c : Fin 8} (h : c.val % 2 = 0) : primaryOf c = c := Fin.ext (by simp only [primaryOf]; omega)

theorem reachOf_ring (hv : e.valid = true) (hr : isRing b e.chain = true) (hp : e.chain.val % 2 = 0) : reachOf b ports e =
    if e.position.val < censusInForce (ports.get e.chain) then some (e.chain, e.position.val)
    else if (b.lengths.get e.chain).toNat ≤ e.position.val + censusInForce (ports.get (returnOf e.chain)) then
      some (returnOf e.chain, (b.lengths.get e.chain).toNat - 1 - e.position.val)
    else none := by
  have hprimary : isPrimary e.chain = true := by simp [isPrimary, hp]
  simp [reachOf, hv, hr, hprimary, primaryOf_of_even hp]

/-- Only the census in force of each port decides the reach. -/
theorem reachOf_congr {ports' : Tab 8 Port} (h : ∀ p, censusInForce (ports'.get p) = censusInForce (ports.get p)) :
    reachOf b ports' e = reachOf b ports e := by
  simp only [reachOf, h]

theorem mem_reachedBy {p : Fin 8} {r : ReachedTile} : r ∈ reachedBy b ports p ↔
    reachOf b ports (b.tiles.get r.entry) = some (p, r.position) ∧ r.chain = (b.tiles.get r.entry).chain := by
  simp only [reachedBy, List.mem_filterMap, List.mem_finRange, true_and]
  constructor
  · rintro ⟨i, hi⟩
    split at hi
    · next q position hreach =>
      split at hi
      · next hq =>
        cases hi
        exact ⟨hq ▸ hreach, rfl⟩
      · cases hi
    · cases hi
  · rintro ⟨hreach, hchain⟩
    refine ⟨r.entry, ?_⟩
    rw [hreach]
    simp only [if_true, ← hchain]

theorem reachedBy_ascends (p : Fin 8) : (reachedBy b ports p).Pairwise fun x y => x.entry < y.entry := by
  refine List.Pairwise.filterMap _ ?_ (List.pairwise_lt_finRange 256)
  intro i j hij x hx y hy
  split at hx
  · split at hx
    · split at hy
      · split at hy
        · cases hx
          cases hy
          exact hij
        · cases hy
      · cases hy
    · cases hx
  · cases hx

/-- Where a reached entry is fed from (R108, R109). -/
theorem reachOf_some {p : Fin 8} {position : Nat} (h : reachOf b ports e = some (p, position))
    (hlength : e.position.val < (b.lengths.get e.chain).toNat) :
    e.valid = true ∧ position < censusInForce (ports.get p) ∧
    (isRing b e.chain = false → p = e.chain ∧ position = e.position.val) ∧
    (isRing b e.chain = true → e.chain.val % 2 = 0 →
      (p.val = e.chain.val ∧ position = e.position.val) ∨
      (p.val = e.chain.val + 1 ∧ position + e.position.val + 1 = (b.lengths.get e.chain).toNat ∧
        censusInForce (ports.get e.chain) ≤ e.position.val)) := by
  cases hv : e.valid with
  | false => rw [reachOf_invalid hv] at h; cases h
  | true =>
    cases hr : isRing b e.chain with
    | false =>
      rw [reachOf_alone hv hr] at h
      split at h
      · next hin => cases h; exact ⟨rfl, hin, fun _ => ⟨rfl, rfl⟩, nofun⟩
      · cases h
    | true =>
      by_cases hp : e.chain.val % 2 = 0
      · rw [reachOf_ring hv hr hp] at h
        split at h
        · next hin => cases h; exact ⟨rfl, hin, nofun, fun _ _ => .inl ⟨rfl, rfl⟩⟩
        · next hout =>
          split at h
          · next hin =>
            cases h
            refine ⟨rfl, by omega, nofun, fun _ _ => .inr ⟨?_, by omega, by omega⟩⟩
            simp only [returnOf]
            omega
          · cases h
      · rw [reachOf_return hv hr (by simp [isPrimary, hp])] at h
        cases h

end

theorem chooseDepth_spec (pixels c : Nat) :
    let choice := chooseDepth pixels c
    choice.1 ∈ [16, 12, 10, 8] ∧
    (choice.2 = .full → 3 * choice.1 * pixels ≤ c ∧ ∀ d ∈ [16, 12, 10, 8], choice.1 < d → c < 3 * d * pixels) ∧
    (choice.2 = .half → choice.1 = 8 ∧ c < 24 * pixels ∧ 24 * pixels ≤ 2 * c) ∧
    (choice.2 = .overbooked → choice.1 = 8 ∧ 2 * c < 24 * pixels) := by
  intro choice
  simp only [choice, chooseDepth, List.mem_cons, List.not_mem_nil, or_false, forall_eq_or_imp, forall_eq]
  split
  · simp; omega
  · split
    · simp; omega
    · split
      · simp; omega
      · split
        · simp; omega
        · split
          · simp; omega
          · simp; omega

theorem Port.latched_latch (x : Port) (l : Latch) (n : Nat) : (x.latched l n).latch = l := rfl

theorem Port.latched_unfed (x : Port) (l : Latch) (n : Nat) : (x.latched l n).unfed = n := rfl

section
variable {s t : State} {f : Fin 8 → Latch} {g : Fin 8 → Nat} (hport : ∀ q, t.port q = (s.port q).latched (f q) (g q))
  (hbank : t.activeBank = s.activeBank)
include hport hbank

/-- A latch changes no reach. -/
theorem reachOf_latched (e : TileEntry) : reachOf t.activeBank t.ports e = reachOf s.activeBank s.ports e := by
  have hcensus : ∀ q, censusInForce (t.port q) = censusInForce (s.port q) := fun q => by rw [hport]; rfl
  rw [hbank]
  exact reachOf_congr hcensus

theorem latchFor_latched (hframe : t.timing.frame = s.timing.frame) (hlength : t.timing.length = s.timing.length)
    (p : Fin 8) : latchFor t p = latchFor s p ∧ unfedOf t p = unfedOf s p := by
  have hreach := reachOf_latched hport hbank
  rw [hbank] at hreach
  have hreached : reachedBy s.activeBank t.ports p = reachedBy s.activeBank s.ports p := by
    simp only [reachedBy, hreach]
  refine ⟨?_, ?_⟩
  · simp only [latchFor, hreached, hbank, hlength, State.frameNo, hframe, hport, Port.latched]
    rfl
  · simp only [unfedOf, hbank, hreach]

end

/-- What a boundary latches for a port, by the state it leaves (R110, R111). -/
theorem frameBoundary_latch (gp : Tab 4 Bool) (o : CommitOrder) (s : State) (p : Fin 8) :
    ((frameBoundary gp o s).port p).latch = latchFor (frameBoundary gp o s) p ∧
      ((frameBoundary gp o s).port p).unfed = unfedOf (frameBoundary gp o s) p := by
  obtain ⟨hframe, hlength⟩ := boundaryLatching_timing gp o s
  obtain ⟨hlatch, hunfed⟩ := latchFor_latched (s := boundaryLatching gp o s) (t := frameBoundary gp o s)
    (f := latchFor (boundaryLatching gp o s)) (g := unfedOf (boundaryLatching gp o s)) 
    (frameBoundary_port_latched gp o s) (boundaryLatching_bank gp o s).symm hframe.symm hlength.symm p
  rw [hlatch, hunfed, frameBoundary_port_latched gp o s p, Port.latched_latch, Port.latched_unfed]
  exact ⟨rfl, rfl⟩

/-- Whether pixel data goes out in interval `n` at a rate (R110). -/
def carriesAt (r : Rate) (n : FrameNo) : Bool :=
  match r with
  | .full => true
  | .half => decide (n.toNat % 2 = 0)
  | .overbooked => false

theorem carriesAt_iff (c : Nat × Rate) (n : FrameNo) : carriesAt c.2 n = true ↔
    ∃ d, some c = some (d, Rate.full) ∨ (some c = some (d, Rate.half) ∧ n.toNat % 2 = 0) := by
  obtain ⟨d, r⟩ := c
  cases r <;> simp [carriesAt]

theorem latchFor_of_active {s : State} {p : Fin 8} (h : (s.port p).state = .active) (hd : (s.port p).disable = none) :
    latchFor s p = ⟨some (chooseDepth (pixelsOf s.activeBank (reachedBy s.activeBank s.ports p))
        (capacity (((s.port p).width.map Lanes.toNat).getD 0) s.timing.length)),
      carriesAt (chooseDepth (pixelsOf s.activeBank (reachedBy s.activeBank s.ports p))
        (capacity (((s.port p).width.map Lanes.toNat).getD 0) s.timing.length)).2 s.frameNo,
      pixelsOf s.activeBank (reachedBy s.activeBank s.ports p), reachedBy s.activeBank s.ports p, (s.port p).census⟩ := by
  simp only [latchFor, if_pos (And.intro h hd)]
  rfl

theorem latchFor_of_else {s : State} {p : Fin 8} (h : (s.port p).state ≠ .active) : latchFor s p = Latch.empty :=
  if_neg fun ha => h ha.1

/-- Settles O39: reach by ring and census, depth by capacity, and the latch of a boundary by the state it leaves. -/
theorem portsReachEachTileOnce : Obligations.PortsReachEachTileOnce := by
  refine ⟨fun b ports e k hk => ?_, fun b ports e p position h hl => reachOf_some h hl,
    fun b ports p q x y hx hy hxy => ?_, chooseDepth_spec, fun s gp o => ⟨_, rfl, fun p => ?_⟩⟩
  · intro census position
    have hring : isRing b e.chain = b.rings.get k := by rw [isRing, pairOf_eq hk]
    refine ⟨reachOf_invalid, fun hv hr => ?_, fun p q hv hr hp hpv hqv => ?_⟩
    · rw [reachOf_alone hv (hring.trans hr)]
      exact ⟨fun h => if_pos h, fun h => if_neg (Nat.not_lt.mpr h)⟩
    · subst hp
      have heven : e.chain.val % 2 = 0 := by omega
      have hq : returnOf e.chain = q := Fin.ext (by simp only [returnOf]; omega)
      rw [reachOf_ring hv (hring.trans hr) heven, hq]
      exact ⟨fun h => if_pos h, fun h h' => (if_neg (Nat.not_lt.mpr h)).trans (if_pos h'),
        fun h h' => (if_neg (Nat.not_lt.mpr h)).trans (if_neg (Nat.not_le.mpr h'))⟩
  · obtain ⟨hx, hxc⟩ := mem_reachedBy.mp hx
    obtain ⟨hy, hyc⟩ := mem_reachedBy.mp hy
    rw [hxy] at hx hxc
    have hsame := Option.some.inj (hx.symm.trans hy)
    obtain ⟨hpq, hposition⟩ := Prod.mk.inj hsame
    refine ⟨hpq, ?_⟩
    obtain ⟨entry, chain, position⟩ := x
    obtain ⟨entry', chain', position'⟩ := y
    simp only at hxy hxc hyc hposition
    rw [hxy, hxc, hyc, hposition]
  · have hdisable := (frameBoundary_port_shown gp o s p).2.2.2.2.2.1
    obtain ⟨hlatch, hunfed⟩ := frameBoundary_latch gp o s p
    have hover := (frameBoundary_port_shown gp o s p).2.2.2.2.1
    generalize frameBoundary gp o s = t at hdisable hlatch hunfed hover
    have hactive : (t.port p).state = .active → (t.port p).latch = _ := fun ha =>
      hlatch.trans (latchFor_of_active ha hdisable)
    intro b x l
    refine ⟨rfl, fun h => hlatch.trans (latchFor_of_else h), fun w ha hw => ?_, fun ha => ⟨?_, fun r => ?_, ?_, ?_⟩, ?_, ?_⟩
    · have hl : l = _ := hactive ha
      have hwidth : (t.port p).width = some w := hw
      rw [hl]
      simp only [hwidth, Option.map_some, Option.getD_some, capacity]
      exact ⟨trivial, rfl⟩
    · have hl : l = _ := hactive ha
      rw [hl]
      exact reachedBy_ascends p
    · have hl : l = _ := hactive ha
      rw [hl]
      exact mem_reachedBy
    · have hl : l = _ := hactive ha
      rw [hl]
      rfl
    · have hl : l = _ := hactive ha
      rw [hl]
      exact carriesAt_iff _ _
    · refine hunfed.trans ?_
      rw [unfedOf, List.countP_eq_length_filter]
    · refine hover.trans ?_
      simp only [bumpIf, isOverbooked, decide_eq_true_eq]
      rfl

end Sys2Proof.Machine
end

section
/-! PROOFS. The power limiter (section 7). -/

namespace Sys2Proof.Machine

section
variable {s : State} {c : Fin 8}

/-! ### Set Chain Budget (R119 to R122) -/

theorem handCap_eq (p : Fin 8) (watts : Nat) (s : State) :
    handCap p watts s = s.setPorts (s.ports.set p { s.ports.get p with cap := some watts }) := rfl

/-- The ports of the chain take the cap over (R122). -/
theorem handCaps_eq (c : Fin 8) (watts : Nat) (s : State) : handCaps c watts s =
    s.setPorts (s.ports.mapFin fun p y =>
      if (isRing s.activeBank c = false ∧ p = c) ∨
          (isRing s.activeBank c = true ∧ c.val % 2 = 0 ∧ (p.val = c.val ∨ p.val = c.val + 1)) then
        { y with cap := some watts } else y) := by
  cases hr : isRing s.activeBank c with
  | false =>
    rw [handCaps, hr, if_neg Bool.false_ne_true, handCap_eq]
    refine congrArg s.setPorts (Tab.ext_get fun q => ?_)
    rw [Tab.get_set, Tab.get_mapFin]
    by_cases hq : c = q
    · simp [hq]
    · simp [hq, Ne.symm hq]
  | true =>
    by_cases hc : c.val % 2 = 0
    · have hp : isPrimary c = true := by simp [isPrimary, hc]
      rw [handCaps, hr, if_pos rfl, hp, if_pos rfl, primaryOf_of_even hc, handCap_eq, handCap_eq]
      refine congrArg s.setPorts (Tab.ext_get fun q => ?_)
      have hne : c ≠ returnOf c := fun h => by
        have := congrArg Fin.val h
        simp only [returnOf] at this
        omega
      have hret : (returnOf c).val = c.val + 1 := by simp only [returnOf]; omega
      rw [State.setPorts_ports, Tab.get_set, Tab.get_set_ne _ hne, Tab.get_set, Tab.get_mapFin]
      by_cases hq : returnOf c = q
      · simp [← hq, hc, hret]
      · by_cases hq' : c = q
        · simp [← hq', hc, hq, hne.symm]
        · have h1 : ¬ q.val = c.val := fun h => hq' (Fin.ext h.symm)
          have h2 : ¬ q.val = c.val + 1 := fun h => hq (Fin.ext (hret.trans h.symm))
          simp [hq, hq', h1, h2]
    · have hp : isPrimary c = false := by simp [isPrimary, hc]
      rw [handCaps, hr, if_pos rfl, hp, if_neg Bool.false_ne_true]
      exact congrArg s.setPorts (Tab.ext_get fun q => by rw [Tab.get_mapFin, if_neg (by simp [hc])])

theorem offerLimiter_budget (c : Fin 8) (budget step : Nat) (s : State) :
    offerLimiter c (s.chain c).gain none (s.setChain c (budgetRecord budget step (s.chain c))) =
      (s.setChain c (budgetRecord budget step (s.chain c))).setMgmt
        (if budget = 0 ∧ (s.chain c).gain < 4096 then s.mgmt.offer .limiterClear
          (u8 c.val ++ u16 4096 ++ u16 4096 ++ opt (fun d : Nat × FrameNo => u16 d.1 ++ u32 d.2.toNat) (s.chain c).demand ++
            u16 0 ++ u8 0)
        else s.mgmt) := by
  have hzero : budget = 0 → budgetRecord budget step (s.chain c) = { s.chain c with
      budget := 0, step := clampNat 1 4096 step, gain := 4096, target := 4096, unattainable := false } := fun h => by
    simp [budgetRecord, h]
  have hother : budget ≠ 0 → (budgetRecord budget step (s.chain c)).gain = (s.chain c).gain := fun h => by
    simp [budgetRecord, h]
  simp only [offerLimiter, chain_setChain_self]
  by_cases hb : budget = 0
  · rw [hzero hb, if_neg (by simp)]
    simp only [hb, true_and, and_true]
    split <;> rfl
  · rw [hother hb, if_neg (by omega), if_neg (by omega), if_neg (by simp [hb])]
    rfl

theorem exec_setChainBudget {tag : Byte} {budget step : Nat} (hroom : hasRoom s = true) :
    Answers (exec (.setChainBudget tag c.val budget step) s)
      (handCaps c budget (offerLimiter c (s.chain c).gain none (s.setChain c (budgetRecord budget step (s.chain c)))))
      (.answer tag Code.setChainBudget .ok (u8 c.val ++ u16 budget ++ u16 (clampNat 1 4096 step))) := by
  refine answers_exec rfl hroom ?_
  change doSetChainBudget tag c.val budget step s = _
  rw [doSetChainBudget, finOf_val]

/-! ### The target and the gain (R123 to R125) -/

theorem targetOf_within {budget demand : Nat} (h : budget = 0 ∨ demand ≤ budget) : targetOf budget demand = (4096, false) :=
  if_pos h

theorem targetOf_above {budget demand : Nat} (h0 : budget ≠ 0) (h : budget < demand) :
    targetOf budget demand = (max 256 (4096 * budget / demand), decide (4096 * budget / demand < 256)) := by
  rw [targetOf, if_neg (by omega)]
  split
  · next hlow => rw [decide_eq_true hlow, Nat.max_eq_left (by omega)]
  · next hlow => rw [decide_eq_false hlow, Nat.max_eq_right (by omega)]

theorem updateRecord_spec (tiles : List Nat) (interval : FrameNo) (x : ChainLimiter) :
    let demand := tiles.sum
    let y := updateRecord tiles interval x
    (x.budget = 0 ∨ demand ≤ x.budget → y.target = 4096 ∧ y.unattainable = false) ∧
    (x.budget ≠ 0 → x.budget < demand → y.target = max 256 (4096 * x.budget / demand) ∧
      (256 < y.target → demand * y.target ≤ 4096 * x.budget) ∧
      (y.unattainable = true ↔ 4096 * x.budget / demand < 256)) ∧
    (y.target < x.gain → y.gain = y.target) ∧ (x.gain ≤ y.target → y.gain = min y.target (x.gain + x.step)) ∧
    y.demand = some (demand, interval) ∧ y.tiles = some tiles ∧ y.budget = x.budget ∧ y.step = x.step := by
  intro demand y
  have htarget : y.target = (targetOf x.budget demand).1 := rfl
  have hfloor : y.unattainable = (targetOf x.budget demand).2 := rfl
  refine ⟨fun h => ?_, fun h0 h => ?_, fun h => if_pos h, fun h => if_neg (Nat.not_lt.mpr h), rfl, rfl, rfl, rfl⟩
  · rw [htarget, hfloor, targetOf_within h]
    exact ⟨rfl, rfl⟩
  · rw [htarget, hfloor, targetOf_above h0 h]
    refine ⟨rfl, fun hlow => ?_, decide_eq_true_iff⟩
    have hmax : max 256 (4096 * x.budget / demand) = 4096 * x.budget / demand := by simp only at hlow; omega
    rw [hmax]
    exact Nat.mul_div_le _ _

/-! ### The chains that a presentation updates (R126, R127) -/

theorem updateChain_of_not_presented (h : isPresented s c = false) : updateChain c s = s := by
  unfold updateChain
  split
  · rfl
  · rw [h]; rfl

theorem updateChain_of_presented {n : Notice} (hn : s.canvas.notice = some n) (h : isPresented s c = true) :
    updateChain c s = offerLimiter c (s.chain c).gain (some s.frameNo)
      (s.setChain c (updateRecord (tileDemands s c) n.interval (s.chain c))) := by
  simp only [updateChain, hn, if_pos h]

@[simp] theorem chain_offerLimiter (d : Fin 8) (before : Nat) (n : Option FrameNo) (t : State) :
    (offerLimiter c before n t).chain d = t.chain d := by
  unfold offerLimiter
  repeat' split
  all_goals rfl

/-- The record of a chain behind its part of a boundary. -/
def State.updatedChain (s : State) (c : Fin 8) : ChainLimiter :=
  match s.canvas.notice with
  | none => s.chain c
  | some n => if isPresented s c then updateRecord (tileDemands s c) n.interval (s.chain c) else s.chain c

theorem updateChain_chain_self : (updateChain c s).chain c = s.updatedChain c := by
  unfold State.updatedChain
  split
  · next hn => rw [updateChain, hn]
  · next n hn =>
    split
    · next h => rw [updateChain_of_presented hn h, chain_offerLimiter, chain_setChain_self]
    · next h => rw [updateChain_of_not_presented (by simpa using h)]

theorem updateChain_chain_ne {d : Fin 8} (h : c ≠ d) : (updateChain c s).chain d = s.chain d := by
  unfold updateChain
  split
  · rfl
  · split
    · rw [chain_offerLimiter, State.chain, State.setChain, State.setLimiter_limiter, Tab.get_set_ne _ h]; rfl
    · rfl

/-- Another chain's update: this chain stands, with all that its own update reads. -/
def BesideChain (c : Fin 8) (s t : State) : Prop := t.chain c = s.chain c ∧ OnlyChanges [.limiter, .mgmt] s t

theorem tileDemands_beside {t : State} (h : OnlyChanges [.limiter, .mgmt] s t) : tileDemands t c = tileDemands s c := by
  simp only [tileDemands, fedEntries, h.accumulation rfl, h.ports rfl]

theorem isPresented_beside {t : State} (h : OnlyChanges [.limiter, .mgmt] s t) : isPresented t c = isPresented s c := by
  simp only [isPresented, State.activeBank, State.port, h.canvas rfl, h.banks rfl, h.ports rfl]
  rfl

/-- Each chain is updated by its own pass of the loop alone. -/
theorem forEach_updateChain_chain (s : State) (c : Fin 8) : (forEach updateChain s).chain c = s.updatedChain c := by
  obtain ⟨u, ⟨hchain, honly⟩, hlater, -⟩ := forEach_reaches (R := BesideChain c) (f := updateChain)
    (fun _ => ⟨rfl, .refl _ _⟩) (fun h h' => ⟨h'.1.trans h.1, h'.2.iff_of.mpr h.2⟩) c
    (fun d hd _ => ⟨updateChain_chain_ne hd, by simp⟩) s
  rw [hlater, updateChain_chain_self, State.updatedChain, State.updatedChain, honly.canvas rfl, hchain,
    isPresented_beside honly, tileDemands_beside honly]

/-! ### At a boundary -/

/-- The frame that a boundary presents stands in the notice when the markers go out. -/
theorem boundaryMarking_notice (gp : Tab 4 Bool) (o : CommitOrder) (s : State) :
    (boundaryMarking gp o s).canvas.notice = if isOpenRecord s = true then
      s.canvas.record.map fun r => ⟨r.number, r.assigned.getD 0⟩ else none := by
  have hlook := boundaryLook_only (boundaryOpening s) gp o
  have hauto := autoHoldBoundary_picture (boundaryLook gp o (boundaryOpening s))
  have htiming : OnlyChanges [.now, .slot, .timing, .mgmt] s (timingBoundary s) := by simp
  have hopen : isOpenRecord (timingBoundary s) = isOpenRecord s := by rw [isOpenRecord, htiming.canvas rfl]; rfl
  have hnotice : (boundaryMarking gp o s).canvas.notice = (presentFrame (timingBoundary s)).canvas.notice := by
    rw [hlook.canvas rfl, boundaryOpening_picture] at hauto
    exact ((Canvas.picture_eq_iff _ _).mp hauto).2.2.1
  rw [hnotice]
  split
  · next ho =>
    obtain ⟨r, hr, hstate⟩ := (isOpenRecord_iff s).mp ho
    rw [presentFrame_of_open (s := timingBoundary s) (by rw [htiming.canvas rfl]; exact hr) hstate, hr]
    rfl
  · next ho =>
    rw [presentFrame_of_not_open (by rw [hopen]; simpa using ho)]
    rfl

theorem frameBoundary_chain (gp : Tab 4 Bool) (o : CommitOrder) (s : State) (c : Fin 8) :
    (frameBoundary gp o s).chain c = (sendMarkers (boundaryMarking gp o s)).updatedChain c := by
  have hdiscard : OnlyChanges [.accumulation] (forEach updateChain (sendMarkers (boundaryMarking gp o s)))
      (limiterBoundary (sendMarkers (boundaryMarking gp o s))) := by
    simp only [limiterBoundary]
    split <;> simp
  have hrest : OnlyChanges [.ports, .mgmt, .sent, .level] (limiterBoundary (sendMarkers (boundaryMarking gp o s)))
      (latchPorts (boundaryLatching gp o s)) := by simp [boundaryLatching]
  rw [← forEach_updateChain_chain, State.chain, (frameBoundary_latching gp o s).chains rfl, hrest.chains rfl,
    hdiscard.chains rfl]
  rfl

theorem sendMarkers_port (s : State) (p : Fin 8) : (sendMarkers s).port p = (s.port p).marked (markerIsNormal s p) := by
  obtain ⟨u, hu, hlater⟩ := forEach_reaches (R := Aside p) (f := fun q => markPort (markerIsNormal s q) q)
    (fun _ => .refl) Aside.trans p (fun q hq _ => aside_markPort hq _) s
  rw [sendMarkers, hlater.port, markPort_port, hu.port]

theorem Port.marked_latch (x : Port) (normal : Bool) : (x.marked normal).latch = x.latch := by
  unfold Port.marked; split <;> rfl

section
variable (gp : Tab 4 Bool) (o : CommitOrder) (s : State)

/-- The ports behind the markers of a boundary: the latches of the interval that ends, the markers that the boundary leaves. -/
theorem sendMarkers_boundary_port (p : Fin 8) :
    ((sendMarkers (boundaryMarking gp o s)).port p).latch = (s.port p).latch ∧
      ((sendMarkers (boundaryMarking gp o s)).port p).marker = ((frameBoundary gp o s).port p).marker := by
  obtain ⟨-, hmarker, -⟩ := frameBoundary_port_shown gp o s p
  have hport : (boundaryMarking gp o s).port p = s.port p := by
    rw [State.port, (boundaryMarking_only gp o s).ports rfl]; rfl
  rw [hmarker, sendMarkers_port, hport, Port.marked_latch]
  exact ⟨rfl, rfl⟩

theorem sendMarkers_boundary_bank :
    (sendMarkers (boundaryMarking gp o s)).activeBank = (frameBoundary gp o s).activeBank := by
  have hmark : OnlyChanges [.ports, .sent] (boundaryMarking gp o s) (sendMarkers (boundaryMarking gp o s)) := by simp
  refine (activeBank_of_sides ?_).symm
  rw [frameBoundary_sides, hmark.banks rfl]

/-- A chain presents a frame where one of its ports shows a normal marker (R126). -/
theorem isPresented_boundary (c : Fin 8) : isPresented (sendMarkers (boundaryMarking gp o s)) c = true ↔
    isOpenRecord s = true ∧
      ((isRing (frameBoundary gp o s).activeBank c = false ∧ ((frameBoundary gp o s).port c).marker = some false) ∨
        (isRing (frameBoundary gp o s).activeBank c = true ∧ c.val % 2 = 0 ∧
          (((frameBoundary gp o s).port c).marker = some false ∨
            ∃ q : Fin 8, q.val = c.val + 1 ∧ ((frameBoundary gp o s).port q).marker = some false))) := by
  have hmark : OnlyChanges [.ports, .sent] (boundaryMarking gp o s) (sendMarkers (boundaryMarking gp o s)) := by simp
  have hnotice : (boundaryMarking gp o s).canvas.notice.isSome = isOpenRecord s := by
    rw [boundaryMarking_notice]
    cases ho : isOpenRecord s with
    | false => rfl
    | true =>
      obtain ⟨r, hr, -⟩ := (isOpenRecord_iff s).mp ho
      rw [hr]; rfl
  have hmarker := fun p => (sendMarkers_boundary_port gp o s p).2
  simp only [isPresented, hmark.canvas rfl, hnotice, sendMarkers_boundary_bank, hmarker, Bool.and_eq_true]
  refine and_congr_right fun _ => ?_
  cases hr : isRing (frameBoundary gp o s).activeBank c with
  | false => simp
  | true =>
    by_cases hc : c.val % 2 = 0
    · have hret : (returnOf c).val = c.val + 1 := by simp only [returnOf]; omega
      have hq : (∃ q : Fin 8, q.val = c.val + 1 ∧ ((frameBoundary gp o s).port q).marker = some false) ↔
          ((frameBoundary gp o s).port (returnOf c)).marker = some false :=
        ⟨fun ⟨q, hv, hm⟩ => Fin.ext (hv.trans hret.symm) ▸ hm, fun hm => ⟨_, hret, hm⟩⟩
      rw [hq, primaryOf_of_even hc]
      simp [isPrimary, hc]
    · simp [isPrimary, hc]

theorem fedEntries_boundary (c : Fin 8) : (fedEntries (sendMarkers (boundaryMarking gp o s)) c).Pairwise (· < ·) ∧
    ∀ i, i ∈ fedEntries (sendMarkers (boundaryMarking gp o s)) c ↔
      ∃ p, ∃ x ∈ fedTiles (s.port p).latch, x.entry = i ∧ x.chain = c := by
  refine ⟨(List.pairwise_lt_finRange 256).filter _, fun i => ?_⟩
  simp only [fedEntries, List.mem_filter, List.mem_finRange, true_and, List.any_eq_true, Bool.and_eq_true, decide_eq_true_eq,
    Tab.mem_data]
  have hlatch := fun p => (sendMarkers_boundary_port gp o s p).1
  constructor
  · rintro ⟨_, ⟨p, rfl⟩, x, hx, hentry⟩
    exact ⟨p, x, hlatch p ▸ hx, hentry⟩
  · rintro ⟨p, x, hx, hentry⟩
    exact ⟨_, ⟨p, rfl⟩, x, (hlatch p).symm ▸ hx, hentry⟩

theorem sendMarkers_boundary_limiter :
    (sendMarkers (boundaryMarking gp o s)).limiter = s.limiter := by
  have hmark : OnlyChanges [.ports, .sent] (boundaryMarking gp o s) (sendMarkers (boundaryMarking gp o s)) := by simp
  rw [hmark.limiter rfl rfl, (boundaryMarking_only gp o s).limiter rfl rfl]

theorem frameBoundary_chain_of_presented {c : Fin 8} {r : FrameRecord} {a : Tab 256 TileSum}
    (hr : s.canvas.record = some r) (ho : isOpenRecord s = true) (ha : s.limiter.accumulation = some a)
    (h : isPresented (sendMarkers (boundaryMarking gp o s)) c = true) :
    (frameBoundary gp o s).chain c = updateRecord
      ((fedEntries (sendMarkers (boundaryMarking gp o s)) c).map fun i => tileDemand (a.get i)) (r.assigned.getD 0)
      (s.chain c) := by
  have hmark : OnlyChanges [.ports, .sent] (boundaryMarking gp o s) (sendMarkers (boundaryMarking gp o s)) := by simp
  have hnotice : (sendMarkers (boundaryMarking gp o s)).canvas.notice = some ⟨r.number, r.assigned.getD 0⟩ := by
    rw [hmark.canvas rfl, boundaryMarking_notice, if_pos ho, hr]; rfl
  have hdemands : tileDemands (sendMarkers (boundaryMarking gp o s)) c =
      (fedEntries (sendMarkers (boundaryMarking gp o s)) c).map fun i => tileDemand (a.get i) := by
    rw [tileDemands, sendMarkers_boundary_limiter, ha]
  rw [frameBoundary_chain, State.updatedChain, hnotice]
  simp only [h, if_true, hdemands]
  rw [State.chain, sendMarkers_boundary_limiter]
  rfl

theorem frameBoundary_chain_of_not_presented {c : Fin 8}
    (h : ¬ isPresented (sendMarkers (boundaryMarking gp o s)) c = true) : (frameBoundary gp o s).chain c = s.chain c := by
  rw [frameBoundary_chain, State.updatedChain]
  split
  · rw [State.chain, sendMarkers_boundary_limiter]; rfl
  · rw [if_neg h, State.chain, sendMarkers_boundary_limiter]; rfl

end

end

/-- Settles O40: the command, the target and the gain, and the chains that a boundary updates. -/
theorem limiterKeepsTheBudget : Obligations.LimiterKeepsTheBudget := by
  refine ⟨fun s tag budget step hroom => ⟨fun chain hc => ?_, fun c => ?_⟩,
    fun tiles interval x _ => updateRecord_spec tiles interval x, fun s gp o => ⟨_, rfl, fun c => ?_⟩, fun s c n hn hp => ?_⟩
  · refine answers_exec rfl hroom ?_
    change doSetChainBudget tag chain budget step s = _
    rw [doSetChainBudget, finOf_of_le hc]
    rfl
  · intro kept x after demand
    have hkept : clampNat 1 4096 step = kept := clampNat_one (by omega)
    have hafter : budgetRecord budget step (s.chain c) = after := by
      simp only [budgetRecord, hkept]
      by_cases hb : budget = 0
      · subst hb; rfl
      · simp only [after, if_neg hb]; rfl
    have h := exec_setChainBudget (c := c) (tag := tag) (budget := budget) (step := step) hroom
    rw [handCaps_eq, offerLimiter_budget, hafter, hkept] at h
    exact h
  · intro shows presented
    have hiff : isPresented (sendMarkers (boundaryMarking gp o s)) c = true ↔ presented := isPresented_boundary gp o s c
    refine ⟨fun h => frameBoundary_chain_of_not_presented gp o s (fun hp => h (hiff.mp hp)), fun ho => ?_,
      fun r a hr ha h => ⟨fedEntries (sendMarkers (boundaryMarking gp o s)) c, (fedEntries_boundary gp o s c).1,
        (fedEntries_boundary gp o s c).2, frameBoundary_chain_of_presented gp o s hr h.1 ha (hiff.mpr h)⟩⟩
    obtain ⟨r, hr, hstate⟩ := (isOpenRecord_iff s).mp ho
    have htiming : OnlyChanges [.now, .slot, .timing, .mgmt] s (timingBoundary s) := by simp
    refine (frameBoundary_presented gp o s).2.2 ?_
    rw [presentFrame_of_open (s := timingBoundary s) (by rw [htiming.canvas rfl]; exact hr) hstate]
    rfl
  · intro x y body
    rw [updateChain_of_presented hn hp, offerLimiter, chain_setChain_self]
    refine ⟨fun hx hy => if_pos ⟨hx, hy⟩, fun hx hy => ?_, fun h hx hy => ?_⟩
    · exact (if_neg fun h => absurd h.1 (Nat.ne_of_lt hx)).trans (if_pos ⟨hx, hy⟩)
    · refine (if_neg fun h' => ?_).trans (if_neg fun h' => ?_)
      · exact absurd (h.mpr h'.2) (Nat.not_lt.mpr h'.1.ge)
      · exact absurd (h.mp h'.1) (Nat.not_lt.mpr h'.2.ge)

end Sys2Proof.Machine
end

section
/-! PROOFS. What waits for a boundary comes into force there (R35, R54, R73, R75, R86, R106, R112, R113, R132, R159 to R161). -/

namespace Sys2Proof.Machine

section
variable (gp : Tab 4 Bool) (o : CommitOrder) (s : State)

/-! ### The take that is due (R54) -/

/-- The state in which a boundary tests the take that stands. -/
def beforeTake : State :=
  takeIf o.gosFirst (contactGos gp) (takeIf (cuesFirst o) cueBoundary (takeIf o.contactsFirst (contactTakes gp) s))

theorem beforeTake_only : OnlyChanges [.cue, .banks, .mgmt] s (beforeTake gp o s) := by simp [beforeTake]

theorem RequestsKeep.beforeTake {P : Banks → Prop} (hP : RequestsKeep P) {s : State} (hs : P s.banks) :
    P (beforeTake gp o s).banks := by
  refine takeIf_keeps (P := fun u => P u.banks) (fun _ h => hP.contactGos h gp) _ ?_
  refine takeIf_keeps (P := fun u => P u.banks) (fun _ h => hP.cueBoundary h) _ ?_
  exact takeIf_keeps (P := fun u => P u.banks) (fun _ h => hP.contactTakes h gp) _ hs

theorem RequestsKeep.afterTake {P : Banks → Prop} (hP : RequestsKeep P) {s : State}
    (hs : P (takeBoundary (Machine.beforeTake gp o s)).banks) : P (takesAtBoundary gp o s).banks := by
  refine takeIf_keeps (P := fun u => P u.banks) (fun _ h => hP.cueBoundary h) _ ?_
  exact takeIf_keeps (P := fun u => P u.banks) (fun _ h => hP.contactTakes h gp) _ hs

/-- A take that is PENDING stands under the requests that come before its test. -/
theorem requestsKeep_pending (x : Bool × Bank × Bank) (r : TakeRecord) :
    RequestsKeep fun b => b.sides = x ∧ b.take = .pending r where
  accept _ _ _ h ht _ := absurd (ht.symm.trans h.2) nofun
  note _ _ _ h := h

/-- A request makes no take PENDING. -/
theorem requestsKeep_not_pending (x : Bool × Bank × Bank) :
    RequestsKeep fun b => b.sides = x ∧ ∀ r, b.take ≠ .pending r where
  accept _ _ _ h _ _ := ⟨h.1, fun _ => nofun⟩
  note _ _ _ h := h

theorem takesAtBoundary_due {r : TakeRecord} (hr : s.banks.take = .pending r) (hdue : commitDue s.frameNo r.frame = true) :
    (takesAtBoundary gp o s).banks.aActive = !s.banks.aActive := by
  obtain ⟨hsides, htake⟩ := (requestsKeep_pending s.banks.sides r).beforeTake gp o (s := s) ⟨rfl, hr⟩
  have hframe : (beforeTake gp o s).frameNo = s.frameNo := by rw [State.frameNo, (beforeTake_only gp o s).timing rfl]; rfl
  have hcommit : takeBoundary (beforeTake gp o s) = commitTake r (beforeTake gp o s) := by
    simp only [takeBoundary, htake, hframe, if_pos hdue]
  have hafter := (requestsKeep_sides (commitTake r (beforeTake gp o s)).banks.sides).afterTake gp o (s := s) (by rw [hcommit])
  exact (congrArg Prod.fst hafter).trans (congrArg (fun x : Bool × Bank × Bank => !x.1) hsides)

theorem takesAtBoundary_not_due (h : ∀ r, s.banks.take = .pending r → commitDue s.frameNo r.frame = false) :
    (takesAtBoundary gp o s).banks.aActive = s.banks.aActive := by
  have hstands : (takeBoundary (beforeTake gp o s)).banks.sides = s.banks.sides := by
    cases ht : s.banks.take with
    | pending r =>
      obtain ⟨hsides, htake⟩ := (requestsKeep_pending s.banks.sides r).beforeTake gp o (s := s) ⟨rfl, ht⟩
      have hframe : (beforeTake gp o s).frameNo = s.frameNo := by
        rw [State.frameNo, (beforeTake_only gp o s).timing rfl]; rfl
      simp only [takeBoundary, htake, hframe, h r ht, Bool.false_eq_true, if_false]
      exact hsides
    | _ =>
      obtain ⟨hsides, htake⟩ := (requestsKeep_not_pending s.banks.sides).beforeTake gp o (s := s)
        ⟨rfl, fun r hr => absurd (ht.symm.trans hr) nofun⟩
      unfold takeBoundary
      split
      · exact hsides
      · exact hsides
      · next r hr => exact absurd hr (htake r)
  exact congrArg Prod.fst ((requestsKeep_sides s.banks.sides).afterTake gp o hstands)

theorem frameBoundary_aActive : (frameBoundary gp o s).banks.aActive = (takesAtBoundary gp o (boundaryOpening s)).banks.aActive := by
  have hsides := frameBoundary_sides gp o s
  have honly : OnlyChanges [.canvas, .mgmt, .merge] (takesAtBoundary gp o (boundaryOpening s)) (boundaryMarking gp o s) := by
    simp [boundaryMarking, boundaryLook]
  rw [honly.banks rfl] at hsides
  exact congrArg Prod.fst hsides

/-! ### The outputs (R73, R75, R159 to R161) -/

theorem takeUp_drive (i : Fin 16) : (takeUp s).drive.get i = { s.drive.get i with
    shown := if s.canvas.lightHold = true then (s.drive.get i).shown
      else takenUp s.timing.grid.n (decide (i.val % 2 = 1)) (s.drive.get i).staged (s.drive.get (evenOutput i)).staged } := by
  unfold takeUp
  split
  · rfl
  · rw [State.setDrive_drive, Tab.get_mapFin]

theorem evaluateLight_drive (i : Fin 16) : (evaluateLight s).drive.get i =
    { s.drive.get i with staged := stagedFor s (grandMaster s) i } := by
  simp only [evaluateLight, State.setFixture_drive, State.setDrive_drive, Tab.get_mapFin]

theorem boundaryOpening_drive (i : Fin 16) : (boundaryOpening s).drive.get i = (s.drive.get i).applySettings := by
  have hlater : OnlyChanges [.merge, .canvas, .mgmt] (applySettings (presentFrame (timingBoundary s))) (boundaryOpening s) := by
    simp [boundaryOpening]
  have hbefore : OnlyChanges [.now, .slot, .buffer, .timing, .mgmt, .canvas] s (presentFrame (timingBoundary s)) := by simp
  rw [hlater.drive rfl, applySettings, State.setDrive_drive, Tab.get_map, hbefore.drive rfl]

/-- An output behind a boundary: its settings in force, and what it takes up where the light is not held. -/
theorem frameBoundary_drive (i : Fin 16) : ∃ staged, (frameBoundary gp o s).drive.get i =
    { (s.drive.get i).applySettings with
      staged := staged
      shown := if s.canvas.lightOperator = true then (s.drive.get i).shown
        else takenUp (frameBoundary gp o s).timing.grid.n (decide (i.val % 2 = 1)) (s.drive.get i).staged
          (s.drive.get (evenOutput i)).staged } := by
  have hlight := boundaryWall_lightHold gp o s
  have hdrive : ∀ j, (boundaryWall (boundaryLook gp o (boundaryOpening s))).drive.get j = (s.drive.get j).applySettings :=
    fun j => by rw [(boundaryWall_only _).drive rfl, (boundaryLook_only _ gp o).drive rfl, boundaryOpening_drive]
  have hgrid : (frameBoundary gp o s).timing.grid = (boundaryWall (boundaryLook gp o (boundaryOpening s))).timing.grid := by
    simp [frameBoundary]
  rw [hgrid, frameBoundary, (boundaryContacts_only _ gp o).drive rfl]
  generalize boundaryWall (boundaryLook gp o (boundaryOpening s)) = w at hlight hdrive
  have hfifo : OnlyChanges [.fixture, .mgmt] (evaluateLight (forEach refreshBoundary (takeUp w))) (boundaryLight w) := by
    simp [boundaryLight]
  have hrefresh : OnlyChanges [.fixture] (takeUp w) (forEach refreshBoundary (takeUp w)) := by simp
  rw [hfifo.drive rfl, evaluateLight_drive, hrefresh.drive rfl, takeUp_drive, hlight, hdrive, hdrive]
  exact ⟨_, rfl⟩

/-- What an output shows of what is staged (R73, R75, R161). -/
theorem takenUp_pair {n intensity mix : Nat} (i : Fin 16) {own even : Staged} (hown : i.val % 2 = 0 → own = even)
    (h : even = .pair intensity mix) : takenUp n (decide (i.val % 2 = 1)) own even =
      if i.val % 2 = 0 then .warm (dutyOf intensity n) (warmDuty (dutyOf intensity n) mix)
      else .cool (dutyOf intensity n) (warmDuty (dutyOf intensity n) mix) := by
  subst h
  rcases Nat.mod_two_eq_zero_or_one i.val with h | h
  · rw [hown h, h]; rfl
  · rw [h]; rfl

theorem takenUp_value {n v : Nat} {odd : Bool} {even : Staged} (h : ∀ intensity mix, even ≠ .pair intensity mix) :
    takenUp n odd (.value v) even = .duty (dutyOf v n) := by
  cases even with
  | pair intensity mix => exact absurd rfl (h intensity mix)
  | none => cases odd <;> rfl
  | value v => cases odd <;> rfl

theorem takenUp_none {n : Nat} {odd : Bool} {even : Staged} (h : ∀ intensity mix, even ≠ .pair intensity mix) :
    takenUp n odd .none even = .idle := by
  cases even with
  | pair intensity mix => exact absurd rfl (h intensity mix)
  | none => cases odd <;> rfl
  | value v => cases odd <;> rfl

/-! ### Markers (R86, R112, R113) -/

/-- Whether a port showed the frame whole (R86). -/
theorem isWhole_iff (x : Port) :
    isWhole x = true ↔ x.latch.choice ≠ none ∧ x.latch.pixelData = true ∧ x.broken = false := by
  simp [isWhole, Option.isSome_iff_ne_none, and_assoc]

theorem isHalfRate_iff (l : Latch) : isHalfRate l = true ↔ ∃ d, l.choice = some (d, .half) := by
  rw [isHalfRate, decide_eq_true_iff]
  cases l.choice with
  | none => simp
  | some c => obtain ⟨d, r⟩ := c; simp

theorem marksNormal_iff (p : Fin 8) : marksNormal gp o s p = true ↔ isOpenRecord s = true ∧
    ((isRing (frameBoundary gp o s).activeBank p = false ∧ isWhole (s.port p) = true) ∨
      (isRing (frameBoundary gp o s).activeBank p = true ∧
        (isWhole (s.port (primaryOf p)) = true ∨ isWhole (s.port (returnOf p)) = true) ∧
        (s.port (primaryOf p)).broken = false ∧ (s.port (returnOf p)).broken = false)) := by
  have hnotice : (boundaryMarking gp o s).canvas.notice.isSome = isOpenRecord s := by
    rw [boundaryMarking_notice]
    cases ho : isOpenRecord s with
    | false => rfl
    | true =>
      obtain ⟨r, hr, -⟩ := (isOpenRecord_iff s).mp ho
      rw [hr]; rfl
  have hbank : (boundaryMarking gp o s).activeBank = (frameBoundary gp o s).activeBank :=
    (activeBank_of_sides (frameBoundary_sides gp o s)).symm
  have hport : ∀ q, (boundaryMarking gp o s).port q = s.port q := fun q => by
    rw [State.port, (boundaryMarking_only gp o s).ports rfl]; rfl
  simp only [marksNormal, markerIsNormal, hnotice, hbank, hport, Bool.and_eq_true]
  refine and_congr_right fun _ => ?_
  cases hr : isRing (frameBoundary gp o s).activeBank p with
  | false => simp
  | true => simp [and_assoc]

/-- An ACTIVE port's unsent segments and its marker stand together in what goes out. -/
theorem frameBoundary_marker_sent {p : Fin 8} {w : Lanes} (h : (s.port p).state = .active) (hw : (s.port p).width = some w) :
    ∃ before after, (frameBoundary gp o s).sent = before ++
      markMessages p w (frameBoundary gp o s).timing.frame (marksNormal gp o s p) (s.port p) ++ after := by
  obtain ⟨u, v, hu, hv, ⟨d, hd, -⟩, -⟩ := frameBoundary_port_steps gp o s p
  have hstart : u.port p = s.port p := by rw [hu.port, State.port, (boundaryMarking_only gp o s).ports rfl]; rfl
  have hframe : u.frameNo = (frameBoundary gp o s).timing.frame := by
    rw [State.frameNo, hu.only.timing rfl]
    simp [frameBoundary, boundaryMarking]
  have hmark := markPort_sent_of_active p u (marksNormal gp o s p) (w := w) (by rw [hstart]; exact h) (by rw [hstart]; exact hw)
  rw [hstart, hframe] at hmark
  obtain ⟨q, hq⟩ := exists_ne p
  obtain ⟨c, hc, -⟩ := (aside_portBoundary (s := v) hq.symm).sends
  obtain ⟨b, hb, -⟩ := hv.sends
  refine ⟨u.sent, b ++ c ++ d, ?_⟩
  rw [hd, hc, hb, marksNormal] at *
  rw [hmark]
  simp

/-! ### Sources -/

theorem silenceTest_applyRequest (x : Source) : (silenceTest (applyRequest x)).request = none ∧
    (silenceTest (applyRequest x)).unitSeen = false ∧
    (silenceTest (applyRequest x)).priority = x.request.getD x.priority := by
  by_cases h : silenceIsOver (applyRequest x) = true
  · rw [silenceTest_of_missed h]; exact ⟨rfl, rfl, rfl⟩
  · rw [silenceTest_of_not_missed h]; exact ⟨rfl, rfl, rfl⟩

theorem frameBoundary_priority0 : (frameBoundary gp o s).merge.request0 = none ∧
    (frameBoundary gp o s).merge.priority0 = s.merge.request0.getD s.merge.priority0 := by
  have hbefore : OnlyChanges [.now, .slot, .buffer, .timing, .mgmt, .canvas, .drive] s
      (applySettings (presentFrame (timingBoundary s))) := by simp
  have hlight : OnlyChanges [.canvas, .mgmt] (applyPriorities (applySettings (presentFrame (timingBoundary s))))
      (lightHoldBoundary (applyPriorities (applySettings (presentFrame (timingBoundary s))))) := by simp
  rw [(frameBoundary_merge gp o s).1]
  simp only [mergeLook, State.setMerge_merge, (takesAtBoundary_only _ gp o).merge rfl]
  simp only [boundaryOpening, silenceTests, State.setMerge_merge, hlight.merge rfl]
  simp only [applyPriorities, State.setMerge_merge, hbefore.merge rfl, and_self]

end

/-- Settles O19: block by block, what the parts of a boundary leave. -/
theorem boundaryBringsRequestsIntoForce : Obligations.BoundaryBringsRequestsIntoForce := by
  intro s gp o
  have hcanvas := frameBoundary_holds gp o s
  rw [Canvas.holds_eq_iff] at hcanvas
  obtain ⟨-, hcontact, -, -, hassigned, -, hlight⟩ := hcanvas
  have hbanks : (boundaryOpening s).banks = s.banks := (boundaryOpening_only s).banks rfl
  have hframe : (boundaryOpening s).frameNo = (frameBoundary gp o s).timing.frame := by simp [frameBoundary, State.frameNo]
  refine ⟨_, rfl, fun i => ?_, fun k => ?_, (frameBoundary_priority0 gp o s).1, (frameBoundary_priority0 gp o s).2, ?_, hlight, ?_,
    hassigned, fun p => ?_, fun p => ?_, fun r hr hdue => ?_, fun h => ?_, fun p => ?_⟩
  · obtain ⟨staged, hdrive⟩ := frameBoundary_drive gp o s i
    rw [hdrive]
    refine ⟨rfl, rfl, ?_⟩
    intro duty even
    refine ⟨fun hl => if_pos hl, fun hl => ?_⟩
    simp only [hl, Bool.false_eq_true, if_false]
    refine ⟨fun intensity mix h => ?_, fun h => ⟨fun v hv => ?_, fun hn => ?_⟩⟩
    · refine takenUp_pair i (fun h0 => ?_) h
      rw [show evenOutput i = i from Fin.ext (by simp only [evenOutput]; omega)]
    · rw [hv]; exact takenUp_value h
    · rw [hn]; exact takenUp_none h
  · rw [frameBoundary_source]
    obtain ⟨h1, h2, h3⟩ := silenceTest_applyRequest (s.source k)
    exact ⟨h1, h2, h3⟩
  · rw [hcontact, contactHolds_eq]
    exact decide_eq_true_iff
  · obtain ⟨hrecord, -⟩ := (Canvas.picture_eq_iff _ _).mp (frameBoundary_presented gp o s).1
    have hclosed := isOpenRecord_presentFrame (timingBoundary s)
    rw [isOpenRecord] at hclosed ⊢
    rw [hrecord]
    exact hclosed
  · obtain ⟨h1, -, -, -, -, h2, h3, h4⟩ := frameBoundary_port_shown gp o s p
    exact ⟨h2, h1, h3, h4⟩
  · obtain ⟨slots, h⟩ := frameBoundary_fixturePort gp o s p
    rw [h]
  · rw [frameBoundary_aActive, takesAtBoundary_due gp o (boundaryOpening s) (r := r) (by rw [hbanks]; exact hr)
      (decide_eq_true (by rw [hframe]; exact hdue)), hbanks]
  · rw [frameBoundary_aActive, takesAtBoundary_not_due gp o (boundaryOpening s) fun r hr =>
      decide_eq_false (by rw [hframe]; exact Int.not_le.mpr (h r (by rw [← hbanks]; exact hr))), hbanks]
  · intro whole normal k k'
    have hnormal : marksNormal gp o s p = true ↔ normal := by
      rw [marksNormal_iff]
      simp only [isWhole_iff]
      exact Iff.rfl
    obtain ⟨-, hmarker, hnormals, hrepeats, -⟩ := frameBoundary_port_shown gp o s p
    refine ⟨fun h => ?_, fun h hn => ?_, fun h hn => ?_, fun w h hw => ?_⟩
    · rw [Port.marked_of_not_active h] at hmarker hnormals hrepeats
      exact ⟨hmarker, hnormals, hrepeats⟩
    · rw [Port.marked_of_active h, hnormal.mpr hn] at hmarker hnormals hrepeats
      exact ⟨hmarker, hnormals, hrepeats⟩
    · have hoff : marksNormal gp o s p = false := by simpa using mt hnormal.mp hn
      rw [Port.marked_of_active h, hoff] at hmarker hnormals hrepeats
      exact ⟨hmarker, hnormals, hrepeats⟩
    · obtain ⟨before, after, hsent⟩ := frameBoundary_marker_sent gp o s h hw
      refine ⟨before, after, !marksNormal gp o s p, isHalfRate (s.port p).latch, ?_, ?_, ?_⟩
      · rw [← hnormal]; simp
      · exact isHalfRate_iff _
      · rw [hsent, markMessages, ← List.append_assoc]

end Sys2Proof.Machine
end

section
/-! PROOFS. Validation, commit and requests of takes (R48, R54 to R58). -/

namespace Sys2Proof.Machine

section
variable {s : State}

/-! ### Validation and commit -/

theorem endValidation_of_pass {r : TakeRecord} (ht : s.banks.take = .validating r) (h : validate s.stagedBank = none) :
    endValidation s = s.setBanks { s.banks with take := .pending r } := by
  simp only [endValidation, ht, h]

theorem endValidation_of_failure {r : TakeRecord} {f : Failure} (ht : s.banks.take = .validating r)
    (h : validate s.stagedBank = some f) : endValidation s = failTake r (.validation f) (s.setBanks { s.banks with
      take := .idle
      counters := { s.banks.counters with validationsFailed := bump s.banks.counters.validationsFailed } }) := by
  simp only [endValidation, ht, h]

theorem takeBoundary_of_due {r : TakeRecord} (ht : s.banks.take = .pending r) (h : 0 ≤ (s.timing.frame - (r.frame - 1)).toInt) :
    takeBoundary s = commitTake r s := by
  have hdue : commitDue s.frameNo r.frame = true := decide_eq_true h
  simp only [takeBoundary, ht, if_pos hdue]

theorem takeBoundary_of_early {r : TakeRecord} (ht : s.banks.take = .pending r)
    (h : (s.timing.frame - (r.frame - 1)).toInt < 0) : takeBoundary s = s := by
  have hdue : ¬ commitDue s.frameNo r.frame = true := by
    intro hd
    exact absurd (of_decide_eq_true hd) (Int.not_le.mpr h)
  simp only [takeBoundary, ht, if_neg hdue]

theorem commitTake_eq (r : TakeRecord) (s : State) : commitTake r s =
    offer .takeDone
      (originBytes r.origin ++ u32 r.frame.toNat ++ u32 (s.timing.frame + 1).toNat ++
        flag (decide (0 < (s.timing.frame + 1 - r.frame).toInt)) ++ u8 (if s.banks.aActive then 1 else 0))
      (s.setBanks { s.banks with
        aActive := !s.banks.aActive, take := .idle
        last := .committed (s.timing.frame + 1) (decide (0 < (s.timing.frame + 1 - r.frame).toInt))
        lateTake := s.banks.lateTake || decide (0 < (s.timing.frame + 1 - r.frame).toInt)
        counters := { s.banks.counters with
          takesCommitted := bump s.banks.counters.takesCommitted
          lateTakes := bumpIf (decide (0 < (s.timing.frame + 1 - r.frame).toInt)) s.banks.counters.lateTakes } }) := by
  have hflip : ∀ a : Bool, (if (!a) = true then 0 else 1) = if a = true then 1 else 0 := by decide
  rw [← hflip]
  rfl

/-! ### Requests (R48, R58) -/

theorem requestTake_accepted (f : FrameNo) (origin : TakeOrigin) (ht : s.banks.take = .idle) (hc : s.banks.clone = none) :
    requestTake f origin s = acceptTake f origin s := by
  rw [requestTake, if_neg (not_not.mpr ht), hc]
  rfl

theorem requestTake_pending (f : FrameNo) (origin : TakeOrigin) (ht : s.banks.take ≠ .idle) :
    requestTake f origin s = rejectRequest ⟨f, origin⟩ .alreadyPending s := if_pos ht

theorem requestTake_cloning (f : FrameNo) (origin : TakeOrigin) (ht : s.banks.take = .idle) (hc : s.banks.clone ≠ none) :
    requestTake f origin s = rejectRequest ⟨f, origin⟩ .bankBusy s := by
  rw [requestTake, if_neg (not_not.mpr ht), if_pos (Option.isSome_iff_ne_none.mpr hc)]

/-! ### Contact takes (R35) -/

/-- The inputs that ask for a take at a boundary. -/
def askers (s : State) (gp : Tab 4 Bool) : List (Fin 4) :=
  (List.finRange 4).filter fun i => decide (s.timing.functions.get i = .take) && gp.get i && !s.timing.samples.get i

theorem contactTakes_eq (s : State) (gp : Tab 4 Bool) :
    contactTakes gp s = (askers s gp).foldl (fun u i => requestTake (s.frameNo + 2) (.contact i) u) s := by
  have hfold : ∀ (l : List (Fin 4)) (u : State), u.timing = s.timing → l.foldl (fun u i => contactTake gp i u) u =
      (l.filter fun i => decide (s.timing.functions.get i = .take) && gp.get i && !s.timing.samples.get i).foldl
        (fun u i => requestTake (s.frameNo + 2) (.contact i) u) u := by
    intro l
    induction l with
    | nil => exact fun _ _ => rfl
    | cons i l ih =>
      intro u hu
      have htiming : (contactTake gp i u).timing = s.timing :=
        (OnlyChanges.timing (l := [.banks, .mgmt]) (by simp) rfl).trans hu
      rw [List.foldl_cons, ih _ htiming, List.filter_cons]
      have hstep : contactTake gp i u = if (decide (s.timing.functions.get i = .take) && gp.get i && !s.timing.samples.get i) = true
          then requestTake (s.frameNo + 2) (.contact i) u else u := by
        simp only [contactTake, rises, State.frameNo, hu, Bool.and_eq_true, decide_eq_true_eq, and_assoc]
      rw [hstep]
      split <;> rfl
  exact hfold _ s rfl

/-- The Report Queue's block where a request is not accepted (R58). -/
def Mgmt.takeRefused (f : FrameNo) (reason : Nat) (m : Mgmt) (i : Fin 4) : Mgmt :=
  m.offer .takeFailed (originBytes (.contact i) ++ u32 f.toNat ++ u8 reason)

/-- While a take stands every request fails and leaves it. -/
theorem foldl_requestTake_pending (f : FrameNo) (l : List (Fin 4)) (ht : s.banks.take ≠ .idle) :
    (l.foldl (fun u i => requestTake f (.contact i) u) s).banks.take = s.banks.take ∧
      (l.foldl (fun u i => requestTake f (.contact i) u) s).mgmt = l.foldl (Mgmt.takeRefused f 1) s.mgmt := by
  induction l generalizing s with
  | nil => exact ⟨rfl, rfl⟩
  | cons i l ih =>
    rw [List.foldl_cons, requestTake_pending f _ ht]
    exact ih (s := rejectRequest ⟨f, .contact i⟩ .alreadyPending s) ht

/-- During a Clone every request fails and no take begins. -/
theorem foldl_requestTake_cloning (f : FrameNo) (l : List (Fin 4)) (ht : s.banks.take = .idle) (hc : s.banks.clone ≠ none) :
    (l.foldl (fun u i => requestTake f (.contact i) u) s).banks.take = .idle ∧
      (l.foldl (fun u i => requestTake f (.contact i) u) s).mgmt = l.foldl (Mgmt.takeRefused f 2) s.mgmt := by
  induction l generalizing s with
  | nil => exact ⟨ht, rfl⟩
  | cons i l ih =>
    rw [List.foldl_cons, requestTake_cloning f _ ht hc]
    exact ih (s := rejectRequest ⟨f, .contact i⟩ .bankBusy s) ht hc

theorem contactTakes_of_askers {gp : Tab 4 Bool} {i : Fin 4} {rest : List (Fin 4)} (ht : s.banks.take = .idle)
    (hc : s.banks.clone = none) (h : askers s gp = i :: rest) :
    (contactTakes gp s).banks.take = .validating ⟨s.timing.frame + 2, .contact i⟩ ∧
      (contactTakes gp s).mgmt = rest.foldl (Mgmt.takeRefused (s.timing.frame + 2) 1) s.mgmt := by
  rw [contactTakes_eq, h, List.foldl_cons, requestTake_accepted _ _ ht hc]
  exact foldl_requestTake_pending (s := acceptTake (s.frameNo + 2) (.contact i) s) _ rest nofun

/-- With an idle Cue Engine and no contact Go, the contacts alone ask for takes at a boundary that finds none. -/
theorem takesAtBoundary_of_idle (gp : Tab 4 Bool) (o : CommitOrder) (ht : s.banks.take = .idle) (hs : s.cue.state = .idle)
    (hgo : ∀ j, s.timing.functions.get j ≠ .go) : takesAtBoundary gp o s = contactTakes gp s := by
  have hgos : ∀ (b : Bool) (u : State), u.timing = s.timing → takeIf b (contactGos gp) u = u := fun b u hu => by
    unfold takeIf
    split
    · exact contactGos_of_none gp (by rw [hu]; exact hgo)
    · rfl
  have hcues : ∀ (b : Bool) (u : State), u.cue = s.cue → takeIf b cueBoundary u = u := fun b u hu => by
    unfold takeIf
    split
    · exact cueBoundary_of_idle (by rw [hu]; exact hs)
    · rfl
  have hcontacts : OnlyChanges [.banks, .mgmt] s (contactTakes gp s) := by simp
  have hcommit : takeBoundary s = s := by simp only [takeBoundary, ht]
  have hnone : takeBoundary (contactTakes gp s) = contactTakes gp s := by
    obtain ⟨-, htake⟩ := (requestsKeep_not_pending s.banks.sides).contactTakes (s := s)
      ⟨rfl, fun r hr => absurd (ht.symm.trans hr) nofun⟩ gp
    unfold takeBoundary
    split
    · rfl
    · rfl
    · next r hr => exact absurd hr (htake r)
  cases hfirst : o.contactsFirst with
  | true =>
    simp only [takesAtBoundary, hfirst, takeIf_true, Bool.not_true, takeIf_false]
    rw [hcues _ _ (hcontacts.cue rfl), hgos _ _ (hcontacts.timing rfl), hnone, hcues _ _ (hcontacts.cue rfl)]
  | false =>
    simp only [takesAtBoundary, hfirst, takeIf_false, Bool.not_false, takeIf_true]
    rw [hcues _ _ rfl, hgos _ _ rfl, hcommit, hcues _ _ (hcontacts.cue rfl)]

/-- Behind the takes of a boundary, the banks change by the Gos of the contacts alone. -/
theorem frameBoundary_banks_of_no_go (gp : Tab 4 Bool) (o : CommitOrder) (hgo : ∀ j, s.timing.functions.get j ≠ .go) :
    (frameBoundary gp o s).banks = (takesAtBoundary gp o (boundaryOpening s)).banks := by
  set u := contactHold gp (boundaryLight (boundaryWall (boundaryLook gp o (boundaryOpening s)))) with hu
  have hgos : takeIf (!o.gosFirst) (contactGos gp) u = u := by
    unfold takeIf
    split
    · refine contactGos_of_none gp fun j => ?_
      have hfunctions : u.timing.functions = s.timing.functions := by
        simp only [hu, contactHold_timing, boundaryLight_timing, boundaryWall_timing, boundaryLook_timing]
        exact (boundaryOpening_contacts s).2
      rw [hfunctions]; exact hgo j
    · rfl
  calc (frameBoundary gp o s).banks
      = (keepSamples gp u).banks := congrArg (fun v => (keepSamples gp v).banks) hgos
    _ = (boundaryLight (boundaryWall (boundaryLook gp o (boundaryOpening s)))).banks :=
        OnlyChanges.banks (l := [.timing, .canvas, .buffer, .accumulation, .mgmt]) (by simp [hu]) rfl
    _ = (boundaryLook gp o (boundaryOpening s)).banks :=
        ((boundaryLight_only _).banks rfl).trans ((boundaryWall_only _).banks rfl)
    _ = (takesAtBoundary gp o (boundaryOpening s)).banks := OnlyChanges.banks (l := [.merge]) (by simp [boundaryLook]) rfl

theorem frameBoundary_take_of_askers {gp : Tab 4 Bool} {i : Fin 4} {rest : List (Fin 4)} (o : CommitOrder)
    (ht : s.banks.take = .idle) (hc : s.banks.clone = none) (h : askers s gp = i :: rest) (hs : s.cue.state = .idle)
    (hgo : ∀ j, s.timing.functions.get j ≠ .go) :
    (frameBoundary gp o s).banks.take = .validating ⟨(frameBoundary gp o s).timing.frame + 2, .contact i⟩ := by
  have hbanks : (boundaryOpening s).banks = s.banks := (boundaryOpening_only s).banks rfl
  obtain ⟨hsamples, hfunctions⟩ := boundaryOpening_contacts s
  have hasks : askers (boundaryOpening s) gp = i :: rest := by rw [askers, hsamples, hfunctions]; exact h
  have hframe : (frameBoundary gp o s).timing.frame = (boundaryOpening s).timing.frame := by
    rw [frameBoundary_timing, boundaryOpening_timing]
  rw [frameBoundary_banks_of_no_go gp o hgo, takesAtBoundary_of_idle gp o (by rw [hbanks]; exact ht)
    (by rw [boundaryOpening_cue]; exact hs) (by rw [hfunctions]; exact hgo), hframe]
  exact (contactTakes_of_askers (by rw [hbanks]; exact ht) (by rw [hbanks]; exact hc) hasks).1

end

/-- Settles O26: validation, commit, one request, and the requests of the contacts alone and at a boundary. -/
theorem takesValidateAndCommit : Obligations.TakesValidateAndCommit := by
  intro s
  refine ⟨fun r ht h => exec_of_run rfl (endValidation_of_pass ht h), fun r f ht h =>
    exec_of_run rfl (endValidation_of_failure ht h), fun r hr => ?_, fun f origin => ⟨fun ht hc => ?_, fun ht => ?_, fun ht hc => ?_⟩,
    fun gp => ?_⟩
  · intro m late
    exact ⟨fun h => (takeBoundary_of_due hr h).trans (commitTake_eq r s), fun h => takeBoundary_of_early hr h⟩
  · rw [requestTake_accepted f origin ht hc]; exact ⟨rfl, rfl⟩
  · rw [requestTake_pending f origin ht]; exact ⟨rfl, rfl⟩
  · rw [requestTake_cloning f origin ht hc]; exact ⟨ht, rfl⟩
  · intro asking failing t
    have htakes : t = _ := contactTakes_eq s gp
    refine ⟨fun h => ?_, fun ht => ?_, fun ht hc => ?_, fun i rest ht hc h => ?_⟩
    · rw [htakes, show askers s gp = [] from h]; rfl
    · rw [htakes]; exact foldl_requestTake_pending _ _ ht
    · rw [htakes]; exact foldl_requestTake_cloning _ _ ht hc
    · obtain ⟨htake, hmgmt⟩ := contactTakes_of_askers ht hc h
      exact ⟨htake, hmgmt, fun hs hgo o => ⟨_, rfl, frameBoundary_take_of_askers o ht hc h hs hgo⟩⟩

end Sys2Proof.Machine
end

section
/-! PROOFS. The Level Path: its stages and their bounds (R65 to R75), and the evaluation of the look at a boundary (R68). -/

namespace Sys2Proof.Machine

/-! ### Gains -/

theorem scaleGain_le {v gain : Nat} (h : gain ≤ 4096) : scaleGain v gain ≤ v := by
  have hmul : v * gain ≤ v * 4096 := Nat.mul_le_mul_left v h
  simp only [scaleGain]
  omega

theorem scaleGain_unity (v : Nat) : scaleGain v 4096 = v := by simp only [scaleGain]; omega

/-! ### The wall side -/

theorem wallCurveValue_le (b : Bank) (code : BitVec 10) : wallCurveValue b code ≤ 65535 :=
  Nat.le_of_lt_succ (b.wallCurve.get ⟨code.toNat, code.isLt⟩).isLt

theorem reduceDepth_of_ne {depth : Nat} (h : depth ≠ 16) (w : Nat) :
    reduceDepth depth w = min ((w + 2 ^ (15 - depth)) / 2 ^ (16 - depth)) (2 ^ depth - 1) := if_neg h

theorem reduceDepth_mono {depth w w' : Nat} (h : w' ≤ w) : reduceDepth depth w' ≤ reduceDepth depth w := by
  by_cases hd : depth = 16
  · subst hd; exact h
  · rw [reduceDepth_of_ne hd, reduceDepth_of_ne hd]
    exact min_le_min_right _ (Nat.div_le_div_right (Nat.add_le_add_right h _))

theorem reduceDepth_lt {depth w : Nat} (hw : w ≤ 65535) : reduceDepth depth w < 2 ^ depth := by
  by_cases hd : depth = 16
  · subst hd; exact Nat.lt_of_le_of_lt hw (by decide)
  · rw [reduceDepth_of_ne hd]
    have hpos : 0 < 2 ^ depth := Nat.two_pow_pos depth
    omega

theorem reduceDepth_full : ∀ depth ∈ [8, 10, 12, 16], reduceDepth depth 65535 = 2 ^ depth - 1 := by decide

/-! ### The light curves -/

theorem curvePoint_of_entry (b : Bank) (i : Fin 1024) : curvePoint b i.val = (b.lightCurve.get i).toNat := dif_pos i.isLt

theorem curvePoint_of_end (b : Bank) {n : Nat} (h : 1024 ≤ n) : curvePoint b n = 65535 := dif_neg (Nat.not_lt.mpr h)

theorem curvePoint_le (b : Bank) (n : Nat) : curvePoint b n ≤ 65535 := by
  unfold curvePoint
  split
  · exact Nat.le_of_lt_succ (BitVec.isLt _)
  · exact le_rfl

/-- A point between two entries lies on the line between them (R69). -/
theorem tableCurve_between (b : Bank) {i : Fin 1024} {m f next : Nat} (hf : f < 64) (hm : m = 64 * i.val + f)
    (hend : i.val = 1023 → next = 65535) (hnext : ∀ j : Fin 1024, j.val = i.val + 1 → next = (b.lightCurve.get j).toNat) :
    tableCurve b m = (b.lightCurve.get i).toNat + ((next - (b.lightCurve.get i).toNat) * f + 32) / 64 := by
  have hpoint : curvePoint b (i.val + 1) = next := by
    by_cases hlast : i.val = 1023
    · rw [curvePoint_of_end b (by omega), hend hlast]
    · have hlt : i.val + 1 < 1024 := by omega
      rw [hnext ⟨i.val + 1, hlt⟩ rfl]
      exact curvePoint_of_entry b ⟨i.val + 1, hlt⟩
  have hdiv : m / 64 = i.val := by omega
  have hmod : m % 64 = f := by omega
  rw [tableCurve, hdiv, hmod, hpoint, curvePoint_of_entry]

theorem tableCurve_le {b : Bank} (hmono : ∀ i j : Fin 1024, i ≤ j → (b.lightCurve.get i).toNat ≤ (b.lightCurve.get j).toNat)
    (m : Nat) : tableCurve b m ≤ 65535 := by
  have hrise : curvePoint b (m / 64) ≤ curvePoint b (m / 64 + 1) := by
    by_cases hlast : m / 64 + 1 < 1024
    · rw [show m / 64 = (⟨m / 64, by omega⟩ : Fin 1024).val from rfl, curvePoint_of_entry,
        show (⟨m / 64, by omega⟩ : Fin 1024).val + 1 = (⟨m / 64 + 1, hlast⟩ : Fin 1024).val from rfl, curvePoint_of_entry]
      exact hmono _ _ (by simp)
    · rw [curvePoint_of_end b (n := m / 64 + 1) (by omega)]
      exact curvePoint_le b _
  have htop := curvePoint_le b (m / 64 + 1)
  have hstep : (curvePoint b (m / 64 + 1) - curvePoint b (m / 64)) * (m % 64) ≤
      (curvePoint b (m / 64 + 1) - curvePoint b (m / 64)) * 63 := Nat.mul_le_mul_left _ (by omega)
  rw [tableCurve]
  omega

theorem squareCurve_le {m : Nat} (hm : m ≤ 65535) : squareCurve m ≤ 65535 := by
  have hmul : m * m ≤ 65535 * 65535 := Nat.mul_le_mul hm hm
  simp only [squareCurve]
  omega

theorem curveValue_le {b : Bank} {e : PatchEntry} (hmono : ∀ i j : Fin 1024, i ≤ j →
    (b.lightCurve.get i).toNat ≤ (b.lightCurve.get j).toNat) {m : Nat} (hm : m ≤ 65535) : curveValue b e m ≤ 65535 := by
  unfold curveValue
  split
  · exact hm
  · split
    · exact squareCurve_le hm
    · exact tableCurve_le hmono m

theorem lightValue_unity (b : Bank) {e : PatchEntry} (m : Nat) (h : e.trim = 4096) : lightValue b 4096 e m = curveValue b e m := by
  rw [lightValue, h]
  exact (scaleGain_unity _).trans (scaleGain_unity _)

theorem lightValue_le (b : Bank) {gm : Nat} {e : PatchEntry} (m : Nat) (hgm : gm ≤ 4096) (ht : e.trim.toNat ≤ 4096) :
    lightValue b gm e m ≤ curveValue b e m := (scaleGain_le hgm).trans (scaleGain_le ht)

/-! ### Duties and slots -/

theorem dutyOf_le {v : Nat} (n : Nat) (hv : v ≤ 65535) : dutyOf v n ≤ n := by
  have hmul : v * n ≤ 65535 * n := Nat.mul_le_mul_right n hv
  simp only [dutyOf]
  omega

theorem dutyOf_full (n : Nat) : dutyOf 65535 n = n := by simp only [dutyOf]; omega

theorem dutyOf_zero (n : Nat) : dutyOf 0 n = 0 := by simp only [dutyOf]; omega

theorem warmDuty_warm (d : Nat) : warmDuty d 0 = d := by simp only [warmDuty]; omega

theorem warmDuty_cool (d : Nat) : warmDuty d 65535 = 0 := by simp only [warmDuty]; omega

theorem slot8Value_le {v : Nat} (hv : v ≤ 65535) : slot8Value v ≤ 255 := by simp only [slot8Value]; omega

/-! ### The one entry of a target (R53) -/

theorem eq_of_sameTarget {b : Bank} {i j : Fin 512} (hv : validate b = none)
    (h : SameTarget (b.patch.get i) (b.patch.get j) = true) : i = j := by
  obtain ⟨-, hother⟩ := checkPatch_eq_none_iff.1 (checkPatch_of_validate hv)
  by_contra hne
  exact absurd ((hother i j (Ne.symm hne)).symm.trans h) nofun

theorem find?_finRange_of_unique {n : Nat} {p : Fin n → Bool} {i : Fin n} (hi : p i = true) (honly : ∀ j, p j = true → j = i) :
    (List.finRange n).find? p = some i := by
  cases h : (List.finRange n).find? p with
  | none => exact absurd hi (List.find?_eq_none.1 h i (List.mem_finRange i))
  | some j => rw [honly j (List.find?_some h)]

theorem findSome?_finRange_of_unique {α : Type} {n : Nat} {f : Fin n → Option α} {i : Fin n} {v : α} (hi : f i = some v)
    (honly : ∀ j, f j ≠ none → j = i) : (List.finRange n).findSome? f = some v := by
  cases h : (List.finRange n).findSome? f with
  | none => exact absurd (hi.symm.trans (List.findSome?_eq_none_iff.1 h i (List.mem_finRange i))) nofun
  | some w =>
    obtain ⟨j, -, hj⟩ := List.exists_of_findSome?_eq_some h
    obtain rfl := honly j (by rw [hj]; nofun)
    rw [← hj, hi]

section
variable {b : Bank}

/-- The channel drives the output (R68). -/
def DrivesOutput (b : Bank) (o : Fin 16) (ch : Fin 512) : Prop := (b.patch.get ch).kind = 1 ∧ (b.patch.get ch).pwm = o

theorem pwmChannel_of_drives {o : Fin 16} {ch : Fin 512} (hv : validate b = none) (h : DrivesOutput b o ch) :
    pwmChannel b o = some ch := by
  obtain ⟨hkind, hpwm⟩ := h
  refine find?_finRange_of_unique (by simp [hkind, hpwm]) fun j hj => eq_of_sameTarget hv ?_
  obtain ⟨hjkind, hjpwm⟩ : (b.patch.get j).kind = 1 ∧ (b.patch.get j).pwm = o := by simpa using hj
  simp [SameTarget, hkind, hpwm, hjkind, hjpwm]

theorem pwmChannel_of_no_channel {o : Fin 16} (h : ∀ ch, ¬DrivesOutput b o ch) : pwmChannel b o = none :=
  List.find?_eq_none.2 fun ch _ => by simpa using fun hk hp => h ch ⟨hk, hp⟩

theorem grandMasterChannel_of_kind {ch : Fin 512} (hv : validate b = none) (h : (b.patch.get ch).kind = 5) :
    grandMasterChannel b = some ch :=
  find?_finRange_of_unique (by simp [h]) fun j hj => eq_of_sameTarget hv (by simp [SameTarget, h, of_decide_eq_true hj])

theorem grandMasterChannel_of_no_channel (h : ∀ ch, (b.patch.get ch).kind ≠ 5) : grandMasterChannel b = none :=
  List.find?_eq_none.2 fun ch _ => by simpa using h ch

end

/-! ### The evaluation of the look (R68) -/

section
variable {s t : State}

/-- The light side of a state is the evaluation of its own look under its active bank. -/
structure LightEvaluated (s : State) : Prop where
  master : s.level.grandMaster = grandMaster s
  outputs : ∀ o, (s.drive.get o).staged = stagedFor s (grandMaster s) o
  slots : ∀ p, (s.fixturePort p).slots = slotsFor s (grandMaster s) p

theorem masterGain_congr (h : t.merge.look = s.merge.look) (c : Option (Fin 512)) : masterGain t c = masterGain s c := by
  cases c with
  | none => rfl
  | some ch => simp only [masterGain, lookLevel, h]

theorem grandMaster_congr (hbank : t.activeBank = s.activeBank) (hlook : t.merge.look = s.merge.look) :
    grandMaster t = grandMaster s := by rw [grandMaster, grandMaster, hbank, masterGain_congr hlook]

theorem channelValue_congr (hbank : t.activeBank = s.activeBank) (hlook : t.merge.look = s.merge.look) (gm : Nat) :
    channelValue t gm = channelValue s gm := funext fun ch => by simp only [channelValue, lookLevel, hbank, hlook]

theorem lookLevel_congr (hlook : t.merge.look = s.merge.look) : lookLevel t = lookLevel s :=
  funext fun ch => by simp only [lookLevel, hlook]

theorem stagedFor_congr (hbank : t.activeBank = s.activeBank) (hlook : t.merge.look = s.merge.look)
    (hpair : ∀ o, (t.drive.get o).inForce = (s.drive.get o).inForce) (gm : Nat) (o : Fin 16) :
    stagedFor t gm o = stagedFor s gm o := by
  simp only [stagedFor, pairMode, hbank, hpair, channelValue_congr hbank hlook, lookLevel_congr hlook]
  rfl

theorem slotsFor_congr (hbank : t.activeBank = s.activeBank) (hlook : t.merge.look = s.merge.look) (gm : Nat) (p : Fin 2) :
    slotsFor t gm p = slotsFor s gm p := by
  have hfrom : slotFrom t gm p = slotFrom s gm p := funext fun slot => funext fun ch => by
    simp only [slotFrom, hbank, channelValue_congr hbank hlook]
  simp only [slotsFor, hbank, hfrom]

/-- The light side stays evaluated while bank, look, outputs and slots stand. -/
theorem LightEvaluated.of_kept (h : LightEvaluated s) (hbank : t.activeBank = s.activeBank) (hlook : t.merge.look = s.merge.look)
    (hlevel : t.level = s.level) (hdrive : t.drive = s.drive) (hslots : ∀ p, (t.fixturePort p).slots = (s.fixturePort p).slots) :
    LightEvaluated t where
  master := by rw [hlevel, grandMaster_congr hbank hlook, h.master]
  outputs o := by
    rw [hdrive, h.outputs, grandMaster_congr hbank hlook, stagedFor_congr hbank hlook fun i => by rw [hdrive]]
  slots p := by rw [hslots, h.slots, grandMaster_congr hbank hlook, slotsFor_congr hbank hlook]

theorem lightEvaluated_evaluateLight (s : State) : LightEvaluated (evaluateLight s) := by
  have honly : OnlyChanges [.level, .drive, .fixture] s (evaluateLight s) := by simp
  have hbank : (evaluateLight s).activeBank = s.activeBank := activeBank_of_banks (honly.banks rfl)
  have hlook : (evaluateLight s).merge.look = s.merge.look := congrArg Merge.look (honly.merge rfl)
  have hmaster : (evaluateLight s).level.grandMaster = grandMaster s := by simp [evaluateLight]
  exact {
    master := by rw [hmaster, grandMaster_congr hbank hlook]
    outputs := fun o => by
      rw [evaluateLight_drive, grandMaster_congr hbank hlook, stagedFor_congr hbank hlook]
      intro i
      rw [evaluateLight_drive]
    slots := fun p => by
      rw [grandMaster_congr hbank hlook, slotsFor_congr hbank hlook]
      simp [evaluateLight, State.fixturePort] }

theorem lightEvaluated_boundaryLight (s : State) : LightEvaluated (boundaryLight s) := by
  have h := lightEvaluated_evaluateLight (forEach refreshBoundary (takeUp s))
  rw [boundaryLight]
  generalize evaluateLight (forEach refreshBoundary (takeUp s)) = u at h
  have honly : OnlyChanges [.fixture, .mgmt] u (forEach drainFifo u) := by simp
  exact h.of_kept (activeBank_of_banks (honly.banks rfl)) (by rw [honly.merge rfl]) (honly.level rfl) (honly.drive rfl)
    fun p => by rw [forEach_drainFifo_port]

theorem lightEvaluated_frameBoundary (gp : Tab 4 Bool) (o : CommitOrder) (s : State) : LightEvaluated (frameBoundary gp o s) := by
  rw [frameBoundary]
  have h := lightEvaluated_boundaryLight (boundaryWall (boundaryLook gp o (boundaryOpening s)))
  generalize boundaryLight (boundaryWall (boundaryLook gp o (boundaryOpening s))) = u at h
  have honly := boundaryContacts_only u gp o
  exact h.of_kept (activeBank_of_sides ((requestsKeep_sides u.banks.sides).boundaryContacts rfl gp o))
    (by rw [honly.merge rfl]) (honly.level rfl) (honly.drive rfl) fun p => by rw [State.fixturePort, honly.fixture rfl]; rfl

/-! ### What the evaluation gives each output and slot -/

theorem grandMaster_of_kind {ch : Fin 512} (hv : validate s.activeBank = none) (h : (s.activeBank.patch.get ch).kind = 5) :
    grandMaster s = ((s.merge.look.get ch).level.toNat + 8) / 16 := by
  rw [grandMaster, grandMasterChannel_of_kind hv h]; rfl

theorem grandMaster_of_no_channel (h : ∀ ch, (s.activeBank.patch.get ch).kind ≠ 5) : grandMaster s = 4096 := by
  rw [grandMaster, grandMasterChannel_of_no_channel h]; rfl

section
variable {gm : Nat} {o : Fin 16}

theorem stagedFor_of_single (hpair : pairMode s o = false) :
    stagedFor s gm o = (pwmChannel s.activeBank o).elim .none fun ch => .value (channelValue s gm ch) := by
  rw [stagedFor, hpair]; rfl

theorem stagedFor_of_odd (hpair : pairMode s o = true) (ho : o.val % 2 = 1) : stagedFor s gm o = .none := by
  rw [stagedFor, if_pos hpair, if_neg (by omega)]

theorem stagedFor_of_even (hpair : pairMode s o = true) (ho : o.val % 2 = 0) : stagedFor s gm o =
    .pair ((pwmChannel s.activeBank o).elim 0 (channelValue s gm))
      ((pwmChannel s.activeBank (oddOutput o)).elim 0 (lookLevel s)) := by
  rw [stagedFor, if_pos hpair, if_pos ho]

end

/-! ### The slots of a port (R74) -/

section
variable {gm slot : Nat} {p : Fin 2} {ch : Fin 512}

/-- The bytes of a slot target that stand in a slot. -/
def Occupies (b : Bank) (p : Fin 2) (slot : Nat) (ch : Fin 512) : Prop :=
  (b.patch.get ch).port = p ∧ ((b.patch.get ch).kind = 2 ∧ (b.patch.get ch).slot.toNat = slot ∨
    (b.patch.get ch).kind = 3 ∧ ((b.patch.get ch).slot.toNat = slot ∨ (b.patch.get ch).slot.toNat + 1 = slot))

theorem occupies_of_slotFrom (h : slotFrom s gm p slot ch ≠ none) : Occupies s.activeBank p slot ch := by
  simp only [slotFrom] at h
  split at h
  · exact absurd rfl h
  case isFalse hport =>
    refine ⟨not_not.1 hport, ?_⟩
    split at h
    case isTrue h2 => exact .inl h2
    case isFalse =>
      split at h
      case isTrue h3 => exact .inr ⟨h3.1, .inl h3.2⟩
      case isFalse =>
        split at h
        case isTrue h3 => exact .inr ⟨h3.1, .inr h3.2⟩
        case isFalse => exact absurd rfl h

/-- Two entries that occupy one slot of a port have conflicting targets. -/
theorem sameTarget_of_occupies {b : Bank} {i j : Fin 512} (hi : Occupies b p slot i) (hj : Occupies b p slot j) :
    SameTarget (b.patch.get i) (b.patch.get j) = true := by
  obtain ⟨hip, hi⟩ := hi
  obtain ⟨hjp, hj⟩ := hj
  have hslots : (b.patch.get i).slot = (b.patch.get j).slot ∨
      (b.patch.get i).kind = 3 ∧ (b.patch.get i).slot.toNat + 1 = (b.patch.get j).slot.toNat ∨
      (b.patch.get j).kind = 3 ∧ (b.patch.get j).slot.toNat + 1 = (b.patch.get i).slot.toNat := by
    rw [← BitVec.toNat_inj]
    rcases hi with ⟨hi, hi'⟩ | ⟨hi, hi' | hi'⟩ <;> rcases hj with ⟨hj, hj'⟩ | ⟨hj, hj' | hj'⟩ <;> omega
  have hik : (b.patch.get i).kind = 2 ∨ (b.patch.get i).kind = 3 := hi.imp And.left And.left
  have hjk : (b.patch.get j).kind = 2 ∨ (b.patch.get j).kind = 3 := hj.imp And.left And.left
  simp only [SameTarget, Bool.or_eq_true, decide_eq_true_eq]
  exact .inl (.inl (.inr ⟨hik, hjk, hip.trans hjp.symm, hslots⟩))

theorem slotsFor_length : (slotsFor s gm p).length = (s.activeBank.slotCounts.get p).toNat := by
  rw [slotsFor, List.length_map, List.length_range]

theorem slotsFor_get (h : slot < (s.activeBank.slotCounts.get p).toNat) :
    (slotsFor s gm p)[slot]? = some (((List.finRange 512).findSome? (slotFrom s gm p slot)).getD 0) := by
  rw [slotsFor, List.getElem?_map, List.getElem?_range h]; rfl

theorem slotsFor_of_occupies {v : Byte} (hv : validate s.activeBank = none) (h : slot < (s.activeBank.slotCounts.get p).toNat)
    (hch : slotFrom s gm p slot ch = some v) : (slotsFor s gm p)[slot]? = some v := by
  have hocc := occupies_of_slotFrom (s := s) (gm := gm) (p := p) (slot := slot) (ch := ch) (by rw [hch]; nofun)
  rw [slotsFor_get h, findSome?_finRange_of_unique hch fun j hj =>
    eq_of_sameTarget hv (sameTarget_of_occupies (occupies_of_slotFrom hj) hocc)]
  rfl

theorem slotsFor_of_unoccupied (h : slot < (s.activeBank.slotCounts.get p).toNat)
    (hnone : ∀ ch, ¬Occupies s.activeBank p slot ch) : (slotsFor s gm p)[slot]? = some 0 := by
  have hall : (List.finRange 512).findSome? (slotFrom s gm p slot) = none :=
    List.findSome?_eq_none_iff.2 fun ch _ => by
      by_contra hne
      exact hnone ch (occupies_of_slotFrom hne)
  rw [slotsFor_get h, hall]
  rfl

theorem slotFrom_slot8 (hk : (s.activeBank.patch.get ch).kind = 2) (hp : (s.activeBank.patch.get ch).port = p)
    (hs : (s.activeBank.patch.get ch).slot.toNat = slot) :
    slotFrom s gm p slot ch = some (BitVec.ofNat 8 (slot8Value (channelValue s gm ch))) := by
  simp [slotFrom, hk, hp, hs]

theorem slotFrom_high (hk : (s.activeBank.patch.get ch).kind = 3) (hp : (s.activeBank.patch.get ch).port = p)
    (hs : (s.activeBank.patch.get ch).slot.toNat = slot) :
    slotFrom s gm p slot ch = some (BitVec.ofNat 8 (channelValue s gm ch / 256)) := by
  simp [slotFrom, hk, hp, hs]

theorem slotFrom_low (hk : (s.activeBank.patch.get ch).kind = 3) (hp : (s.activeBank.patch.get ch).port = p)
    (hs : (s.activeBank.patch.get ch).slot.toNat + 1 = slot) :
    slotFrom s gm p slot ch = some (BitVec.ofNat 8 (channelValue s gm ch)) := by
  have hne : (s.activeBank.patch.get ch).slot.toNat ≠ slot := by omega
  simp [slotFrom, hk, hp, hs, hne]

end

end

/-! ### The obligation -/

section
variable {b : Bank}

theorem scaled_stages {gm : Nat} {g : WallGain} (code : BitVec 10) (hgain : gm ≤ 4096) (hm : g.master ≤ 4096)
    (hl : g.limiter ≤ 4096) : wallLimitedValue b gm g code ≤ wallMasterValue b gm g code ∧
      wallMasterValue b gm g code ≤ wallTileValue b gm code ∧ wallTileValue b gm code ≤ wallCurveValue b code ∧
      wallCurveValue b code ≤ 65535 ∧ wallLimitedValue b 4096 ⟨4096, 4096⟩ code = wallCurveValue b code := by
  refine ⟨scaleGain_le hl, scaleGain_le hm, scaleGain_le hgain, wallCurveValue_le b code, ?_⟩
  simp only [wallLimitedValue, wallMasterValue, wallTileValue, scaleGain_unity]

theorem duty_bounds {v x : Nat} (n : Nat) (hv : v ≤ 65535) : dutyOf v n ≤ n ∧ dutyOf 65535 n = n ∧ dutyOf 0 n = 0 ∧
    warmDuty (dutyOf v n) x ≤ dutyOf v n ∧ warmDuty (dutyOf v n) 0 = dutyOf v n ∧ warmDuty (dutyOf v n) 65535 = 0 ∧
      slot8Value v ≤ 255 ∧ slot8Value 65535 = 255 :=
  ⟨dutyOf_le n hv, dutyOf_full n, dutyOf_zero n, warmDuty_le _ x, warmDuty_warm _, warmDuty_cool _, slot8Value_le hv, rfl⟩

theorem LightEvaluated.output {s : State} (h : LightEvaluated s) (hv : validate s.activeBank = none) (o : Fin 16)
    (hpair : (s.drive.get (evenOutput o)).inForce.pair = false) :
    (∀ ch, DrivesOutput s.activeBank o ch → (s.drive.get o).staged = .value (channelValue s s.level.grandMaster ch)) ∧
      ((∀ ch, ¬DrivesOutput s.activeBank o ch) → (s.drive.get o).staged = .none) := by
  rw [h.outputs, stagedFor_of_single hpair, h.master]
  exact ⟨fun ch hch => by rw [pwmChannel_of_drives hv hch]; rfl, fun hno => by rw [pwmChannel_of_no_channel hno]; rfl⟩

theorem LightEvaluated.pair {s : State} (h : LightEvaluated s) (hv : validate s.activeBank = none) (o : Fin 16)
    (hpair : (s.drive.get (evenOutput o)).inForce.pair = true) :
    (o.val % 2 = 1 → (s.drive.get o).staged = .none) ∧
      (o.val % 2 = 0 → ∃ intensity mix, (s.drive.get o).staged = .pair intensity mix ∧
        (∀ ch, DrivesOutput s.activeBank o ch → intensity = channelValue s s.level.grandMaster ch) ∧
        ((∀ ch, ¬DrivesOutput s.activeBank o ch) → intensity = 0) ∧
        (∀ ch, DrivesOutput s.activeBank (oddOutput o) ch → mix = lookLevel s ch) ∧
        ((∀ ch, ¬DrivesOutput s.activeBank (oddOutput o) ch) → mix = 0)) := by
  rw [h.outputs, h.master]
  refine ⟨stagedFor_of_odd hpair, fun ho => ⟨_, _, stagedFor_of_even hpair ho, ?_, ?_, ?_, ?_⟩⟩
  · intro ch hch; rw [pwmChannel_of_drives hv hch]; rfl
  · intro hno; rw [pwmChannel_of_no_channel hno]; rfl
  · intro ch hch; rw [pwmChannel_of_drives hv hch]; rfl
  · intro hno; rw [pwmChannel_of_no_channel hno]; rfl

end

/-- Settles O31: each stage is its rule, none brightens, and a boundary stages the evaluation of its own look. -/
theorem levelPathNeverBrightens : Obligations.LevelPathNeverBrightens := by
  refine ⟨fun b gain g code => ⟨fun i hi => ?_, rfl, rfl, rfl⟩, fun w => ⟨rfl, fun d hd => reduceDepth_of_ne ?_ w⟩,
    fun b e m gm => ⟨fun h => if_pos h, fun h => ?_, fun i f next h hf hm hend hnext _ => ?_, rfl, lightValue_unity b m⟩,
    fun v n x => ⟨rfl, rfl, rfl⟩, fun b gain g code hgain hmaster hlimiter =>
      ⟨scaled_stages code hgain hmaster hlimiter, fun depth hdepth w hw =>
        ⟨reduceDepth_lt hw, reduceDepth_full depth hdepth, fun w' => reduceDepth_mono⟩,
      fun e m hm ht hmono => ⟨lightValue_le b m hgain ht, curveValue_le hmono hm⟩, fun v n x hv _ => duty_bounds n hv⟩,
    fun s gp order => ⟨frameBoundary gp order s, rfl, fun hv => ?_⟩⟩
  · obtain rfl : i = ⟨code.toNat, code.isLt⟩ := Fin.ext hi
    rfl
  · rintro rfl; exact absurd hd (by decide)
  · rw [curveValue, h]; rfl
  · rw [curveValue, h]; exact tableCurve_between b hf hm hend hnext
  · have h := lightEvaluated_frameBoundary gp order s
    generalize frameBoundary gp order s = t at h hv
    refine ⟨fun ch hk => h.master.trans (grandMaster_of_kind hv hk), fun hno => h.master.trans (grandMaster_of_no_channel hno),
      h.output hv, h.pair hv, fun p => ?_⟩
    intro slots
    have hslots : slots = slotsFor t t.level.grandMaster p := by rw [h.master]; exact h.slots p
    have hlength : slots.length = (t.activeBank.slotCounts.get p).toNat := by rw [hslots, slotsFor_length]
    refine ⟨hlength, fun slot hslot => ?_⟩
    rw [hlength] at hslot
    intro on
    rw [hslots]
    refine ⟨fun ch ⟨hk, hp, hs⟩ => slotsFor_of_occupies hv hslot (slotFrom_slot8 hk hp hs),
      fun ch ⟨hk, hp, hs⟩ => slotsFor_of_occupies hv hslot (slotFrom_high hk hp hs),
      fun ch first hfirst ⟨hk, hp, hs⟩ => slotsFor_of_occupies hv hslot (slotFrom_low hk hp (by rw [hs, hfirst])),
      fun hno => slotsFor_of_unoccupied hslot fun ch hocc => ?_⟩
    obtain ⟨h2, h3, hlow⟩ := hno ch
    obtain ⟨hp, ⟨hk, hs⟩ | ⟨hk, hs | hs⟩⟩ := hocc
    · exact h2 ⟨hk, hp, hs⟩
    · exact h3 ⟨hk, hp, hs⟩
    · exact hlow _ hs ⟨hk, hp, rfl⟩

end Sys2Proof.Machine
end

section
/-! PROOFS. Set PWM Output (R159), and the waveform of a duty (R160 to R162). -/

namespace Sys2Proof.Machine

/-! ### Set PWM Output -/

section
variable {s : State} {tag : Byte} {output alignment polarity phase : Nat} {pair : Bool}

/-- The ranges of R159 for an output of any number. -/
def PwmInRange (output alignment polarity phase : Nat) (pair : Bool) : Prop :=
  output ≤ 15 ∧ alignment ≤ 1 ∧ polarity ≤ 1 ∧ phase ≤ 15 ∧ (pair = true → output % 2 = 0)

theorem pwmInRange_iff (o : Fin 16) :
    pwmInRange o alignment polarity phase pair = true ↔ PwmInRange o.val alignment polarity phase pair := by
  have hpair : (!(pair && decide (o.val % 2 = 1))) = true ↔ (pair = true → o.val % 2 = 0) := by
    cases pair
    · simp
    · simp
  have ho : o.val ≤ 15 := Nat.le_of_lt_succ o.isLt
  simp only [pwmInRange, PwmInRange, Bool.and_eq_true, decide_eq_true_eq, hpair, ho, true_and, and_assoc]

theorem doSetPwmOutput_refused (h : ¬PwmInRange output alignment polarity phase pair) :
    doSetPwmOutput tag output alignment polarity phase pair s = refuse tag Code.setPwmOutput .outOfRange s := by
  unfold doSetPwmOutput
  by_cases ho : output < 16
  · rw [finOf_of_lt ho]
    exact if_neg fun hr => h ((pwmInRange_iff ⟨output, ho⟩).1 hr)
  · rw [finOf_of_le (Nat.le_of_not_lt ho)]

theorem doSetPwmOutput_stored (o : Fin 16) (h : PwmInRange o.val alignment polarity phase pair) :
    doSetPwmOutput tag o.val alignment polarity phase pair s = answer tag Code.setPwmOutput .ok
      (u8 alignment ++ u8 polarity ++ u8 phase ++ flag pair ++ u32 (s.timing.frame + 1).toNat)
      (s.setDrive (s.drive.set o { s.drive.get o with
        requested := some ⟨decide (alignment = 1), decide (polarity = 1), phase, pair⟩ })) := by
  have hflag : ∀ v : Nat, v ≤ 1 → (decide (v = 1)).toNat = v := by
    intro v hv
    interval_cases v <;> rfl
  have hbytes : (pwmSettings alignment polarity phase pair).bytes = u8 alignment ++ u8 polarity ++ u8 phase ++ flag pair := by
    obtain ⟨-, ha, hp, -⟩ := h
    simp only [PwmSettings.bytes, pwmSettings, hflag _ ha, hflag _ hp]
  simp only [doSetPwmOutput, finOf_val, if_pos ((pwmInRange_iff o).2 h), hbytes]
  rfl

end

/-! ### Counting the steps and ticks of an interval -/

/-- The numbers below m that lie between a and b, or below e where e is at most a. -/
theorem countP_range_between {a b e : Nat} (he : e ≤ a) (m : Nat) :
    (List.range m).countP (fun i => decide ((a ≤ i ∧ i < b) ∨ i < e)) = (min m b - a) + min m e := by
  induction m with
  | zero => simp
  | succ m ih =>
    rw [List.range_succ, List.countP_append, ih, List.countP_singleton]
    split
    case isTrue h => simp only [decide_eq_true_eq] at h; omega
    case isFalse h => simp only [decide_eq_true_eq] at h; omega

theorem countP_range_congr {n : Nat} {p q : Nat → Bool} (h : ∀ i, i < n → p i = q i) :
    (List.range n).countP p = (List.range n).countP q :=
  List.countP_congr fun i hi => by rw [h i (List.mem_range.1 hi)]

theorem countP_range_add (p : Nat → Bool) (a b : Nat) :
    (List.range (a + b)).countP p = (List.range a).countP p + (List.range b).countP fun i => p (a + i) := by
  rw [List.range_add, List.countP_append, List.countP_map]
  rfl

theorem countP_range_const (c : Bool) (n : Nat) : (List.range n).countP (fun _ => c) = if c then n else 0 := by
  cases c <;> simp

/-- A count over equal blocks is the count of one block times their number. -/
theorem countP_range_blocks {p r : Nat → Bool} (k m : Nat) (h : ∀ j i, j < k → i < m → p (m * j + i) = r i) :
    (List.range (m * k)).countP p = k * (List.range m).countP r := by
  induction k with
  | zero => simp
  | succ k ih =>
    rw [Nat.mul_succ, countP_range_add, ih fun j i hj => h j i (Nat.lt_succ_of_lt hj),
      countP_range_congr fun i hi => h k i (Nat.lt_succ_self k) hi, Nat.succ_mul]

/-- A count over blocks, each of one value, is the count of the blocks times their length. -/
theorem countP_range_stretched {p r : Nat → Bool} (n m : Nat) (h : ∀ j i, j < n → i < m → p (m * j + i) = r j) :
    (List.range (m * n)).countP p = m * (List.range n).countP r := by
  induction n with
  | zero => simp
  | succ n ih =>
    have hlast : (List.range m).countP (fun i => p (m * n + i)) = m * (List.range 1).countP fun j => r (n + j) := by
      rw [countP_range_congr fun i hi => h n i (Nat.lt_succ_self n) hi, countP_range_const]
      cases hr : r n <;> simp [hr]
    rw [Nat.mul_succ, countP_range_add, ih fun j i hj => h j i (Nat.lt_succ_of_lt hj), hlast, countP_range_add r n 1, Nat.mul_add]

/-! ### The active steps (R162) -/

section
variable {x : PwmSettings} {n d step : Nat}

theorem isActiveStep_centre (hc : x.centre = true) :
    isActiveStep x n d step = true ↔ (n - d) / 2 ≤ step ∧ step < (n - d) / 2 + d := by
  rw [isActiveStep, hc]; simp

theorem phaseStart_lt (hn : 1 ≤ n) (hp : x.phase ≤ 15) : x.phase * n / 16 < n := by
  have hmul : x.phase * n ≤ 15 * n := Nat.mul_le_mul_right n hp
  omega

/-- The steps of a left-aligned duty begin at the phase and wrap at the period's end. -/
theorem isActiveStep_left (hc : x.centre = false) (hn : 1 ≤ n) (hp : x.phase ≤ 15) (hd : d ≤ n) (hs : step < n) :
    isActiveStep x n d step = true ↔ (x.phase * n / 16 ≤ step ∧ step < x.phase * n / 16 + d) ∨
      step + n < x.phase * n / 16 + d := by
  have ho := phaseStart_lt hn hp
  rw [isActiveStep, hc]
  generalize x.phase * n / 16 = o at ho
  simp only [Bool.false_eq_true, if_false, decide_eq_true_eq]
  by_cases hle : o ≤ step
  · rw [show step + n - o = (step - o) + n by omega, Nat.add_mod_right, Nat.mod_eq_of_lt (by omega)]
    omega
  · rw [Nat.mod_eq_of_lt (by omega)]
    omega

/-- A duty is active on as many steps as it counts. -/
theorem countP_isActiveStep (hn : 1 ≤ n) (hd : d ≤ n) (hp : x.phase ≤ 15) :
    (List.range n).countP (isActiveStep x n d) = d := by
  cases hc : x.centre with
  | true =>
    have hcount := countP_range_between (a := (n - d) / 2) (b := (n - d) / 2 + d) (Nat.zero_le _) n
    rw [countP_range_congr (q := fun i => decide (((n - d) / 2 ≤ i ∧ i < (n - d) / 2 + d) ∨ i < 0)) fun i _ => by
      rw [Bool.eq_iff_iff, isActiveStep_centre hc]; simp, hcount]
    omega
  | false =>
    have ho := phaseStart_lt hn hp
    have hcount := countP_range_between (a := x.phase * n / 16) (b := x.phase * n / 16 + d) (e := x.phase * n / 16 + d - n)
      (by omega) n
    rw [countP_range_congr (q := fun i => decide ((x.phase * n / 16 ≤ i ∧ i < x.phase * n / 16 + d) ∨
      i < x.phase * n / 16 + d - n)) fun i hi => by
        rw [Bool.eq_iff_iff, isActiveStep_left hc hn hp hd hi, decide_eq_true_eq, Nat.lt_sub_iff_add_lt], hcount]
    omega

end

/-! ### The line over the interval (R162) -/

section
variable {g : Grid} {length tick : Nat}

theorem stepAt_of_period {j step : Nat} (hj : j < g.k) (hs : step < g.n) (hlow : g.p * g.n * j + g.p * step ≤ tick)
    (hhigh : tick < g.p * g.n * j + g.p * (step + 1)) : stepAt g tick = step := by
  have hstep : g.p * (step + 1) ≤ g.p * g.n := Nat.mul_le_mul_left g.p hs
  have hperiod : tick / (g.p * g.n) = j := by
    refine Nat.div_eq_of_lt_le ?_ ?_
    · rw [Nat.mul_comm j]; omega
    · rw [Nat.succ_mul, Nat.mul_comm j]; omega
  have hwithin : (tick - g.p * g.n * j) / g.p = step := by
    refine Nat.div_eq_of_lt_le ?_ ?_
    · rw [Nat.mul_comm step]; omega
    · rw [Nat.mul_comm (step + 1)]; omega
  simp only [stepAt, hperiod, Nat.min_eq_left (Nat.le_sub_one_of_lt hj), hwithin]
  omega

theorem stepAt_of_residual (hk : 1 ≤ g.k) (hp : 1 ≤ g.p) (hn : 1 ≤ g.n) (h : g.p * g.n * g.k ≤ tick) :
    stepAt g tick = g.n - 1 := by
  have hperiods : g.k ≤ tick / (g.p * g.n) := (Nat.le_div_iff_mul_le (Nat.mul_pos hp hn)).2 (by rw [Nat.mul_comm]; exact h)
  have hlast : g.p * g.n * (g.k - 1) + g.p * g.n ≤ tick := by
    rw [← Nat.mul_succ, Nat.succ_eq_add_one, Nat.sub_add_cancel hk]; exact h
  have hsteps : g.n ≤ (tick - g.p * g.n * (g.k - 1)) / g.p := (Nat.le_div_iff_mul_le hp).2 (by
    rw [Nat.mul_comm]; omega)
  simp only [stepAt, Nat.min_eq_right (show g.k - 1 ≤ tick / (g.p * g.n) by omega)]
  omega

theorem gridSound_pos (h : GridSound g length) : 1 ≤ g.k ∧ 1 ≤ g.p ∧ 1 ≤ g.n ∧ g.p * g.n * g.k + g.residual = length := by
  obtain ⟨hk, -, hp, hn, -, hlength, -⟩ := h
  have hpos : ∀ p ∈ [1, 2, 4, 8, 16, 32, 64, 128], 1 ≤ p := by decide
  refine ⟨hk, hpos _ hp, by omega, ?_⟩
  rw [← hlength]; ring

theorem shownDuty_le (n : Nat) (x : Shown) : shownDuty n x ≤ n := by
  cases x <;> simp only [shownDuty] <;> omega

/-- An output is active for the ticks of its active steps in every period, and in the residual where the last step is. -/
theorem countP_lineLevel (x : PwmOutput) (h : GridSound g length) (hphase : x.inForce.phase ≤ 15) :
    (List.range length).countP (fun tick => lineLevel g x tick != x.inForce.activeLow) = activeTicks g x := by
  obtain ⟨hk, hp, hn, hlength⟩ := gridSound_pos h
  set active := isActiveStep x.inForce g.n (shownDuty g.n x.shown) with hactive
  have hline : ∀ t, (lineLevel g x t != x.inForce.activeLow) = active (stepAt g t) := fun t => by simp [lineLevel, hactive]
  have hperiod : (List.range (g.p * g.n)).countP (fun i => active (i / g.p)) = g.p * shownDuty g.n x.shown := by
    rw [countP_range_stretched (r := active) g.n g.p fun j i _ hi => by
      rw [Nat.mul_add_div hp, Nat.div_eq_of_lt hi, Nat.add_zero]]
    rw [countP_isActiveStep hn (shownDuty_le _ _) hphase]
  have hperiods : (List.range (g.p * g.n * g.k)).countP (fun t => active (stepAt g t)) = g.k * (g.p * shownDuty g.n x.shown) := by
    rw [countP_range_blocks (r := fun i => active (i / g.p)) g.k (g.p * g.n) fun j i hj hi => ?_, hperiod]
    have hmod := Nat.mod_lt i hp
    have hsplit := Nat.div_add_mod i g.p
    rw [stepAt_of_period hj (Nat.div_lt_of_lt_mul hi) (by omega) (by rw [Nat.mul_succ]; omega)]
  have hrest : (List.range g.residual).countP (fun i => active (stepAt g (g.p * g.n * g.k + i))) =
      if active (g.n - 1) then g.residual else 0 := by
    rw [countP_range_congr fun i _ => by rw [stepAt_of_residual hk hp hn (Nat.le_add_right _ i)], countP_range_const]
  simp only [hline]
  rw [← hlength, countP_range_add, hperiods, hrest, activeTicks, Nat.mul_comm g.p, ← Nat.mul_assoc]

end

theorem shownDuty_pair (n total warm : Nat) :
    shownDuty n (.warm total warm) + shownDuty n (.cool total warm) = min total n := by
  simp only [shownDuty]; omega

/-- Settles O47: the command, the active steps of a duty, the line at every tick, its active ticks, and the pair. -/
theorem pwmOutputsShowTheirDuty : Obligations.PwmOutputsShowTheirDuty := by
  refine ⟨fun s tag output alignment polarity phase pair hroom => ?_, fun x n d hn hd hp => ⟨?_, fun step hs => ?_⟩,
    fun g x length tick hg => ?_, fun g x length hg hp => ?_, fun n d total warm => ⟨rfl, rfl, shownDuty_pair n total warm⟩⟩
  · refine ⟨fun h => answers_exec rfl hroom (doSetPwmOutput_refused h), ?_⟩
    rintro o rfl h
    exact answers_exec rfl hroom (doSetPwmOutput_stored o h)
  · rw [← List.countP_eq_length_filter]; exact countP_isActiveStep hn hd hp
  · exact ⟨fun hc => isActiveStep_left hc hn hp hd hs, isActiveStep_centre⟩
  · obtain ⟨hk, hp, hn, -⟩ := gridSound_pos hg
    refine ⟨fun j step hj hs hlow hhigh => ?_, fun hlow _ => ?_⟩
    · rw [lineLevel, stepAt_of_period hj hs hlow hhigh]
    · rw [lineLevel, stepAt_of_residual hk hp hn hlow]
  · rw [← List.countP_eq_length_filter]; exact countP_lineLevel x hg hp

end Sys2Proof.Machine
end

section
/-! PROOFS. The segments of a unit: which entries give one, and what each stands for (R84, R85, Table 5-4). -/

namespace Sys2Proof.Machine

/-! ### The piece of an entry -/

section
variable (s : State) (u : PictureUnit) (kept : Nat) (e : TileEntry)

/-- The canvas columns from which and up to which the unit's kept pixels lie in the footprint. -/
def overlapLow : Nat := max u.first e.x.toNat
def overlapHigh : Nat := min (u.first + kept) (e.x.toNat + footprintW e)

/-- The footprint holds the line of the unit and a kept pixel (R84). -/
def MeetsFootprint : Prop :=
  e.valid = true ∧ e.y.toNat ≤ u.line ∧ u.line < e.y.toNat + footprintH e ∧ overlapLow u e < overlapHigh u kept e

/-- The pixels of the overlap in the order of their tile columns or rows (R84). -/
def runPixels : List Pixel :=
  (runOrder e (overlapLow u e - e.x.toNat) (overlapHigh u kept e - e.x.toNat)).map fun k =>
    u.pixels.getD (e.x.toNat + k - u.first) ⟨0, 0, 0⟩

/-- The piece an entry gives for the port, the position and the depth it is fed at. -/
def pieceAt (i : Fin 256) (p : Fin 8) (position depth : Nat) : Piece :=
  { port := p, entry := i
    segment :=
      { position := position, column := decide (e.rotation.val % 2 = 1)
        index := segmentIndex e (u.line - e.y.toNat)
        start := segmentStart e (overlapLow u e - e.x.toNat) (overlapHigh u kept e - e.x.toNat)
        count := overlapHigh u kept e - overlapLow u e, depth := depth
        samples := (runPixels u kept e).flatMap (pixelSamples s.activeBank (s.level.gains.get e.chain) e depth) }
    values := (runPixels u kept e).map (pixelValues s.activeBank (s.level.gains.get e.chain) e) }

end

section
variable {s : State} {u : PictureUnit} {kept : Nat} {i : Fin 256} {x : Piece}

theorem pieceFor_eq_some_iff : pieceFor s u kept i = some x ↔ MeetsFootprint u kept (s.activeBank.tiles.get i) ∧
    ∃ p position depth, feederOf s i = some (p, position, depth) ∧
      pieceAt s u kept (s.activeBank.tiles.get i) i p position depth = x := by
  have hpiece : pieceFor s u kept i = if (s.activeBank.tiles.get i).valid = true ∧ (s.activeBank.tiles.get i).y.toNat ≤ u.line ∧
      u.line < (s.activeBank.tiles.get i).y.toNat + footprintH (s.activeBank.tiles.get i) ∧
      overlapLow u (s.activeBank.tiles.get i) < overlapHigh u kept (s.activeBank.tiles.get i)
      then (feederOf s i).map fun f => pieceAt s u kept (s.activeBank.tiles.get i) i f.1 f.2.1 f.2.2 else none := rfl
  rw [hpiece]
  constructor
  · intro h
    split at h
    case isTrue hmeets =>
      obtain ⟨⟨p, position, depth⟩, hf, hx⟩ := Option.map_eq_some_iff.1 h
      exact ⟨hmeets, p, position, depth, hf, hx⟩
    case isFalse => exact absurd h nofun
  · rintro ⟨hmeets, p, position, depth, hf, hx⟩
    exact (if_pos hmeets).trans (by rw [hf, ← hx]; rfl)

/-! ### The port that feeds a tile -/

/-- A port carries pixel data in the interval and has latched the tile (R111). -/
def Feeds (s : State) (i : Fin 256) : Prop := ∃ p, (s.port p).latch.pixelData = true ∧ ∃ r ∈ (s.port p).latch.reached, r.entry = i

theorem mem_fedTiles {l : Latch} {r : ReachedTile} : r ∈ fedTiles l ↔ l.pixelData = true ∧ r ∈ l.reached := by
  unfold fedTiles
  split <;> simp_all

/-- What one port says of a tile. -/
def feedOf (s : State) (i : Fin 256) (p : Fin 8) : Option (Fin 8 × Nat × Nat) :=
  ((fedTiles (s.port p).latch).find? fun t => decide (t.entry = i)).map fun t =>
    (p, t.position, ((s.port p).latch.choice.map Prod.fst).getD 16)

theorem feederOf_eq (s : State) (i : Fin 256) : feederOf s i = (List.finRange 8).findSome? (feedOf s i) := by
  unfold feederOf
  refine congrArg (fun f => List.findSome? f (List.finRange 8)) (funext fun p => ?_)
  unfold feedOf
  split
  case h_1 t ht => rw [ht]; rfl
  case h_2 ht => rw [ht]; rfl

theorem feedOf_spec {p q : Fin 8} {position depth : Nat} (h : feedOf s i q = some (p, position, depth)) : q = p ∧
    (∃ r ∈ fedTiles (s.port p).latch, r.entry = i ∧ r.position = position) ∧
      ∀ d rate, (s.port p).latch.choice = some (d, rate) → depth = d := by
  obtain ⟨t, ht, heq⟩ := Option.map_eq_some_iff.1 h
  obtain ⟨rfl, rfl, rfl⟩ : q = p ∧ t.position = position ∧ ((s.port q).latch.choice.map Prod.fst).getD 16 = depth := by
    simpa using heq
  have hentry : decide (t.entry = i) = true := List.find?_some (p := fun t : ReachedTile => decide (t.entry = i)) ht
  exact ⟨rfl, ⟨t, List.mem_of_find?_eq_some ht, of_decide_eq_true hentry, rfl⟩, fun d rate hc => by rw [hc]; rfl⟩

theorem feederOf_spec {p : Fin 8} {position depth : Nat} (h : feederOf s i = some (p, position, depth)) :
    (∃ r ∈ fedTiles (s.port p).latch, r.entry = i ∧ r.position = position) ∧
      ∀ d rate, (s.port p).latch.choice = some (d, rate) → depth = d := by
  rw [feederOf_eq] at h
  obtain ⟨q, -, hq⟩ := List.exists_of_findSome?_eq_some h
  obtain ⟨-, hfed⟩ := feedOf_spec hq
  exact hfed

theorem feederOf_isSome_iff : (∃ f, feederOf s i = some f) ↔ Feeds s i := by
  constructor
  · rintro ⟨⟨p, position, depth⟩, h⟩
    obtain ⟨⟨r, hr, hi, -⟩, -⟩ := feederOf_spec h
    obtain ⟨hdata, hr⟩ := mem_fedTiles.1 hr
    exact ⟨p, hdata, r, hr, hi⟩
  · rintro ⟨p, hdata, r, hr, hi⟩
    rw [feederOf_eq]
    refine Option.ne_none_iff_exists'.1 fun hnone => ?_
    have hp := List.findSome?_eq_none_iff.1 hnone p (List.mem_finRange p)
    have hfind := Option.map_eq_none_iff.1 hp
    exact List.find?_eq_none.1 hfind r (mem_fedTiles.2 ⟨hdata, hr⟩) (decide_eq_true hi)

/-! ### Which entries give a piece -/

theorem footprintW_eq (e : TileEntry) : footprintW e = if e.rotation.val % 2 = 1 then e.h.toNat else e.w.toNat := by
  unfold footprintW
  split
  · rw [if_neg (by omega)]
  · rw [if_pos (by omega)]

theorem footprintH_eq (e : TileEntry) : footprintH e = if e.rotation.val % 2 = 1 then e.w.toNat else e.h.toNat := by
  unfold footprintH
  split
  · rw [if_neg (by omega)]
  · rw [if_pos (by omega)]

/-- The overlap is not empty just where a kept column lies in the footprint. -/
theorem overlap_iff (e : TileEntry) : overlapLow u e < overlapHigh u kept e ↔
    ∃ column, u.first ≤ column ∧ column < u.first + kept ∧ e.x.toNat ≤ column ∧ column < e.x.toNat + footprintW e := by
  unfold overlapLow overlapHigh
  constructor
  · intro h
    exact ⟨max u.first e.x.toNat, by omega⟩
  · rintro ⟨column, h⟩
    omega

theorem exists_pieceFor_iff : (∃ x, pieceFor s u kept i = some x) ↔ MeetsFootprint u kept (s.activeBank.tiles.get i) ∧ Feeds s i := by
  rw [← feederOf_isSome_iff]
  constructor
  · rintro ⟨x, hx⟩
    obtain ⟨hmeets, p, position, depth, hf, -⟩ := pieceFor_eq_some_iff.1 hx
    exact ⟨hmeets, _, hf⟩
  · rintro ⟨hmeets, ⟨p, position, depth⟩, hf⟩
    exact ⟨_, pieceFor_eq_some_iff.2 ⟨hmeets, p, position, depth, hf, rfl⟩⟩

theorem entry_of_pieceFor (h : pieceFor s u kept i = some x) : x.entry = i := by
  obtain ⟨-, p, position, depth, -, rfl⟩ := pieceFor_eq_some_iff.1 h
  rfl

theorem mem_piecesOf : x ∈ piecesOf s u kept ↔ ∃ i, pieceFor s u kept i = some x := by
  simp only [piecesOf, List.mem_filterMap, List.mem_finRange, true_and]

theorem piecesOf_pairwise (s : State) (u : PictureUnit) (kept : Nat) : (piecesOf s u kept).Pairwise fun x y => x.entry < y.entry := by
  rw [piecesOf, List.pairwise_filterMap]
  refine (List.pairwise_lt_finRange 256).imp fun hij x hx y hy => ?_
  rw [entry_of_pieceFor hx, entry_of_pieceFor hy]
  exact hij

end

/-! ### The run of a piece (Table 5-4) -/

section
variable {u : PictureUnit} {kept : Nat} {e : TileEntry}

theorem overlap_bounds (u : PictureUnit) (kept : Nat) (e : TileEntry) : e.x.toNat ≤ overlapLow u e ∧ u.first ≤ overlapLow u e ∧
    overlapHigh u kept e ≤ e.x.toNat + footprintW e ∧ overlapHigh u kept e ≤ u.first + kept := by
  unfold overlapLow overlapHigh
  omega

/-- A piece's index and run lie inside its tile, at the places of Table 5-4. -/
theorem segment_inside (h : MeetsFootprint u kept e) :
    (e.rotation.val % 2 = 0 → segmentIndex e (u.line - e.y.toNat) < e.h.toNat ∧
      segmentStart e (overlapLow u e - e.x.toNat) (overlapHigh u kept e - e.x.toNat) +
        (overlapHigh u kept e - overlapLow u e) ≤ e.w.toNat) ∧
    (e.rotation.val % 2 = 1 → segmentIndex e (u.line - e.y.toNat) < e.w.toNat ∧
      segmentStart e (overlapLow u e - e.x.toNat) (overlapHigh u kept e - e.x.toNat) +
        (overlapHigh u kept e - overlapLow u e) ≤ e.h.toNat) := by
  obtain ⟨-, hline, hbelow, hover⟩ := h
  obtain ⟨hlow, -, hhigh, -⟩ := overlap_bounds u kept e
  unfold footprintH at hbelow
  unfold footprintW at hhigh
  generalize hr : e.rotation = r at hbelow hhigh
  simp only [segmentIndex, segmentStart, hr]
  fin_cases r <;> simp at hbelow hhigh ⊢ <;> omega

theorem segment_place (h : MeetsFootprint u kept e) :
    let index := segmentIndex e (u.line - e.y.toNat)
    let start := segmentStart e (overlapLow u e - e.x.toNat) (overlapHigh u kept e - e.x.toNat)
    let v := u.line - e.y.toNat
    (e.rotation = 0 → index = v ∧ start = overlapLow u e - e.x.toNat) ∧
    (e.rotation = 1 → index = v ∧ start + (overlapHigh u kept e - e.x.toNat) = e.h.toNat) ∧
    (e.rotation = 2 → index + v + 1 = e.h.toNat ∧ start + (overlapHigh u kept e - e.x.toNat) = e.w.toNat) ∧
    (e.rotation = 3 → index + v + 1 = e.w.toNat ∧ start = overlapLow u e - e.x.toNat) := by
  obtain ⟨-, hline, hbelow, hover⟩ := h
  obtain ⟨hlow, -, hhigh, -⟩ := overlap_bounds u kept e
  unfold footprintH at hbelow
  unfold footprintW at hhigh
  intro index start v
  refine ⟨fun hr => ?_, fun hr => ?_, fun hr => ?_, fun hr => ?_⟩ <;>
    simp only [index, start, v, segmentIndex, segmentStart, hr] at hbelow hhigh ⊢ <;>
    simp at hbelow hhigh ⊢ <;> omega

/-! ### The pixels of a run -/

theorem runOrder_get {u0 u1 k : Nat} (hk : k < u1 - u0) :
    (runOrder e u0 u1)[k]? = some (if e.rotation = 1 ∨ e.rotation = 2 then u1 - 1 - k else u0 + k) := by
  unfold runOrder
  split
  · rw [List.getElem?_reverse (by simpa using hk), List.getElem?_map, List.getElem?_range (by simp; omega)]
    simp only [List.length_map, List.length_range, Option.map_some, Option.some.injEq]
    omega
  · rw [List.getElem?_map, List.getElem?_range hk]
    rfl

theorem runOrder_length (u0 u1 : Nat) : (runOrder e u0 u1).length = u1 - u0 := by
  unfold runOrder
  split <;> simp

theorem runPixels_length : (runPixels u kept e).length = overlapHigh u kept e - overlapLow u e := by
  obtain ⟨hlow, -⟩ := overlap_bounds u kept e
  rw [runPixels, List.length_map, runOrder_length]
  omega

/-- The k-th pixel of a run is the unit's pixel in the k-th column of the overlap, from the left or from the right. -/
theorem runPixels_get {k : Nat} {q : Pixel} (hk : k < overlapHigh u kept e - overlapLow u e)
    (hq : u.pixels[(if e.rotation = 1 ∨ e.rotation = 2 then overlapHigh u kept e - 1 - k else overlapLow u e + k) - u.first]? = some q) :
    (runPixels u kept e)[k]? = some q := by
  obtain ⟨hlow, -⟩ := overlap_bounds u kept e
  have hcolumn : e.x.toNat + (if e.rotation = 1 ∨ e.rotation = 2 then overlapHigh u kept e - e.x.toNat - 1 - k
      else overlapLow u e - e.x.toNat + k) =
      if e.rotation = 1 ∨ e.rotation = 2 then overlapHigh u kept e - 1 - k else overlapLow u e + k := by
    split <;> omega
  rw [runPixels, List.getElem?_map, runOrder_get (by omega), Option.map_some, hcolumn, List.getD_eq_getElem?_getD, hq]
  rfl

/-- The k-th three samples of a run are those of its k-th pixel. -/
theorem drop_take_flatMap {α β : Type} {f : α → List β} (hf : ∀ a, (f a).length = 3) {l : List α} {k : Nat} {a : α}
    (h : l[k]? = some a) : ((l.flatMap f).drop (3 * k)).take 3 = f a := by
  induction l generalizing k with
  | nil => exact absurd h nofun
  | cons b l ih =>
    rw [List.flatMap_cons]
    cases k with
    | zero =>
      obtain rfl : b = a := by simpa using h
      rw [Nat.mul_zero, List.drop_zero, ← hf b, List.take_left]
    | succ k =>
      rw [show 3 * (k + 1) = (f b).length + 3 * k by rw [hf]; omega, List.drop_length_add_append]
      exact ih (by simpa using h)

theorem length_flatMap_samples {α β : Type} {f : α → List β} (hf : ∀ a, (f a).length = 3) (l : List α) :
    (l.flatMap f).length = 3 * l.length := by
  induction l with
  | nil => rfl
  | cons b l ih => rw [List.flatMap_cons, List.length_append, hf, ih, List.length_cons]; omega

end

/-! ### The obligation -/

section
variable {b : Bank} {g : WallGain} {e : TileEntry}

theorem pixelSamples_lt {depth : Nat} (hr : e.gainR.toNat ≤ 4096) (hg : e.gainG.toNat ≤ 4096) (hb : e.gainB.toNat ≤ 4096)
    (hm : g.master ≤ 4096) (hl : g.limiter ≤ 4096) (x : Pixel) : ∀ v ∈ pixelSamples b g e depth x, v < 2 ^ depth := by
  have hlimited : ∀ (gain : Nat) (code : BitVec 10), gain ≤ 4096 → wallLimitedValue b gain g code ≤ 65535 := by
    intro gain code hgain
    obtain ⟨h1, h2, h3, h4, -⟩ := scaled_stages (b := b) code hgain hm hl
    exact h1.trans (h2.trans (h3.trans h4))
  intro v hv
  simp only [pixelSamples, List.mem_cons, List.not_mem_nil, or_false] at hv
  rcases hv with rfl | rfl | rfl
  · exact reduceDepth_lt (hlimited _ _ hr)
  · exact reduceDepth_lt (hlimited _ _ hg)
  · exact reduceDepth_lt (hlimited _ _ hb)

end

/-- Settles O35: the entries that give a piece, and what the piece of an entry is at each rotation. -/
theorem segmentsStayInTheirTile : Obligations.SegmentsStayInTheirTile := by
  refine ⟨fun s u kept => ⟨fun i => ?_, fun x => mem_piecesOf, piecesOf_pairwise s u kept⟩, fun s u kept i x hx hgains hv hdepth => ?_⟩
  · intro e turned width height
    have hwidth : footprintW e = width := footprintW_eq e
    have hheight : footprintH e = height := footprintH_eq e
    rw [exists_pieceFor_iff, MeetsFootprint, overlap_iff, ← hwidth, ← hheight]
    constructor
    · rintro ⟨⟨hvalid, hline, hbelow, hover⟩, hfed⟩
      exact ⟨hvalid, hfed, hline, hbelow, hover⟩
    · rintro ⟨hvalid, hfed, hline, hbelow, hover⟩
      exact ⟨⟨hvalid, hline, hbelow, hover⟩, hfed⟩
  · obtain ⟨hmeets, p, position, depth, hf, rfl⟩ := pieceFor_eq_some_iff.1 hx
    intro e g
    obtain ⟨⟨hvalid, -, -, hover⟩, -⟩ := pieceFor_eq_some_iff.1 hx
    obtain ⟨-, -, -, htiles, -⟩ := validate_eq_none_iff.1 hv
    obtain ⟨⟨-, -, -, -, hr, hg, hb⟩, -⟩ := checkTiles_eq_none_iff.1 htiles i hvalid
    obtain ⟨hm, hl⟩ := hgains e.chain
    obtain ⟨hrow, hcolumn⟩ := segment_inside hmeets
    obtain ⟨hplace0, hplace1, hplace2, hplace3⟩ := segment_place hmeets
    obtain ⟨hfed, hchoice⟩ := feederOf_spec hf
    have hlength : ∀ q, (pixelSamples s.activeBank (s.level.gains.get e.chain) e depth q).length = 3 := fun _ => rfl
    have hcolumn_iff : g.column = true ↔ e.rotation.val % 2 = 1 := decide_eq_true_iff
    refine ⟨rfl, hvalid, Nat.sub_pos_of_lt hover, hcolumn_iff, fun hc => hrow ?_, fun hc => hcolumn (hcolumn_iff.1 hc), ?_, ?_,
      ?_, ?_, hfed, hchoice, ?_⟩
    · have hodd : ¬e.rotation.val % 2 = 1 := fun h => by rw [hcolumn_iff.2 h] at hc; exact absurd hc nofun
      exact (Nat.mod_two_eq_zero_or_one _).resolve_right hodd
    · exact (length_flatMap_samples hlength _).trans (by rw [runPixels_length]; rfl)
    · exact (List.length_map _).trans runPixels_length
    · intro v hsample
      obtain ⟨q, -, hq⟩ := List.mem_flatMap.1 hsample
      exact pixelSamples_lt hr hg hb hm hl q v hq
    · exact Nat.sub_add_cancel (le_of_lt hover)
    · intro low high v
      refine ⟨hplace0, hplace1, hplace2, hplace3, fun k hk => ?_⟩
      intro column q hq
      have hpixel := runPixels_get (e := e) hk hq
      refine ⟨drop_take_flatMap hlength hpixel, ?_⟩
      exact (List.getElem?_map).trans (by rw [hpixel]; rfl)

end Sys2Proof.Machine
end

section
/-! PROOFS. The state after reset, and both resets as whole next states (R7, R18, R39, R97). -/

namespace Sys2Proof.Machine

/-! ### The state after reset is sound -/

section

theorem port_reset (p : Fin 8) : State.reset.port p = Port.reset := by simp [State.port, State.reset]

theorem fixturePort_reset (p : Fin 2) : State.reset.fixturePort p = FixturePort.reset := by simp [State.fixturePort, State.reset]

theorem queueSound_stateReset : QueueSound State.reset := ⟨by decide +kernel, by decide +kernel⟩

theorem lanesSound_reset : LanesSound State.reset := by
  refine ⟨by decide, by decide, fun p => ?_⟩
  rw [fixturePort_reset]
  exact ⟨by decide, nofun⟩

theorem intakeSound_stateReset : IntakeSound State.reset := by
  refine ⟨by decide, by decide, by decide, fun i => ?_, fun _ => rfl, nofun, nofun⟩
  simp [State.reset, Intake.reset]

theorem limiterSound_reset : LimiterSound State.reset := fun c => by
  have hchain : State.reset.chain c = ChainLimiter.reset := by simp [State.reset, State.chain, Limiter.reset]
  rw [hchain]
  decide

theorem mergeSound_reset : MergeSound State.reset := by
  refine ⟨by decide, nofun, fun k => ?_⟩
  have hsource : State.reset.source k = Source.reset := by simp [State.reset, State.source, Merge.reset]
  rw [hsource]
  simp [Source.reset]

theorem timingSound_reset : TimingSound State.reset := by
  unfold TimingSound GridSound InRange
  decide +kernel

theorem chainSound_reset : ChainSound State.reset := fun p => by
  rw [port_reset]; unfold PortSound; decide

theorem cueSound_reset : CueSound State.reset := by
  refine ⟨by decide, List.Pairwise.nil, nofun, nofun, fun _ => ⟨rfl, rfl, fun ch => ?_⟩, nofun, fun h => absurd rfl h, nofun⟩
  simp [State.reset, Cue.reset]

theorem fixturesSound_reset : FixturesSound State.reset := fun p => by
  rw [fixturePort_reset]
  simp [FixtureSound, FixturePort.reset]

theorem sound_reset : State.reset.Sound := by
  exact ⟨queueSound_stateReset, lanesSound_reset, intakeSound_stateReset, ⟨validate_reset_bank, nofun, fun h => absurd rfl h⟩,
    timingSound_reset, canvasSound_reset rfl rfl rfl, chainSound_reset, limiterSound_reset, mergeSound_reset, cueSound_reset,
    driveSound_reset rfl, fixturesSound_reset⟩

end

/-! ### The state after reset holds the values of the reset tables -/

section

theorem intake_atDefaults : Intake.reset.AtDefaults := by simp [Intake.AtDefaults, Intake.reset]

theorem timing_atDefaults : Timing.reset.AtDefaults 0 := by
  refine ⟨rfl, rfl, rfl, rfl, rfl, rfl, rfl, rfl, rfl, rfl, rfl, rfl, rfl, rfl, rfl, rfl, rfl, fun i => ?_, rfl, rfl⟩
  simp [Timing.reset]

theorem bank_atDefaults : Bank.reset.AtDefaults := by
  refine ⟨fun i => ?_, fun c => ?_, fun k => ?_, rfl, rfl, fun i => ?_, fun i => ?_, fun ch => ?_, fun p => ?_⟩
  · simp [Bank.reset, TileEntry.reset]
  · simp [Bank.reset]
  · simp [Bank.reset]
  · have hi : i.val * 65535 / 1023 < 65536 := by omega
    simp [Bank.reset, Nat.mod_eq_of_lt hi]
  · have hi : 64 * i.val < 65536 := by omega
    simp [Bank.reset, Nat.mod_eq_of_lt hi]
  · simp [Bank.reset, PatchEntry.reset]
  · simp [Bank.reset]

theorem banks_atDefaults : Banks.reset.AtDefaults := ⟨bank_atDefaults, bank_atDefaults, rfl, rfl, rfl, rfl, rfl, rfl, rfl⟩

theorem level_atDefaults : LevelPath.reset.AtDefaults := ⟨fun c => by simp [LevelPath.reset], rfl⟩

theorem canvas_atDefaults : Canvas.reset.AtDefaults := ⟨rfl, rfl, rfl, rfl, rfl, rfl, rfl, rfl, rfl, rfl, rfl⟩

theorem port_atDefaults : Port.reset.AtDefaults :=
  ⟨rfl, rfl, rfl, rfl, rfl, rfl, rfl, rfl, rfl, rfl, rfl, rfl, rfl, rfl, rfl⟩

theorem chainLimiter_atDefaults : ChainLimiter.reset.AtDefaults := ⟨rfl, rfl, rfl, rfl, rfl, rfl, rfl, rfl⟩

theorem merge_atDefaults : Merge.reset.AtDefaults := by
  refine ⟨rfl, rfl, fun ch => by simp [Merge.reset], fun k => ?_⟩
  simp [Merge.reset, Source.reset, Source.AtDefaults]

theorem cue_atDefaults : Cue.reset.AtDefaults :=
  ⟨rfl, rfl, rfl, rfl, rfl, rfl, rfl, rfl, rfl, rfl, fun ch => by simp [Cue.reset], rfl⟩

theorem pwmOutput_atDefaults : PwmOutput.reset.AtDefaults := ⟨rfl, rfl, rfl, rfl⟩

theorem fixturePort_atDefaults : FixturePort.reset.AtDefaults := ⟨rfl, rfl, rfl, rfl, rfl, rfl, rfl, rfl, rfl, rfl, rfl, rfl⟩

theorem mgmt_atDefaults : Mgmt.reset.AtDefaults := ⟨rfl, rfl, fun kind => by cases kind <;> decide, rfl, rfl⟩

theorem reset_atDefaults : State.reset.AtDefaults := by
  refine ⟨intake_atDefaults, timing_atDefaults, banks_atDefaults, level_atDefaults, canvas_atDefaults, fun p => ?_, rfl,
    fun c => ?_, merge_atDefaults, cue_atDefaults, fun o => ?_, fun p => ?_, mgmt_atDefaults, by decide +kernel⟩
  · rw [port_reset]; exact port_atDefaults
  · have hchain : State.reset.chain c = ChainLimiter.reset := by simp [State.reset, State.chain, Limiter.reset]
    rw [hchain]; exact chainLimiter_atDefaults
  · have hoff : State.reset.drive.get o = PwmOutput.reset := by simp [State.reset]
    rw [hoff]; exact pwmOutput_atDefaults
  · rw [fixturePort_reset]; exact fixturePort_atDefaults

end

/-! ### The ports whose partner is present enter TRAINING (R97) -/

/-- A port at its defaults, and one that trains from them. -/
def Port.atReset (partner : Bool) : Port := { Port.reset with partner := partner }
def Port.inTraining : Port := { Port.reset with partner := true, state := .training, offer := some .four }

/-- The CHAIN_STATE event of a port that enters TRAINING after a reset. -/
def trainingEvent (p : Fin 8) : List Byte := chainEvent p .down .training none ChainCause.partnerPresent.code

/-- The Report Queue told of the ports of a list, each entering TRAINING. -/
def Mgmt.toldTraining (l : List (Fin 8)) (m : Mgmt) : Mgmt := l.foldl (fun m p => m.offer .chainState (trainingEvent p)) m

/-- The state in which the ports of a list have entered TRAINING, in its order. -/
def State.withTraining (l : List (Fin 8)) (s : State) : State :=
  ((s.setPorts (s.ports.mapFin fun p x => if p ∈ l then Port.inTraining else x)).setSent
    (s.sent ++ l.map fun p => .chain p .four (.pattern .four))).setMgmt (s.mgmt.toldTraining l)

section
variable {s : State}

theorem withTraining_nil (s : State) : s.withTraining [] = s := by
  have hports : (s.ports.mapFin fun p x => if p ∈ ([] : List (Fin 8)) then Port.inTraining else x) = s.ports :=
    Tab.ext_get fun q => by rw [Tab.get_mapFin, if_neg (List.not_mem_nil)]
  rw [State.withTraining, hports, List.map_nil, List.append_nil]
  rfl

theorem tryTraining_of_present {p : Fin 8} (h : s.port p = Port.atReset true) :
    tryTraining p .partnerPresent s = s.withTraining [p] := by
  have hmay : (s.port p).mayTrain := by rw [h]; exact ⟨rfl, rfl, rfl⟩
  have hports : (s.ports.mapFin fun q x => if q ∈ [p] then Port.inTraining else x) = s.ports.set p Port.inTraining :=
    Tab.ext_get fun q => by
      rw [Tab.get_mapFin, Tab.get_set]
      simp only [List.mem_singleton, eq_comm]
  rw [tryTraining_of_may p s _ hmay, enterTraining_eq, h, State.withTraining, hports]
  rfl

theorem tryTraining_of_absent {p : Fin 8} (h : s.port p = Port.atReset false) : tryTraining p .partnerPresent s = s :=
  tryTraining_of_not p s _ fun ⟨_, hpartner, _⟩ => absurd ((congrArg Port.partner h).symm.trans hpartner) nofun

theorem withTraining_port (l : List (Fin 8)) (p : Fin 8) :
    (s.withTraining l).port p = if p ∈ l then Port.inTraining else s.port p := by
  change (s.ports.mapFin fun p x => if p ∈ l then Port.inTraining else x).get p = _
  rw [Tab.get_mapFin]
  rfl

theorem withTraining_withTraining (l : List (Fin 8)) (p : Fin 8) (s : State) :
    (s.withTraining [p]).withTraining l = s.withTraining (p :: l) := by
  have hports : ((s.withTraining [p]).ports.mapFin fun q x => if q ∈ l then Port.inTraining else x) =
      s.ports.mapFin fun q x => if q ∈ p :: l then Port.inTraining else x := Tab.ext_get fun q => by
    have hq := withTraining_port (s := s) [p] q
    change (s.withTraining [p]).ports.get q = _ at hq
    rw [Tab.get_mapFin, Tab.get_mapFin, hq]
    by_cases hl : q ∈ l
    · rw [if_pos hl, if_pos (List.mem_cons_of_mem p hl)]
    · by_cases hp : q = p <;> simp [hl, hp, State.port]
  have hsent : (s.withTraining [p]).sent ++ l.map (fun q => Emission.chain q .four (.pattern .four)) =
      s.sent ++ (p :: l).map fun q => Emission.chain q .four (.pattern .four) := List.append_assoc _ _ _
  rw [State.withTraining, hports, hsent]
  rfl

/-- Over ports at their defaults, exactly those whose partner is present enter TRAINING. -/
theorem foldl_tryTraining {partner : Fin 8 → Bool} {l : List (Fin 8)} (hl : l.Nodup)
    (h : ∀ p ∈ l, s.port p = Port.atReset (partner p)) :
    l.foldl (fun u p => tryTraining p .partnerPresent u) s = s.withTraining (l.filter partner) := by
  induction l generalizing s with
  | nil => exact (withTraining_nil s).symm
  | cons p l ih =>
    obtain ⟨hp, hl⟩ := List.nodup_cons.1 hl
    have hport := h p List.mem_cons_self
    rw [List.foldl_cons]
    cases hpartner : partner p with
    | true =>
      rw [hpartner] at hport
      rw [List.filter_cons_of_pos hpartner, tryTraining_of_present hport, ih hl, withTraining_withTraining]
      intro q hq
      rw [withTraining_port, if_neg (by rw [List.mem_singleton]; rintro rfl; exact hp hq)]
      exact h q (List.mem_cons_of_mem p hq)
    | false =>
      rw [hpartner] at hport
      rw [List.filter_cons_of_neg (by rw [hpartner]; nofun), tryTraining_of_absent hport,
        ih hl fun q hq => h q (List.mem_cons_of_mem p hq)]

theorem trainPresent_of_atReset {partner : Fin 8 → Bool} (h : ∀ p, s.port p = Port.atReset (partner p)) :
    trainPresent s = s.withTraining ((List.finRange 8).filter partner) :=
  foldl_tryTraining (List.nodup_finRange 8) fun p _ => h p

theorem Mgmt.offer_of_admitted {m : Mgmt} {kind : EventKind} {body : List Byte} (hsel : m.selects kind = true)
    (hroom : m.queue.length < Config.eventRoom) : m.offer kind body = { m with
      queue := m.queue ++ [.event kind body]
      counters := { m.counters with eventsAdmitted := bump m.counters.eventsAdmitted } } := by
  rw [Mgmt.offer, hsel]
  exact if_pos hroom

/-- The Report Queue after reset has room for the events of all ports, and its mask selects them. -/
theorem toldTraining_reset {l : List (Fin 8)} (h : l.length ≤ 8) : Mgmt.reset.toldTraining l = { Mgmt.reset with
    queue := l.map fun p => .event .chainState (trainingEvent p)
    counters := { Mgmt.reset.counters with eventsAdmitted := BitVec.ofNat 16 l.length } } := by
  induction l using List.reverseRecOn with
  | nil => rfl
  | append_singleton l p ih =>
    have hlen : l.length < 8 := by rw [List.length_append] at h; exact h
    have hbump : ∀ n < 8, bump (BitVec.ofNat 16 n) = BitVec.ofNat 16 (n + 1) := by decide
    have hroom : (l.map fun p => Report.event .chainState (trainingEvent p)).length < Config.eventRoom := by
      rw [List.length_map]; exact lt_trans hlen (by decide)
    have hmask : Mgmt.reset.selects .chainState = true := by decide
    have hsel : ∀ queue counters, { Mgmt.reset with queue := queue, counters := counters }.selects .chainState = true :=
      fun _ _ => hmask
    have hlast : Mgmt.reset.toldTraining (l ++ [p]) = (Mgmt.reset.toldTraining l).offer .chainState (trainingEvent p) :=
      List.foldl_append
    rw [hlast, ih hlen.le, Mgmt.offer_of_admitted (hsel _ _) hroom, List.map_append, List.length_append, List.length_singleton,
      ← hbump _ hlen]
    rfl

end

theorem withTraining_setIntake (l : List (Fin 8)) (x : Intake) (s : State) :
    (s.setIntake x).withTraining l = (s.withTraining l).setIntake x := rfl

theorem defaults_port (gp : Tab 4 Bool) (s : State) (p : Fin 8) :
    (defaults gp s).port p = Port.atReset (s.port p).partner := by
  simp [State.port, defaults, resetPorts, Port.atReset]

/-- The ports after either reset: those whose partner is present in TRAINING, the others at their defaults. -/
theorem defaults_withTraining_ports (gp : Tab 4 Bool) (s : State) :
    (((defaults gp s).withTraining ((List.finRange 8).filter fun p => (s.port p).partner)).ports) =
      s.ports.map fun x => if x.partner then Port.inTraining else Port.reset := Tab.ext_get fun p => by
  have hp := withTraining_port (s := defaults gp s) ((List.finRange 8).filter fun p => (s.port p).partner) p
  rw [defaults_port] at hp
  refine hp.trans ?_
  rw [Tab.get_map, ← State.port]
  cases hpartner : (s.port p).partner <;> simp [hpartner, Port.atReset, Port.reset]

theorem trainPresent_defaults (gp : Tab 4 Bool) (s : State) : trainPresent (defaults gp s) =
    (defaults gp s).withTraining ((List.finRange 8).filter fun p => (s.port p).partner) :=
  trainPresent_of_atReset (defaults_port gp s)

theorem trainPresent_defaults_kept (gp : Tab 4 Bool) (s : State) (x : Intake) : trainPresent ((defaults gp s).setIntake x) =
    ((defaults gp s).withTraining ((List.finRange 8).filter fun p => (s.port p).partner)).setIntake x :=
  (trainPresent_of_atReset (s := (defaults gp s).setIntake x) (defaults_port gp s)).trans (withTraining_setIntake _ _ _)

/-- Settles O53: the state after reset is sound and at its tables' values; either reset is it with the ports in TRAINING. -/
theorem resetsRestoreDefaults : Obligations.ResetsRestoreDefaults := by
  refine ⟨sound_reset, reset_atDefaults, fun s gp => ?_⟩
  intro present training event defaults
  have hlength : present.length ≤ 8 := List.length_filter_le _ (List.finRange 8)
  have hdefaults : (Machine.defaults gp s).withTraining present = defaults := by
    have hports : ((Machine.defaults gp s).ports.mapFin fun p x => if p ∈ present then Port.inTraining else x) =
        s.ports.map fun x => if x.partner then Port.inTraining else Port.reset := defaults_withTraining_ports gp s
    have hmgmt : (Machine.defaults gp s).mgmt.toldTraining present = _ := toldTraining_reset hlength
    have hsent : (Machine.defaults gp s).sent ++ present.map (fun p => Emission.chain p .four (.pattern .four)) = _ :=
      List.nil_append _
    rw [State.withTraining, hports, hmgmt, hsent]
    rfl
  refine ⟨?_, ?_⟩
  · exact congrArg Host.Outcome.next ((trainPresent_defaults gp s).trans hdefaults)
  · refine congrArg Host.Outcome.next ((trainPresent_defaults_kept gp s _).trans ?_)
    rw [hdefaults]
    rfl

end Sys2Proof.Machine
end

section
/-! SUPPORT. The status records, their counters as one list, and the flags and counters a clear leaves (R180, R184). -/

namespace Sys2Proof.Machine

/-! ### The counters of a record -/

/-- Counters in the order of a record, each in 2 bytes. -/
def countBytes (l : List Counter) : List Byte := l.flatMap fun c => u16 c.toNat

theorem countBytes_cons (c : Counter) (l : List Counter) : countBytes (c :: l) = c16 c ++ countBytes l := rfl

theorem countBytes_nil : countBytes [] = [] := rfl

theorem intakeCounters_bytes (k : IntakeCounters) : k.bytes = countBytes [k.skippedBytes, k.lengthErrors, k.crcErrors,
    k.abortedUnits, k.linkLosses, k.notAddressed, k.unmatched, k.filtered, k.classLengthErrors, k.managementUnits,
    k.laneOverflows, k.pictureUnits, k.bufferOverflows, k.levelUnits, k.timeMarks, k.marksReplaced] := by
  simp only [IntakeCounters.bytes, countBytes_cons, countBytes_nil, List.append_assoc, List.append_nil]

theorem timingCounters_bytes (k : TimingCounters) : k.bytes = countBytes [k.invalidReferences, k.acquisitionTimeouts,
    k.locks, k.holdoverEntries, k.marksTaken, k.lateMarks, k.renumberings] := by
  simp only [TimingCounters.bytes, countBytes_cons, countBytes_nil, List.append_assoc, List.append_nil]

theorem bankCounters_bytes (k : BankCounters) : k.bytes = countBytes [k.takesAccepted, k.takesCommitted, k.lateTakes,
    k.validationsFailed, k.requestsNotAccepted, k.takesCancelled, k.clones] := by
  simp only [BankCounters.bytes, countBytes_cons, countBytes_nil, List.append_assoc, List.append_nil]

theorem canvasCounters_bytes (k : CanvasCounters) : k.bytes = countBytes [k.framesAssigned, k.framesPresented, k.framesDamaged,
    k.framesSuperseded, k.framesAbandoned, k.lateUnits, k.outOfOrderUnits, k.outsideCanvasUnits, k.clippedUnits,
    k.unassignedUnits] := by
  simp only [CanvasCounters.bytes, countBytes_cons, countBytes_nil, List.append_assoc, List.append_nil]

theorem portCounters_bytes (k : PortCounters) : k.bytes = countBytes [k.trainingFailures, k.badExchanges, k.recoveries,
    k.recoveryFailures, k.censusRuns, k.overbookedIntervals, k.framesBroken, k.droppedSegments, k.normalMarkers,
    k.repeatMarkers, k.capsSent] := by
  simp only [PortCounters.bytes, countBytes_cons, countBytes_nil, List.append_assoc, List.append_nil]

theorem fixtureCounters_bytes (k : FixtureCounters) : k.bytes = countBytes [k.framesSent, k.lateFrames, k.queriesSent,
    k.repliesGood, k.repliesBad, k.noReplies, k.receivedCharacters, k.unsolicitedFrames, k.framesDiscarded,
    k.overrunFrames] := by
  simp only [FixtureCounters.bytes, countBytes_cons, countBytes_nil, List.append_assoc, List.append_nil]

theorem mgmtCounters_bytes (k : MgmtCounters) : k.bytes = countBytes [k.stalls, k.malformedUnits, k.answersQueued,
    k.eventsAdmitted, k.eventsLost, k.eventsMasked, k.reportsTransmitted, k.reportsResent] := by
  simp only [MgmtCounters.bytes, countBytes_cons, countBytes_nil, List.append_assoc, List.append_nil]

/-! ### Parts of the records in the order of their values -/

theorem intakeRecord_eq (x : Intake) : intakeRecord x = u8 x.link.code ++ u8 x.framer.code ++ [x.unitAddress] ++
    flag (!x.locked) ++ x.label.data ++ u8 x.inUse ++ every FilterEntry.bytes x.entries ++ u8 x.lane.length ++
    u8 x.buffer.length ++ opt (fun m : TimeMark => frameBytes m.frame) x.slot ++ flag x.linkLost ++ flag x.laneOverflow ++
    countBytes [x.counters.skippedBytes, x.counters.lengthErrors, x.counters.crcErrors, x.counters.abortedUnits,
      x.counters.linkLosses, x.counters.notAddressed, x.counters.unmatched, x.counters.filtered,
      x.counters.classLengthErrors, x.counters.managementUnits, x.counters.laneOverflows, x.counters.pictureUnits,
      x.counters.bufferOverflows, x.counters.levelUnits, x.counters.timeMarks, x.counters.marksReplaced] := by
  rw [intakeRecord, intakeCounters_bytes]
  rfl

/-- A return port carries no unfed tiles: one presence byte for them (R116). -/
theorem unfed_bytes (s : State) (p : Fin 8) : opt u8 (if isReturnPort s.activeBank p then none else some (s.port p).unfed) =
    if isRing s.activeBank p && decide (p.val % 2 = 1) then u8 0 else u8 1 ++ u8 (s.port p).unfed := by
  have hodd : (!isPrimary p) = decide (p.val % 2 = 1) := by
    rcases Nat.mod_two_eq_zero_or_one p.val with h | h <;> simp [isPrimary, h]
  rw [isReturnPort, hodd]
  split <;> rfl

theorem portRecord_eq (s : State) (p : Fin 8) : portRecord s p = u8 (s.port p).state.code ++ lanesBytes (s.port p).width ++
    opt (fun w : Lanes => u8 w.toNat ++ u8 (s.port p).count) (s.port p).offer ++ opt u8 (s.port p).holdoff ++
    u8 (s.port p).census ++ flag (s.port p).window.isSome ++ u8 (s.port p).surplus ++ u8 (s.port p).latch.inForce ++
    flag (s.port p).disable.isSome ++ flag (s.port p).retrain ++ opt u16 (s.port p).cap ++
    opt (fun d : Nat × Rate => u8 d.1 ++ u8 d.2.code) (s.port p).latch.choice ++ flag (s.port p).latch.pixelData ++
    u32 (s.port p).latch.pixels ++ u8 (fedTiles (s.port p).latch).length ++ flag (s.port p).broken ++
    (if isRing s.activeBank p && decide (p.val % 2 = 1) then u8 0 else u8 1 ++ u8 (s.port p).unfed) ++
    u16 (s.port p).errors ++ flag (s.port p).presenceChanged ++ flag (s.port p).widthNarrowed ++
    flag (s.port p).retrainDone ++ flag (isOverbooked (s.port p).latch) ++
    countBytes [(s.port p).counters.trainingFailures, (s.port p).counters.badExchanges, (s.port p).counters.recoveries,
      (s.port p).counters.recoveryFailures, (s.port p).counters.censusRuns, (s.port p).counters.overbookedIntervals,
      (s.port p).counters.framesBroken, (s.port p).counters.droppedSegments, (s.port p).counters.normalMarkers,
      (s.port p).counters.repeatMarkers, (s.port p).counters.capsSent] := by
  unfold portRecord
  dsimp only
  rw [unfed_bytes, Latch.bytes, portCounters_bytes]
  simp only [← List.append_assoc]

theorem limiterRecord_eq (x : ChainLimiter) : limiterRecord x = u16 x.budget ++ u16 x.step ++ u16 x.gain ++ u16 x.target ++
    flag (decide (x.gain < 4096)) ++ opt (fun d : Nat × FrameNo => u16 d.1 ++ frameBytes d.2) x.demand ++
    opt (list8 u16) x.tiles ++ flag x.unattainable ++
    countBytes [x.counters.updates, x.counters.attacks, x.counters.floored] := by
  simp only [limiterRecord, countBytes_cons, countBytes_nil, List.append_assoc, List.append_nil]

theorem sourceCounts_eq (x : Source) : c16 x.levelUnits ++ c16 x.silences = countBytes [x.levelUnits, x.silences] := by
  simp only [countBytes_cons, countBytes_nil, List.append_nil]

/-- The take state of a bank record, with what the take holds (R61). -/
def takeBytes : TakeState → List Byte
  | .idle => u8 0 ++ u8 0
  | .validating r => u8 1 ++ (u8 1 ++ (frameBytes r.frame ++ originBytes r.origin))
  | .pending r => u8 2 ++ (u8 1 ++ (frameBytes r.frame ++ originBytes r.origin))

theorem takeBytes_eq (x : TakeState) :
    u8 x.code ++ opt (fun r : TakeRecord => frameBytes r.frame ++ originBytes r.origin) x.record = takeBytes x := by
  cases x <;> rfl

/-- The outcome of the last take, each reason of a failure by itself (R61). -/
def lastBytes : TakeOutcome → List Byte
  | .none => u8 0
  | .committed effective late => u8 1 ++ frameBytes effective ++ flag late
  | .failed (.validation f) => u8 2 ++ (u8 0 ++ u8 f.check.code ++ u8 f.check.table ++ u16 f.index)
  | .failed .alreadyPending => u8 2 ++ u8 1
  | .failed .bankBusy => u8 2 ++ u8 2
  | .cancelled => u8 3

theorem outcomeBytes_eq (x : TakeOutcome) : outcomeBytes x = lastBytes x := by
  cases x with
  | none => rfl
  | committed effective late => rfl
  | failed reason => cases reason <;> rfl
  | cancelled => rfl

theorem activeLetter_eq (s : State) : u8 (activeLetter s) = flag (!s.banks.aActive) := by
  unfold activeLetter flag
  cases s.banks.aActive <;> rfl

theorem bankRecord_eq (s : State) : bankRecord s = flag (!s.banks.aActive) ++ flag s.banks.clone.isSome ++ takeBytes s.banks.take ++
    lastBytes s.banks.last ++ flag s.banks.lateTake ++ flag s.banks.takeFailed ++ s.banks.counters.bytes := by
  unfold bankRecord
  dsimp only
  rw [← takeBytes_eq, outcomeBytes_eq, activeLetter_eq]
  simp only [List.append_assoc]

/-- The state HALTED was entered from, behind its presence byte (R158). -/
def leftBytes : PlayState → List Byte
  | .haltedDelay => u8 1 ++ u8 1
  | .haltedFading => u8 1 ++ u8 2
  | .idle => u8 0
  | .delay => u8 0
  | .fading => u8 0
  | .resting => u8 0

theorem leftBytes_eq (x : PlayState) : opt u8 x.left = leftBytes x := by cases x <;> rfl

/-- The origin of the last accepted Go, behind its presence byte (R158). -/
def lastGoBytes : GoOrigin → List Byte
  | .none => u8 0
  | .command g => u8 1 ++ (u8 0 ++ [g])
  | .contact i => u8 1 ++ (u8 1 ++ u8 i.val)
  | .follow => u8 1 ++ u8 2
  | .back => u8 1 ++ u8 3

theorem lastOriginBytes_eq (x : GoOrigin) : lastOriginBytes x = lastGoBytes x := by
  unfold lastOriginBytes
  cases x <;> rfl

theorem cueRecord_eq (c : Cue) : cueRecord c = u8 c.state.code ++ leftBytes c.state ++ opt u16 c.current ++ opt u16 c.target ++
    opt u16 (if c.target = none then c.current else c.target) ++ u16 c.delayLeft ++ frameBytes c.start ++ u16 c.elapsed ++
    u16 (c.fade.data.countP Option.isSome) ++ u16 (c.cover.data.countP Option.isSome) ++ opt frameBytes c.follow ++
    u8 c.list.length ++ lastGoBytes c.origin ++ countBytes [c.counters.gosAccepted, c.counters.contactGosRefused,
      c.counters.followsRefused, c.counters.fadesCompleted, c.counters.fadesInterrupted] := by
  unfold cueRecord
  rw [referenceCue_eq, leftBytes_eq, lastOriginBytes_eq]
  simp only [countBytes_cons, countBytes_nil, List.append_assoc, List.append_nil]

/-- The duty an output shows, and the duty held where the light is (R163). -/
def shownHeldBytes (held : Bool) (n : Nat) : Shown → List Byte
  | .idle => u8 0 ++ u8 0
  | .duty d => u8 1 ++ u16 (min d n) ++ u8 0 ++ (if held then u8 1 ++ u16 d else u8 0)
  | .warm total w => u8 1 ++ u16 (min w (min total n)) ++ u8 1 ++ u16 (min total n) ++ u8 0 ++
    (if held then u8 1 ++ u16 w else u8 0)
  | .cool total w => u8 1 ++ u16 (min total n - min w (min total n)) ++ u8 1 ++ u16 (min total n) ++ u8 1 ++
    (if held then u8 1 ++ u16 (total - w) else u8 0)

theorem shownHeldBytes_eq (held : Bool) (n : Nat) (x : Shown) :
    shownBytes n x ++ opt u16 (if held then x.whole else none) = shownHeldBytes held n x := by
  cases held <;> cases x <;> rfl

theorem outputRecord_eq (held : Bool) (n : Nat) (x : PwmOutput) : outputRecord held n x =
    x.inForce.bytes ++ opt PwmSettings.bytes x.requested ++ shownHeldBytes held n x.shown ++ stagedBytes x.staged := by
  rw [outputRecord, ← shownHeldBytes_eq]
  simp only [List.append_assoc]

theorem mergeRecord_eq (s : State) : mergeRecord s = liveBytes (decide (s.cue.state ≠ .idle)) ++ u8 s.merge.priority0 ++
    opt u8 s.merge.request0 ++
    every (fun x : Source => liveBytes x.live ++ u8 x.priority ++ opt u8 x.request) s.merge.sources ++
    every sourceRecord s.merge.sources ++
    every (fun e : LookEntry => c16 e.level ++ u8 (deciderCode e.decider)) s.merge.look ++
    every (fun x : Source => countBytes [x.levelUnits, x.silences]) s.merge.sources := by
  simp only [← sourceCounts_eq]
  rfl

/-! ### The answer of Query Status -/

theorem statusRecord_eq (n : Nat) (s : State) : statusRecord n s = [intakeRecord s.intake, timingRecord s.timing, bankRecord s,
    levelRecord s, canvasRecord s.canvas, chainRecord s, every limiterRecord s.limiter.chains, mergeRecord s,
    cueRecord s.cue, driveRecord s, every (fixtureRecord s.now) s.fixture, managementRecord s][n]? := by
  by_cases h : n ≤ 11
  · interval_cases n <;> rfl
  · obtain ⟨k, rfl⟩ := Nat.exists_eq_add_of_le' (show 12 ≤ n by omega)
    rfl

section
variable {s : State} {tick : Nat} {tag : Byte} {block : Nat}

theorem queryStatus_answers (hroom : hasRoom s = true) {record : List Byte}
    (h : statusRecord block (s.setNow (max s.now tick)) = some record) :
    Answers (exec (.queryStatus tick tag block) s) (s.setNow (max s.now tick)) (.answer tag Code.queryStatus .ok record) := by
  refine answers_exec rfl hroom ?_
  change doQueryStatus tick tag block s = _
  unfold doQueryStatus
  change (match statusRecord block (s.setNow (max s.now tick)) with
    | none => _
    | some record => _) = _
  rw [h]
  rfl

end

end Sys2Proof.Machine
end

section
/-! PROOFS. Query Status, Clear Status, Clear Counters and Flush Inputs (R17, R93, R142, R180, R181). -/

namespace Sys2Proof.Machine

/-! ### Clear Status -/

section
variable {block : Nat} (mask : Nat) (s : State)

/-- A flag of block b after Clear Status of a block with a mask. -/
def keptFlag (block mask b k : Nat) (flag : Bool) : Bool := flag && !(decide (block = b) && mask.testBit k)

theorem keptFlag_eq (b k : Nat) (f : Bool) :
    keptFlag block mask b k f = if block = b then clearFlag mask k f else f := by
  unfold keptFlag clearFlag
  split
  case isTrue h => rw [decide_eq_true h, Bool.true_and]
  case isFalse h => rw [decide_eq_false h, Bool.false_and, Bool.not_false, Bool.and_true]

theorem mapFin_of_kept {n : Nat} {α : Type} {t : Tab n α} {f : Fin n → α → α} (h : ∀ i x, f i x = x) : t.mapFin f = t :=
  Tab.ext_get fun i => by rw [Tab.get_mapFin, h]

theorem map_of_kept {n : Nat} {α : Type} {t : Tab n α} {f : α → α} (h : ∀ x, f x = x) : t.map f = t :=
  Tab.ext_get fun i => by rw [Tab.get_map, h]

/-- The chain ports, the sources and the fixture ports keep their flags but in a clear of their own block. -/
theorem ports_keptFlag : (s.ports.mapFin fun p x => { x with
      presenceChanged := keptFlag block mask 5 (3 * p.val) x.presenceChanged
      widthNarrowed := keptFlag block mask 5 (3 * p.val + 1) x.widthNarrowed
      retrainDone := keptFlag block mask 5 (3 * p.val + 2) x.retrainDone }) =
    if block = 5 then s.ports.mapFin (clearPort mask) else s.ports := by
  simp only [keptFlag_eq]
  split
  case isTrue => rfl
  case isFalse => exact mapFin_of_kept fun _ _ => rfl

theorem sources_keptFlag : (s.merge.sources.mapFin fun k x => { x with
      sourceLost := keptFlag block mask 7 k.val x.sourceLost }) =
    if block = 7 then s.merge.sources.mapFin (clearSource mask) else s.merge.sources := by
  simp only [keptFlag_eq]
  split
  case isTrue => rfl
  case isFalse => exact mapFin_of_kept fun _ _ => rfl

theorem fixture_keptFlag : (s.fixture.mapFin fun p x => { x with
      parity := keptFlag block mask 10 (3 * p.val) x.parity
      framing := keptFlag block mask 10 (3 * p.val + 1) x.framing
      overrun := keptFlag block mask 10 (3 * p.val + 2) x.overrun }) =
    if block = 10 then s.fixture.mapFin (clearFixture mask) else s.fixture := by
  simp only [keptFlag_eq]
  split
  case isTrue => rfl
  case isFalse => exact mapFin_of_kept fun _ _ => rfl

theorem clearFlags_eq (h : block ≤ 11) : clearFlags block mask s = { s with
    intake := { s.intake with
      linkLost := keptFlag block mask 0 0 s.intake.linkLost, laneOverflow := keptFlag block mask 0 1 s.intake.laneOverflow }
    timing := { s.timing with referenceLost := keptFlag block mask 1 0 s.timing.referenceLost }
    banks := { s.banks with
      lateTake := keptFlag block mask 2 0 s.banks.lateTake, takeFailed := keptFlag block mask 2 1 s.banks.takeFailed }
    canvas := { s.canvas with frameDamaged := keptFlag block mask 4 0 s.canvas.frameDamaged }
    ports := s.ports.mapFin fun p x => { x with
      presenceChanged := keptFlag block mask 5 (3 * p.val) x.presenceChanged
      widthNarrowed := keptFlag block mask 5 (3 * p.val + 1) x.widthNarrowed
      retrainDone := keptFlag block mask 5 (3 * p.val + 2) x.retrainDone }
    merge := { s.merge with sources := s.merge.sources.mapFin fun k x => { x with
      sourceLost := keptFlag block mask 7 k.val x.sourceLost } }
    fixture := s.fixture.mapFin fun p x => { x with
      parity := keptFlag block mask 10 (3 * p.val) x.parity, framing := keptFlag block mask 10 (3 * p.val + 1) x.framing
      overrun := keptFlag block mask 10 (3 * p.val + 2) x.overrun }
    mgmt := { s.mgmt with eventsLost := keptFlag block mask 11 0 s.mgmt.eventsLost } } := by
  simp only [ports_keptFlag, sources_keptFlag, fixture_keptFlag]
  simp only [keptFlag_eq]
  interval_cases block <;> rfl

/-! ### Clear Counters -/

theorem ports_keptCounters : (s.ports.map fun x => { x with
      counters := if block = 5 then PortCounters.zero else x.counters }) =
    if block = 5 then s.ports.map fun x => { x with counters := PortCounters.zero } else s.ports := by
  split
  case isTrue => rfl
  case isFalse => exact map_of_kept fun _ => rfl

theorem chains_keptCounters : (s.limiter.chains.map fun x => { x with
      counters := if block = 6 then LimiterCounters.zero else x.counters }) =
    if block = 6 then s.limiter.chains.map fun x => { x with counters := LimiterCounters.zero } else s.limiter.chains := by
  split
  case isTrue => rfl
  case isFalse => exact map_of_kept fun _ => rfl

theorem sources_keptCounters : (s.merge.sources.map fun x => { x with
      levelUnits := if block = 7 then 0 else x.levelUnits, silences := if block = 7 then 0 else x.silences }) =
    if block = 7 then s.merge.sources.map fun x => { x with levelUnits := 0, silences := 0 } else s.merge.sources := by
  split
  case isTrue => rfl
  case isFalse => exact map_of_kept fun _ => rfl

theorem fixture_keptCounters : (s.fixture.map fun x => { x with
      counters := if block = 10 then FixtureCounters.zero else x.counters }) =
    if block = 10 then s.fixture.map fun x => { x with counters := FixtureCounters.zero } else s.fixture := by
  split
  case isTrue => rfl
  case isFalse => exact map_of_kept fun _ => rfl

theorem clearBlock_eq (h : block ≤ 11) : clearBlock block s = { s with
    intake := { s.intake with counters := if block = 0 then IntakeCounters.zero else s.intake.counters }
    timing := { s.timing with counters := if block = 1 then TimingCounters.zero else s.timing.counters }
    banks := { s.banks with counters := if block = 2 then BankCounters.zero else s.banks.counters }
    canvas := { s.canvas with counters := if block = 4 then CanvasCounters.zero else s.canvas.counters }
    ports := s.ports.map fun x => { x with counters := if block = 5 then PortCounters.zero else x.counters }
    limiter := { s.limiter with chains := s.limiter.chains.map fun x => { x with
      counters := if block = 6 then LimiterCounters.zero else x.counters } }
    merge := { s.merge with sources := s.merge.sources.map fun x => { x with
      levelUnits := if block = 7 then 0 else x.levelUnits, silences := if block = 7 then 0 else x.silences } }
    cue := { s.cue with counters := if block = 8 then CueCounters.zero else s.cue.counters }
    fixture := s.fixture.map fun x => { x with
      counters := if block = 10 then FixtureCounters.zero else x.counters }
    mgmt := { s.mgmt with counters := if block = 11 then MgmtCounters.zero else s.mgmt.counters } } := by
  simp only [ports_keptCounters, chains_keptCounters, sources_keptCounters, fixture_keptCounters]
  interval_cases block <;> rfl

end

/-! ### Flush Inputs -/

section
variable {s : State}

theorem flush_of_not_open (h : ∀ r, s.canvas.record = some r → r.state ≠ .isOpen) : flushSources (flushLanes (abandonFrame s)) =
    { s with
      intake := { s.intake with buffer := [], slot := none }
      merge := { s.merge with sources := s.merge.sources.map flushSource } } := by
  have hopen : isOpenRecord s = false := Bool.eq_false_iff.2 fun ho => by
    obtain ⟨r, hr, ho⟩ := (isOpenRecord_iff s).1 ho
    exact h r hr ho
  rw [abandonFrame_of_not_open hopen]
  rfl

theorem flush_of_open {r : FrameRecord} (hr : s.canvas.record = some r) (ho : r.state = .isOpen) :
    flushSources (flushLanes (abandonFrame s)) = { s with
      intake := { s.intake with buffer := [], slot := none }
      canvas := { s.canvas.unmapped with
        record := some { r with state := .abandoned }
        counters := { s.canvas.unmapped.counters with framesAbandoned := bump s.canvas.counters.framesAbandoned } }
      limiter := { s.limiter with accumulation := none }
      merge := { s.merge with sources := s.merge.sources.map flushSource } } := by
  rw [abandonFrame_of_open hr ho]
  rfl

end

/-! ### The obligation -/

section
variable {s : State} {tag : Byte} {block : Nat}

theorem clear_out_of_range (hroom : hasRoom s = true) (mask : Nat) (h : 11 < block) :
    Answers (exec (.clearStatus tag block mask) s) s (.answer tag Code.clearStatus .outOfRange []) ∧
      Answers (exec (.clearCounters tag block) s) s (.answer tag Code.clearCounters .outOfRange []) := by
  have hblock : ¬ isBlock block = true := fun hb => absurd (of_decide_eq_true hb) (by omega)
  exact ⟨answers_exec rfl hroom (if_neg hblock), answers_exec rfl hroom (if_neg hblock)⟩

theorem clearStatus_answers (hroom : hasRoom s = true) (mask : Nat) (h : block ≤ 11) :
    Answers (exec (.clearStatus tag block mask) s) (clearFlags block mask s) (.answer tag Code.clearStatus .ok []) :=
  answers_exec rfl hroom (if_pos (decide_eq_true h))

theorem clearCounters_answers (hroom : hasRoom s = true) (h : block ≤ 11) :
    Answers (exec (.clearCounters tag block) s) (clearBlock block s) (.answer tag Code.clearCounters .ok []) :=
  answers_exec rfl hroom (if_pos (decide_eq_true h))

theorem flushInputs_answers (hroom : hasRoom s = true) : Answers (exec (.flushInputs tag) s)
    (flushSources (flushLanes (abandonFrame s))) (.answer tag Code.flushInputs .ok []) := answers_exec rfl hroom rfl

theorem queryStatus_out_of_range {tick : Nat} (hroom : hasRoom s = true) (h : 11 < block) :
    Answers (exec (.queryStatus tick tag block) s) (s.setNow (max s.now tick))
      (.answer tag Code.queryStatus .outOfRange []) := by
  have hnone : statusRecord block (s.setNow (max s.now tick)) = none := by
    obtain ⟨n, rfl⟩ := Nat.exists_eq_add_of_le' (show 12 ≤ block from h)
    rfl
  refine answers_exec rfl hroom ?_
  change doQueryStatus tick tag block s = _
  unfold doQueryStatus
  change (match statusRecord block (s.setNow (max s.now tick)) with
    | none => _
    | some record => _) = _
  rw [hnone]
  rfl

end

/-- Settles O51: the record of each block, what each clear leaves, and Flush Inputs with and without an OPEN frame. -/
theorem statusCommandsReadAndClear : Obligations.StatusCommandsReadAndClear := by
  refine ⟨fun s tick tag block hroom => ?_, fun s tag block mask hroom => ?_, fun s tag hroom => ⟨fun h => ?_, fun r hr ho => ?_⟩⟩
  · intro now s' frame counts channel settings a k0 intake t k1 grid timing b k2 take bank handed level c k4 canvas lanes chain
      limiter m silent merge q k8 cue n shown staged drive fixture g management
    have hintake : intakeRecord s'.intake = intake := intakeRecord_eq a
    have htiming : timingRecord s'.timing = timing := congrArg (_ ++ ·) (timingCounters_bytes k1)
    have hbank : bankRecord s' = bank := (bankRecord_eq s').trans (congrArg (_ ++ ·) (bankCounters_bytes k2))
    have hlevel : levelRecord s' = level := rfl
    have hcanvas : canvasRecord s'.canvas = canvas := congrArg (_ ++ ·) (canvasCounters_bytes k4)
    have hchain : chainRecord s' = chain := congrArg (fun f => (List.finRange 8).flatMap f) (funext (portRecord_eq s'))
    have hlimiter : every limiterRecord s'.limiter.chains = limiter :=
      congrArg (fun f => s.limiter.chains.data.flatMap f) (funext limiterRecord_eq)
    have hmerge : mergeRecord s' = merge := mergeRecord_eq s'
    have hcue : cueRecord s'.cue = cue := cueRecord_eq q
    have hdrive : driveRecord s' = drive := congrArg (fun f => s.drive.data.flatMap f ++ grid)
      (funext fun x => outputRecord_eq c.lightHold n x)
    have hfixture : every (fixtureRecord s'.now) s'.fixture = fixture := congrArg (fun f => s.fixture.data.flatMap f)
      (funext fun x => congrArg (_ ++ ·) (fixtureCounters_bytes x.counters))
    have hmanagement : managementRecord s' = management := congrArg (_ ++ ·) (mgmtCounters_bytes g.counters)
    constructor
    · intro record h
      have hrecord : statusRecord block s' = some record := by
        rw [statusRecord_eq, hintake, htiming, hbank, hlevel, hcanvas, hchain, hlimiter, hmerge, hcue, hdrive, hfixture,
          hmanagement]
        exact h
      exact queryStatus_answers hroom hrecord
    · exact queryStatus_out_of_range hroom
  · intro kept
    refine ⟨clear_out_of_range hroom mask, fun h => ?_, fun h => ?_⟩
    · have h' := clearStatus_answers (tag := tag) hroom mask h
      rw [clearFlags_eq mask s h] at h'
      exact h'
    · have h' := clearCounters_answers (tag := tag) hroom h
      rw [clearBlock_eq s h] at h'
      exact h'
  · have h' := flushInputs_answers (tag := tag) hroom
    rw [flush_of_not_open h] at h'
    exact h'
  · have h' := flushInputs_answers (tag := tag) hroom
    rw [flush_of_open hr ho] at h'
    exact h'

end Sys2Proof.Machine
end
